-- ==== Sys2Proof/Word.lean ====
section
/-! DEFINITION. The word types of the CI-416 (00_scope.md, "Conventions"): 32-bit words, 24-bit byte
addresses, four byte enables, and window numbers 0 to 15. -/

namespace Sys2Proof

/-- A word is four bytes. -/
abbrev Word := BitVec 32

/-- One byte lane of a word. -/
abbrev Byte := BitVec 8

/-- A byte address of the 16 MiB space. -/
abbrev Addr := BitVec 24

/-- Four byte enables, bit `i` for byte lane `i`. -/
abbrev Lanes := BitVec 4

/-- A window number, 0 to 15 (R1). -/
abbrev Win := Fin 16

end Sys2Proof
end

