-- ==== Sys2Proof/Syntax.lean ====
section
/-! DEFINITION. The commands of the block: one constructor per row of spec/opcode_table.json, with the
operands the outside gives it. -/

namespace Sys2Proof

/-- The answer of image memory to a transaction or half of one (R141): normal, or a memory error
response (section 10.4). -/
inductive Resp where
  | ok
  | err
  deriving DecidableEq, Repr

/-- One bus access (00_scope.md, "Access"): a single-word read or write with an address and four byte
enables; a write carries a data word. -/
structure Access where
  write : Bool
  addr  : Addr
  be    : Lanes
  data  : Word
  deriving DecidableEq, Repr

/-- Which access reaches issue (R89, R90, R110). -/
inductive IssueAt where
  /-- the P port's access next in order: the head of the PWQ or the read in the read slot -/
  | p
  /-- an access that the field engine presents now: the port takes it and it reaches issue (log 13) -/
  | f (a : Access)
  /-- the access that the F port holds stalled -/
  | fHeld
  deriving DecidableEq, Repr

/-- The steps of the part. The docstring of each gives its row's rule. -/
inductive Instr where
  /-- CYC_RISE, R22 -/
  | cycRise
  /-- CYC_FALL, R22 -/
  | cycFall
  /-- FRZ_CHANGE, R32: the FRZ line changes level -/
  | frzChange
  /-- INTERVAL_TIMER_EXPIRY, R23 -/
  | intervalTimerExpiry
  /-- WATCHDOG_EXPIRY, R30 -/
  | watchdogExpiry
  /-- PIN_RESET, R38: RST is asserted -/
  | pinReset
  /-- RST_RELEASE, R161: RST is released with these strap codes and this FRZ level -/
  | rstRelease (memsz : BitVec 3) (cbsel : BitVec 8) (frz : Bool)
  /-- P_WRITE_TAKE, R108 -/
  | pWriteTake (addr : Addr) (be : Lanes) (data : Word)
  /-- P_READ_TAKE, R109 -/
  | pReadTake (addr : Addr) (be : Lanes)
  /-- ACCESS_ISSUE, R89 -/
  | accessIssue (port : IssueAt)
  /-- START, R26: the command word at the head of the PWQ is issued and taken (log 4) -/
  | start
  /-- STOP, R35 -/
  | stop
  /-- RESET, R160 -/
  | reset
  /-- CLEARERR, R149 -/
  | clearerr
  /-- LOAD, R132 -/
  | load
  /-- SWITCH, R136 -/
  | switch
  /-- CANCEL, R137 -/
  | cancel
  /-- HOLD, R52 -/
  | hold
  /-- RELEASE, R53 -/
  | release
  /-- COMMIT, R68 -/
  | commit
  /-- REARM, R55 -/
  | rearm
  /-- UNKNOWN_COMMAND, R151 -/
  | unknownCommand
  /-- READ_CLEAR, R158: the read-clear read is granted; `answer` is what memory will answer (log 9) -/
  | readClear (answer : Resp)
  /-- MP_GRANT, R143; `answer` matters only if the grant goes to a read-clear read (log 9) -/
  | mpGrant (answer : Resp)
  /-- P_ACCESS_COMPLETE, R111 -/
  | pAccessComplete (r : Resp)
  /-- F_ACCESS_COMPLETE, R104 -/
  | fAccessComplete (r : Resp)
  /-- MERGE_PAIR_COMPLETE, R114 -/
  | mergePairComplete (r : Resp)
  /-- DEMAND_COPY_COMPLETE, R116 -/
  | demandCopyComplete (r : Resp)
  /-- COPY_JOB_START, R79 -/
  | copyJobStart
  /-- CARRY_PAIR_COMPLETE, R81 -/
  | carryPairComplete (r : Resp)
  /-- LOOP_PAIR_COMPLETE, R85 -/
  | loopPairComplete (r : Resp)
  /-- SWAP_PERFORM, R16, of window `w` -/
  | swapPerform (w : Win)
  /-- LOAD_READ_COMPLETE, R128 -/
  | loadReadComplete (r : Resp)
  /-- START_LOAD_END, R131 -/
  | startLoadEnd
  /-- FETCH_READ_COMPLETE, R133 -/
  | fetchReadComplete (r : Resp)
  /-- WRITEBACK_RECORD, R156 -/
  | writebackRecord
  /-- WRITEBACK_WORD_COMPLETE, R156 -/
  | writebackWordComplete (r : Resp)
  /-- NOTICE_OFFER, R124, with the acceptance input seen at level `accept` (log 12) -/
  | noticeOffer (accept : Bool)
  /-- NOTICE_ACCEPT, R124: a rising edge of the acceptance input -/
  | noticeAccept
  /-- NOTICE_TIMEOUT, R125 -/
  | noticeTimeout
  /-- DRAIN_END, R37 -/
  | drainEnd
  /-- RESET_VALUES, R160 -/
  | resetValues
  /-- RESET_PASS_END, R160 -/
  | resetPassEnd
  /-- READ_HALF_RESPONSE, R141: a normal response to the read half of a locked pair -/
  | readHalfResponse
  deriving DecidableEq, Repr

end Sys2Proof
end

