-- ==== Sys2Proof/Decode.lean ====
section
/-! DEFINITION. No row of spec/opcode_table.json gives bits (every row's "fields" is empty and none has
"fixed"), so no word spells a command. -/

namespace Sys2Proof

/-- The command that a word spells by the table's bits: none, for every word. The command words of
software are decoded in Machine/Operands.lean, where the part takes them (R151). -/
def decodeTableWord (_nbits _w : Nat) : Option Instr := none

end Sys2Proof
end

