-- ==== Sys2Proof/Machine/State.lean ====
section
/-! DEFINITION. The state of the CI-416, block by block as 00_scope.md "Block diagram" lists it, the
reasons to stop (there are none), and the state after reset. -/

namespace Sys2Proof.Machine

/-! ## Names -/

/-- KIND of a descriptor (R3). -/
inductive Kind where
  | input
  | output
  deriving DecidableEq, Repr

/-- POLICY on an output underrun (R3): REPEAT or SAFE. -/
inductive Policy where
  | keepLast
  | safe
  deriving DecidableEq, Repr

/-- State of a window (R1). -/
inductive WState where
  | idle
  | filling
  | filled
  | blocked
  | composing
  | committed
  | tripped
  | fault
  deriving DecidableEq, Repr

/-- The two context slots (R2). -/
inductive SlotName where
  | a
  | b
  deriving DecidableEq, Repr

/-- Last refusal reason (R1, R153). -/
inductive Reason where
  | none
  | badkind
  | badstate
  | busy
  | invalid
  | idle
  deriving DecidableEq, Repr

/-- Controller state (R20). -/
inductive CState where
  | stopped
  | loading
  | armed
  | aligning
  | running
  | frozen
  | lost
  | draining
  | resetting
  deriving DecidableEq, Repr

/-- Where RESETTING stands (R160): not in it, waiting for the completions, writing the reset pass, or
after the pass's last word. -/
inductive ResetPhase where
  | inactive
  | waiting
  | pass
  | passDone
  deriving DecidableEq, Repr

/-- FREEZEMODE (R21). -/
inductive FreezeMode where
  | ignore
  | all
  | inputs
  deriving DecidableEq, Repr

/-- ARBMODE (R144, R145). -/
inductive ArbMode where
  | fixed
  | rotating
  deriving DecidableEq, Repr

/-- Requesters of the M port (R142). -/
inductive Requester where
  | f
  | p
  | k
  | c
  deriving DecidableEq, Repr

/-- The 18 status records (R155). -/
inductive RecName where
  | global
  | result
  | win (w : Win)
  deriving DecidableEq, Repr

/-- Source recorded by the error latch (R148). -/
inductive ErrSource where
  | p
  | f
  | mu
  | ce
  | k
  deriving DecidableEq, Repr

/-- Direction of a transaction or half (R148). -/
inductive Dir where
  | read
  | write
  deriving DecidableEq, Repr

/-- The bit operation of a merge pair (R64). -/
inductive MergeOp where
  | or
  | clear
  | toggle
  deriving DecidableEq, Repr

/-- Result of a command's taking (R154). -/
inductive ResultCode where
  | done
  | partly
  | refused
  | badstate
  | unknown
  deriving DecidableEq, Repr

/-- The answer a master gets on its own bus (R105). -/
inductive Answer where
  | none
  | data (w : Word)
  | readError
  | writeOk
  | writeError
  deriving DecidableEq, Repr

/-! ## Window records -/

/-- A descriptor as the part keeps it in a slot (R3, section 12.2). -/
structure Descriptor where
  enable      : Bool
  kind        : Kind
  cached      : Bool
  policy      : Policy
  transparent : Bool
  loop        : Bool
  loopSrc     : Win
  missLimit   : BitVec 4
  expect      : BitVec 10
  len         : Nat
  liveOff     : Nat
  liveLen     : Nat
  pview       : Addr
  fview       : Addr
  bank0       : Addr
  bank1       : Addr
  safepat     : Word
  deriving DecidableEq, Repr

/-- A member of a swap's wait set (R13): the access in flight on a port, or the copy job whose
destination is `d` (the window's own CARRY job, or a LOOP job reading the window). -/
inductive WaitMember where
  | p
  | f
  | job (d : Win)
  deriving DecidableEq, Repr

/-- One window record (R1), with its wait set and coalesced mark (R13) and the published set of its
word 3 (R158). A slot is `none` when it is INVALID. The carry map lists its marks in ascending
order. -/
structure Window where
  slotA         : Option Descriptor
  slotB         : Option Descriptor
  active        : SlotName
  state         : WState
  valid         : Bool
  held          : Bool
  safe          : Bool
  swapPending   : Bool
  fence         : Bool
  switchPending : Bool
  role          : Bool
  fill          : BitVec 10
  miss          : BitVec 4
  lost          : BitVec 8
  blocked       : BitVec 8
  drops         : BitVec 8
  lastSwap      : BitVec 32
  events        : BitVec 14
  published     : BitVec 14
  refusal       : Reason
  carry         : List Nat
  waitSet       : List WaitMember
  coalesced     : Bool
  deriving DecidableEq, Repr

/-! ## P port, F port and Merge Unit -/

/-- An entry of the Posted Write Queue (R107). The two lowest bits of `addr` are 0. -/
structure PWrite where
  addr : Addr
  be   : Lanes
  data : Word
  deriving DecidableEq, Repr

/-- The read in the read slot (R107). -/
structure PRead where
  addr : Addr
  be   : Lanes
  deriving DecidableEq, Repr

/-- One item of work of the current P access, in order (R113): the pairs of the Merge Unit's plan and
the plain transaction. `clears` is the read-clear mark of R95. -/
inductive PItem where
  | demand (w : Win) (k : Nat) (src dst : Addr)
  | merge (w : Win) (op : MergeOp) (be : Lanes) (data : Word) (target : Addr)
  | plain (dir : Dir) (addr : Addr) (be : Lanes) (data : Word) (clears : Option RecName)
  deriving DecidableEq, Repr

/-- The current P access (R107): the window it accesses, if it is a window access; whether it writes
that window's compose bank at a non-live offset (R76, R113); the work left, head first. -/
structure PAccess where
  win       : Option Win
  bankWrite : Bool
  items     : List PItem
  deriving DecidableEq, Repr

/-- The P port and the Merge Unit (R107). `fenced` is the window, if any, at whose FENCE the access next in order stays
stalled although a switch has moved the window's views away from its address (R100, R140; log 39). -/
structure PPort where
  pwq      : List PWrite
  readSlot : Option PRead
  current  : Option PAccess
  fenced   : Option Win
  deriving DecidableEq, Repr

/-- The F access in flight: the window it accesses, if it is a window access; whether it is a counted
write into that window's fill bank (R55); and its transaction. -/
structure FAccess where
  win       : Option Win
  bankWrite : Bool
  dir       : Dir
  addr      : Addr
  be        : Lanes
  data      : Word
  deriving DecidableEq, Repr

/-- The F port (R90, R102): an access held by a stall, or one in flight. -/
structure FPort where
  held     : Option Access
  inFlight : Option FAccess
  deriving DecidableEq, Repr

/-! ## Copy Engine -/

/-- Kind of a copy job (R77); a LOOP job has its source and next offset. -/
inductive JobKind where
  | carry
  | loop (src : Win) (next : Nat)
  deriving DecidableEq, Repr

/-- A copy job (R77). -/
structure Job where
  kind   : JobKind
  dest   : Win
  urgent : Bool
  deriving DecidableEq, Repr

/-- The Copy Engine (R77, R79): the Copy Queue with the job in progress, if any, at its head; whether
there is a job in progress; and whether request C is presented and not granted. -/
structure CopyEngine where
  jobs    : List Job
  running : Bool
  request : Bool
  deriving DecidableEq, Repr

/-! ## Cycle Controller -/

/-- A member of the drain set (R35, R36), beside the Notice Queue: the access in flight on a port, the
copy pair in flight, the K read in flight. -/
inductive DrainMember where
  | p
  | f
  | pair
  | read
  deriving DecidableEq, Repr

/-- The Cycle Controller (R20). A timer is running or stopped (log 14). -/
structure CycleController where
  state     : CState
  phase     : ResetPhase
  cycle     : BitVec 32
  groupPos  : BitVec 8
  lowSeen   : Bool
  frz       : Bool
  freezeReq : Bool
  interval  : Bool
  watchdog  : Bool
  drainSet  : List DrainMember
  deriving DecidableEq, Repr

/-! ## Notice Unit -/

/-- A cache notice (R120, section 12.4). -/
structure Notice where
  win  : Win
  base : Addr
  len  : BitVec 13
  deriving DecidableEq, Repr

/-- The Notice Unit (R120): the Notice Queue, the windows that hold a reservation, the offer on NTC and
the notice timer. -/
structure NoticeUnit where
  queue        : List Notice
  reservations : List Win
  offer        : Option Notice
  timer        : Bool
  deriving DecidableEq, Repr

/-! ## Control Block Agent -/

/-- The configuration record's values in use or held by a load (R21, R129). `irqMask` of the copy in use
is the interrupt mask (R159). -/
structure ConfigRecord where
  groupLen      : BitVec 8
  freezeMode    : FreezeMode
  arbMode       : ArbMode
  cycTimeout    : BitVec 24
  minInt        : BitVec 16
  noticeTimeout : BitVec 16
  irqMask       : BitVec 15
  deriving DecidableEq, Repr

/-- The result record (R154). Its sequence is the command sequence of R151. -/
structure ResultRecord where
  code    : BitVec 8
  result  : ResultCode
  refused : BitVec 16
  seq     : BitVec 8
  deriving DecidableEq, Repr

/-- A write-back in progress (R156): the record and the next word. -/
structure WriteBack where
  name : RecName
  word : Nat
  deriving DecidableEq, Repr

/-- What requester K presents (R142). -/
inductive KRequest where
  | load
  | fetch
  | writeback
  deriving DecidableEq, Repr

/-- What K presents next when a write-back word and a read both wait (R156). -/
inductive KTurn where
  | writeback
  | read
  deriving DecidableEq, Repr

/-- The START load (R128 to R131): how many of its 264 reads have completed, the words of the record
being read, the configuration record held, and, once the load has ended, whether it succeeded. -/
structure StartLoad where
  count  : Nat
  words  : List Word
  config : Option ConfigRecord
  ending : Option Bool
  deriving DecidableEq, Repr

/-- A descriptor fetch (R133): the window, the target slot and the words read. -/
structure Fetch where
  win   : Win
  slot  : SlotName
  words : List Word
  deriving DecidableEq, Repr

/-- The Control Block Agent. `loadQueue` counts the fetch in progress at its head (R132). -/
structure ControlBlockAgent where
  result    : ResultRecord
  dirty     : List RecName
  writeback : Option WriteBack
  request   : Option KRequest
  turn      : KTurn
  causes    : BitVec 15
  published : BitVec 15
  config    : ConfigRecord
  load      : Option StartLoad
  loadQueue : List Win
  fetch     : Option Fetch
  deriving DecidableEq, Repr

/-! ## Memory Port -/

/-- Whose single transaction is granted (R142, R147). -/
inductive SingleWork where
  | pPlain
  | fAccess
  | loadRead
  | fetchRead
  | writebackWord (name : RecName) (word : Nat)
  | loopFill (d : Win)
  deriving DecidableEq, Repr

/-- A granted single transaction (R141). `foretold` is the answer that memory will give a read-clear
read, fixed when it is granted (log 9). -/
structure Single where
  work     : SingleWork
  dir      : Dir
  addr     : Addr
  be       : Lanes
  data     : Word
  foretold : Option Resp
  deriving DecidableEq, Repr

/-- Whose locked pair is granted (R142). -/
inductive PairWork where
  | merge (w : Win) (op : MergeOp) (be : Lanes) (data : Word)
  | demand (w : Win) (k : Nat)
  | carry (w : Win) (k : Nat)
  | loop (d : Win)
  deriving DecidableEq, Repr

/-- A granted locked pair (R141): a read of `src`, then a write of `dst`. -/
structure Pair where
  work : PairWork
  src  : Addr
  dst  : Addr
  deriving DecidableEq, Repr

/-- The grant state (R141). In PAIR WRITE it holds the data of the write half. -/
inductive Grant where
  | free
  | single (t : Single)
  | pairRead (t : Pair)
  | pairWrite (t : Pair) (data : Word)
  deriving DecidableEq, Repr

/-- The error latch (R148). -/
structure ErrorLatch where
  valid    : Bool
  addr     : Addr
  source   : Option ErrSource
  dir      : Dir
  multiple : Bool
  deriving DecidableEq, Repr

/-- The Memory Port and Arbiter (R141 to R148). -/
structure MemoryPort where
  grant   : Grant
  pointer : Requester
  latch   : ErrorLatch
  deriving DecidableEq, Repr

/-! ## The whole machine -/

/-- Lines and straps (section 12.5), and the last answer on each upstream bus (R105). -/
structure Lines where
  cyc    : Bool
  rst    : Bool
  accept : Bool
  memsz  : BitVec 3
  cbsel  : BitVec 8
  pBus   : Answer
  fBus   : Answer
  deriving DecidableEq, Repr

/-- Image memory: (byte address, byte) pairs, addresses strictly rising, no entry equal to what an
unlisted address reads as (log 5). -/
abbrev Memory := List Host.Cell

/-- The machine. `free` counts the free values used so far (log 7) and `pending` is the queue of commands;
both are the model's own. -/
structure State where
  lines   : Lines
  cc      : CycleController
  windows : Vector Window 16
  pp      : PPort
  fp      : FPort
  ce      : CopyEngine
  nu      : NoticeUnit
  cba     : ControlBlockAgent
  mp      : MemoryPort
  mem     : Memory
  free    : Nat
  pending : List Instr
  deriving DecidableEq, Repr

/-- No event of the spec stops the part: memory errors, refused accesses and refused commands all have
effects, so there is no fault. -/
inductive Fault where
  deriving DecidableEq, Repr

/-- Why a command has no meaning. -/
inductive Refusal where
  /-- Raised by an arm of `exec` whose command has no meaning yet; no arm does. Safe. -/
  | notModelled (mnemonic : String)
  deriving DecidableEq, Repr

/-- A window record after pin reset and after RESET (R12). -/
def Window.reset : Window where
  slotA := none
  slotB := none
  active := .a
  state := .idle
  valid := false
  held := false
  safe := false
  swapPending := false
  fence := false
  switchPending := false
  role := false
  fill := 0
  miss := 0
  lost := 0
  blocked := 0
  drops := 0
  lastSwap := 0
  events := 0
  published := 0
  refusal := .none
  carry := []
  waitSet := []
  coalesced := false

/-- The configuration copy after pin reset and after RESET (R21, R124, R146, R159). -/
def ConfigRecord.reset : ConfigRecord where
  groupLen := 0
  freezeMode := .ignore
  arbMode := .fixed
  cycTimeout := 0
  minInt := 0
  noticeTimeout := 0
  irqMask := 0

/-- The empty error latch (R149, R162). -/
def ErrorLatch.empty : ErrorLatch where
  valid := false
  addr := 0
  source := none
  dir := .read
  multiple := false

/-- The part right after pin reset, RST released. Line levels and strap codes are DESIGN CHOICE (log 10),
as are the empty memory's bytes (log 5); every other value is the spec's (R12, R20, R107, R120, R146,
R148, R151, R154 to R159). -/
def State.reset : State where
  lines := { cyc := false, rst := false, accept := false, memsz := 0, cbsel := 0, pBus := .none, fBus := .none }
  cc := { state := .stopped, phase := .inactive, cycle := 0, groupPos := 0, lowSeen := false, frz := false,
          freezeReq := false, interval := false, watchdog := false, drainSet := [] }
  windows := Vector.replicate 16 Window.reset
  pp := { pwq := [], readSlot := none, current := none, fenced := none }
  fp := { held := none, inFlight := none }
  ce := { jobs := [], running := false, request := false }
  nu := { queue := [], reservations := [], offer := none, timer := false }
  cba := { result := { code := 0, result := .done, refused := 0, seq := 0 }, dirty := [], writeback := none,
           request := none, turn := .writeback, causes := 0, published := 0, config := ConfigRecord.reset,
           load := none, loadQueue := [], fetch := none }
  mp := { grant := .free, pointer := .c, latch := ErrorLatch.empty }
  mem := []
  free := 0
  pending := []

end Sys2Proof.Machine
end

