-- ==== Sys2Proof/Machine/Flags.lean ====
section
/-! DEFINITION. Cause flags, window event flags, the lines IRQ and ERR, and the joining of records to the
dirty set (R155, R157, R159). -/

namespace Sys2Proof.Machine

/-- The 15 cause flags (R157), in the order of GLOBAL word 0 (section 12.3). -/
inductive Cause where
  | cycle
  | lost
  | runt
  | underrun
  | overrun
  | trip
  | slip
  | protect
  | noticeTimeout
  | loadDone
  | loadFail
  | switched
  | stopped
  | memerr
  | cmdRefused
  deriving DecidableEq, Repr

/-- Bit of a cause flag in GLOBAL word 0 (section 12.3). -/
def Cause.bit : Cause → Nat
  | .cycle => 0
  | .lost => 1
  | .runt => 2
  | .underrun => 3
  | .overrun => 4
  | .trip => 5
  | .slip => 6
  | .protect => 7
  | .noticeTimeout => 8
  | .loadDone => 9
  | .loadFail => 10
  | .switched => 11
  | .stopped => 12
  | .memerr => 13
  | .cmdRefused => 14

/-- The flag alone. -/
def Cause.mask (c : Cause) : BitVec 15 := 1#15 <<< c.bit

/-- The 14 window events (section 12.3, window word 3). -/
inductive WEvent where
  | underrun
  | overrun
  | trip
  | protect
  | slip
  | excess
  | noticeFull
  | loopback
  | loopNosrc
  | writeAfterCommit
  | mergeFault
  | loadFail
  | switched
  | switchLate
  deriving DecidableEq, Repr

/-- Bit of an event flag in window word 3. -/
def WEvent.bit : WEvent → Nat
  | .underrun => 0
  | .overrun => 1
  | .trip => 2
  | .protect => 3
  | .slip => 4
  | .excess => 5
  | .noticeFull => 6
  | .loopback => 7
  | .loopNosrc => 8
  | .writeAfterCommit => 9
  | .mergeFault => 10
  | .loadFail => 11
  | .switched => 12
  | .switchLate => 13

/-- The flag alone. -/
def WEvent.mask (e : WEvent) : BitVec 14 := 1#14 <<< e.bit

/-- The cause flag of the same name that a window event records, if any (R157). -/
def WEvent.cause : WEvent → Option Cause
  | .underrun => some .underrun
  | .overrun => some .overrun
  | .trip => some .trip
  | .protect => some .protect
  | .slip => some .slip
  | .excess => none
  | .noticeFull => none
  | .loopback => none
  | .loopNosrc => none
  | .writeAfterCommit => none
  | .mergeFault => none
  | .loadFail => some .loadFail
  | .switched => some .switched
  | .switchLate => none

/-- Whether a cause flag is set. -/
def State.hasCause (s : State) (c : Cause) : Bool := s.cba.causes.getLsbD c.bit

/-- The IRQ line (R159): high exactly when some cause flag enabled in the mask is set. -/
def State.irq (s : State) : Bool := s.cba.causes &&& s.cba.config.irqMask != 0

/-- The ERR line (R148): high while the latch is VALID. -/
def State.errLine (s : State) : Bool := s.mp.latch.valid

/-- A saturating count of 0 to 255. -/
def satInc8 (n : BitVec 8) : BitVec 8 := if n = 255 then n else n + 1

/-- The miss count stays at 15 (R49). -/
def satInc4 (n : BitVec 4) : BitVec 4 := if n = 15 then n else n + 1

/-- The sixteen windows in ascending number. -/
def allWindows : List Win := [0, 1, 2, 3, 4, 5, 6, 7, 8, 9, 10, 11, 12, 13, 14, 15]

/-- The 18 records in the order GLOBAL, RESULT, W0 to W15 (R155). -/
def allRecords : List RecName := .global :: .result :: allWindows.map .win

/-- Window record `w`. -/
def State.win (s : State) (w : Win) : Window := s.windows[w]

/-- Replace window record `w`. -/
def State.setWin (s : State) (w : Win) (x : Window) : State := { s with windows := s.windows.set w x }

/-- Change window record `w`. -/
def State.modWin (s : State) (w : Win) (f : Window → Window) : State := s.setWin w (f (s.win w))

/-- A record becomes dirty: it joins the set at its tail unless it is there (R155). -/
def State.touch (s : State) (r : RecName) : State :=
  if r ∈ s.cba.dirty then s else { s with cba := { s.cba with dirty := s.cba.dirty ++ [r] } }

/-- Record a cause flag (R157): GLOBAL becomes dirty whether or not the flag was set. -/
def State.record (s : State) (c : Cause) : State :=
  ({ s with cba := { s.cba with causes := s.cba.causes ||| c.mask } } : State).touch .global

/-- Record the cause flag of an event, if it has one. -/
def State.recordCauseOf (s : State) (e : WEvent) : State :=
  match e.cause with
  | some c => s.record c
  | none => s

/-- Record a window event (R157): its flag is set, the window's record becomes dirty, and the cause flag
of the same name, where there is one, is recorded in the same event. -/
def State.event (s : State) (w : Win) (e : WEvent) : State :=
  ((s.modWin w fun x => { x with events := x.events ||| e.mask }).touch (.win w)).recordCauseOf e

/-- A memory error response (R147, R148): the latch is filled, or MULTIPLE is set, and MEMERR is
recorded. -/
def State.latchError (s : State) (src : ErrSource) (dir : Dir) (a : Addr) : State :=
  ({ s with mp := { s.mp with latch :=
      if s.mp.latch.valid then { s.mp.latch with multiple := true }
      else { valid := true, addr := a, source := some src, dir := dir, multiple := false } } } : State).record .memerr

/-- The latch takes a response: nothing for a normal one. -/
def State.latchAnswer (r : Resp) (s : State) (src : ErrSource) (dir : Dir) (a : Addr) : State :=
  match r with
  | .ok => s
  | .err => s.latchError src dir a

/-- A read-clear that memory will answer normally (R158), at its grant: every flag of the word's published
set is cleared, the published set is emptied and the record becomes dirty. The words are GLOBAL word 0
and word 3 of each window record; the result record has no flags. -/
def State.clearPublished (s : State) : RecName → State
  | .global =>
    ({ s with cba := { s.cba with causes := s.cba.causes &&& ~~~s.cba.published, published := 0 } } : State).touch .global
  | .result => s
  | .win w =>
    (s.modWin w fun x => { x with events := x.events &&& ~~~x.published, published := 0 }).touch (.win w)

end Sys2Proof.Machine
end

