-- ==== Sys2Proof/Config.lean ====
section
/-! DEFINITION. What the spec leaves open: the free values. Nothing about them can be proved, so a
claim holds whatever they are. -/

namespace Sys2Proof

/-- What the enabled lanes of a word hold after a write that memory answered with an error, or that
pin reset cut short. R83 and R115 leave it open ("whatever the failed write left", "what memory
kept"), and R118 says that the part does not complete such a write. Applied to the counter
`State.free`, so that each such write has a value of its own (log 7, log 8). -/
opaque Config.failedWrite : Nat → Word

end Sys2Proof
end

