-- ==== Sys2Proof/Machine/Memory.lean ====
section
/-! DEFINITION. Operations over image memory: bytes, words with byte enables, and the M port's view of
them (R141). -/

namespace Sys2Proof.Machine

/-- What an address that is not listed reads as (DESIGN CHOICE, log 5). -/
def Memory.blank : Byte := 0

/-- One byte of memory. -/
def Memory.readByte : Memory → Nat → Byte
  | [], _ => Memory.blank
  | (b, v) :: m, a => if a = b then v else Memory.readByte m a

/-- Write one byte, keeping the canonical form. -/
def Memory.writeByte : Memory → Nat → Byte → Memory
  | [], a, v => if v = Memory.blank then [] else [(a, v)]
  | (b, u) :: m, a, v =>
    if a < b then (if v = Memory.blank then (b, u) :: m else (a, v) :: (b, u) :: m)
    else if a = b then (if v = Memory.blank then m else (a, v) :: m)
    else (b, u) :: Memory.writeByte m a v

/-- All addresses of a memory are above `lo`, strictly rising, and no entry is blank. -/
def Memory.wfFrom (lo : Nat) : Memory → Bool
  | [] => true
  | (a, v) :: m => decide (lo ≤ a) && (v != Memory.blank) && Memory.wfFrom (a + 1) m

/-- The canonical form: addresses strictly rising, no entry equal to what an unlisted address reads
as. -/
def Memory.wf (m : Memory) : Bool := Memory.wfFrom 0 m

/-- Byte lane `i` of a word: bits 8i to 8i+7 (log 6). -/
def lane (d : Word) (i : Nat) : Byte := d.extractLsb' (8 * i) 8

/-- The word at a byte address: lane `i` is the byte at `a + i` (log 6). -/
def Memory.readWord (m : Memory) (a : Nat) : Word :=
  m.readByte (a + 3) ++ m.readByte (a + 2) ++ m.readByte (a + 1) ++ m.readByte a

/-- Write lane `i` of a word if its enable is set. -/
def Memory.writeLane (a : Nat) (be : Lanes) (d : Word) (m : Memory) (i : Nat) : Memory :=
  if be.getLsbD i then m.writeByte (a + i) (lane d i) else m

/-- Write the enabled lanes of a word. -/
def Memory.writeWord (m : Memory) (a : Nat) (be : Lanes) (d : Word) : Memory :=
  [0, 1, 2, 3].foldl (Memory.writeLane a be d) m

/-- The image memory size in bytes that a MEMSZ code selects (R161). -/
def memSizeOf (code : BitVec 3) : Nat := 1048576 * 2 ^ (min code.toNat 4)

/-- The image memory size selected by the straps as sampled. -/
def State.memSize (s : State) : Nat := memSizeOf s.lines.memsz

/-- The word memory holds at an address of the M port. -/
def State.memRead (s : State) (a : Addr) : Word := s.mem.readWord a.toNat

/-- A write that memory answers normally: the enabled lanes are written. Beyond the memory size there is
no word to write (log 21). -/
def State.memWrite (s : State) (a : Addr) (be : Lanes) (d : Word) : State :=
  if a.toNat < s.memSize then { s with mem := s.mem.writeWord a.toNat be d } else s

/-- A write that memory answers with an error, or that pin reset cuts short: the enabled lanes hold a
free value (R83, R115, R118; log 7, log 8). -/
def State.memFail (s : State) (a : Addr) (be : Lanes) : State :=
  { (s.memWrite a be (Config.failedWrite s.free)) with free := s.free + 1 }

/-- A write half or single write by the answer it gets. -/
def State.memAnswered (r : Resp) (s : State) (a : Addr) (be : Lanes) (d : Word) : State :=
  match r with
  | .ok => s.memWrite a be d
  | .err => s.memFail a be

end Sys2Proof.Machine
end

