-- ==== Sys2Proof/Machine/Operands.lean ====
section
/-! DEFINITION. The forms of operands: addresses and offsets (R4, R90, R99), byte lanes and bit operations
(R63, R64), command words, descriptors and configuration records as the part reads them (section 12.2,
R161), and validation (R5, R6). -/

namespace Sys2Proof.Machine

/-! ## Addresses -/

/-- The word address of a byte address: the two lowest bits are not used (R90). -/
def wordAddr (a : Addr) : Addr := a &&& 0xFFFFFC#24

/-- Word `k` from a base. -/
def wordAt (base : Addr) (k : Nat) : Addr := base + BitVec.ofNat 24 (4 * k)

/-- The CB base as a byte address: CBSEL times 64 KiB. -/
def State.cbBase (s : State) : Addr := s.lines.cbsel.zeroExtend 24 <<< 16

/-- A byte address of the Control Block. -/
def State.cbAt (s : State) (off : Nat) : Addr := s.cbBase + BitVec.ofNat 24 off

/-- Whether an address lies in a range of `len` bytes from `base` (R4). -/
def inRange (base : Addr) (len : Nat) (a : Addr) : Bool :=
  decide (base.toNat ≤ a.toNat) && decide (a.toNat < base.toNat + len)

/-- Whether an address lies in the Control Block (R92). -/
def State.inCB (s : State) (a : Addr) : Bool := inRange s.cbBase 4096 a

/-! ## Descriptor geometry -/

/-- Length of the P-view in bytes (R4). -/
def Descriptor.pviewLen (d : Descriptor) : Nat :=
  match d.kind with
  | .input => 4 * d.len
  | .output => 16 * d.len

/-- Length in bytes of the F-view and of each bank (R4). -/
def Descriptor.bankLen (d : Descriptor) : Nat := 4 * d.len

/-- Whether offset `k` lies in the live span (R9). -/
def Descriptor.live (d : Descriptor) (k : Nat) : Bool :=
  decide (d.liveOff ≤ k) && decide (k < d.liveOff + d.liveLen)

/-- The offsets below L that are not live, ascending (R16). -/
def Descriptor.buffered (d : Descriptor) : List Nat := (List.range d.len).filter fun k => !d.live k

/-- Word `k` of bank 0. -/
def Descriptor.bank0At (d : Descriptor) (k : Nat) : Addr := wordAt d.bank0 k

/-- Word `k` of bank 1. -/
def Descriptor.bank1At (d : Descriptor) (k : Nat) : Addr := wordAt d.bank1 k

/-- Where a processor-side access at offset `k` goes under a role bit (R8, R9). -/
def Descriptor.procAt (d : Descriptor) (role : Bool) (k : Nat) : Addr :=
  if d.live k then d.bank0At k else if role then d.bank1At k else d.bank0At k

/-- Where a field-side access at offset `k` goes under a role bit (R8, R9). -/
def Descriptor.fieldAt (d : Descriptor) (role : Bool) (k : Nat) : Addr :=
  if d.live k then d.bank0At k else if role then d.bank0At k else d.bank1At k

/-- The slot named. -/
def Window.slot (x : Window) : SlotName → Option Descriptor
  | .a => x.slotA
  | .b => x.slotB

/-- The descriptor of the active slot. -/
def Window.desc (x : Window) : Option Descriptor := x.slot x.active

/-- The other slot's name. -/
def SlotName.other : SlotName → SlotName
  | .a => .b
  | .b => .a

/-- Put a descriptor, or INVALID, into a slot. -/
def Window.setSlot (x : Window) (n : SlotName) (d : Option Descriptor) : Window :=
  match n with
  | .a => { x with slotA := d }
  | .b => { x with slotB := d }

/-- The descriptor that governs a window outside IDLE (R7). -/
def Window.inUse (x : Window) : Option Descriptor := if x.state = .idle then none else x.desc

/-! ## Lanes -/

/-- Enables left after TRANSPARENT has removed the lanes whose written byte is zero (R63). -/
def nonzeroLanes (be : Lanes) (d : Word) : Lanes :=
  BitVec.ofBool (be.getLsbD 3 && lane d 3 != 0) ++ BitVec.ofBool (be.getLsbD 2 && lane d 2 != 0) ++
    BitVec.ofBool (be.getLsbD 1 && lane d 1 != 0) ++ BitVec.ofBool (be.getLsbD 0 && lane d 0 != 0)

/-- Lanes of a SET write (R63). -/
def Descriptor.setLanes (d : Descriptor) (be : Lanes) (x : Word) : Lanes :=
  if d.transparent then nonzeroLanes be x else be

/-- The result of a merge (R64); lanes that are not enabled are not written. -/
def MergeOp.result : MergeOp → Word → Word → Word
  | .or, old, x => old ||| x
  | .clear, old, x => old &&& ~~~x
  | .toggle, old, x => old ^^^ x

/-- The bit operation of alias 1, 2 or 3; alias 0 is SET (R99). -/
def mergeOpOf : Nat → Option MergeOp
  | 1 => some .or
  | 2 => some .clear
  | 3 => some .toggle
  | _ => none

/-- Number of words from a view base to an address (R99). -/
def wordsFrom (base a : Addr) : Nat := (a.toNat - base.toNat) / 4

/-! ## Formats the part reads -/

/-- The eleven commands (section 12.2). -/
inductive Command where
  | start
  | stop
  | reset
  | clearerr
  | load
  | switch
  | cancel
  | hold
  | release
  | commit
  | rearm
  deriving DecidableEq, Repr

/-- The code table of section 12.2. -/
def commandOf (code : BitVec 8) : Option Command :=
  match code.toNat with
  | 0x01 => some .start
  | 0x02 => some .stop
  | 0x03 => some .reset
  | 0x04 => some .clearerr
  | 0x10 => some .load
  | 0x11 => some .switch
  | 0x12 => some .cancel
  | 0x20 => some .hold
  | 0x21 => some .release
  | 0x22 => some .commit
  | 0x23 => some .rearm
  | _ => none

/-- The code of a command word: bits 0 to 7. -/
def cmdCode (x : Word) : BitVec 8 := x.extractLsb' 0 8

/-- The window mask of a command word: bits 16 to 31. -/
def cmdMask (x : Word) : BitVec 16 := x.extractLsb' 16 16

/-- Word `i` of a record as read, 0 if it is not there. -/
def wordOf (ws : List Word) (i : Nat) : Word := ws.getD i 0

/-- A descriptor from its eight words (section 12.2, R161). -/
def decodeDescriptor (ws : List Word) : Descriptor where
  enable := (wordOf ws 0).getLsbD 0
  kind := if (wordOf ws 0).getLsbD 1 then .output else .input
  cached := (wordOf ws 0).getLsbD 2
  policy := if (wordOf ws 0).getLsbD 3 then .safe else .keepLast
  transparent := (wordOf ws 0).getLsbD 4
  loop := (wordOf ws 0).getLsbD 5
  loopSrc := ((wordOf ws 0).extractLsb' 8 4).toFin
  missLimit := (wordOf ws 0).extractLsb' 12 4
  expect := (wordOf ws 0).extractLsb' 16 10
  len := ((wordOf ws 1).extractLsb' 0 9).toNat
  liveOff := ((wordOf ws 1).extractLsb' 10 9).toNat
  liveLen := ((wordOf ws 1).extractLsb' 20 9).toNat
  pview := (wordOf ws 2).extractLsb' 0 24
  fview := (wordOf ws 3).extractLsb' 0 24
  bank0 := (wordOf ws 4).extractLsb' 0 24
  bank1 := (wordOf ws 5).extractLsb' 0 24
  safepat := wordOf ws 6

/-- FREEZEMODE's codes; 3 names no mode. -/
def freezeModeOf (c : BitVec 2) : Option FreezeMode :=
  match c.toNat with
  | 0 => some .ignore
  | 1 => some .all
  | 2 => some .inputs
  | _ => none

/-- ARBMODE's codes; 2 and 3 name no mode. -/
def arbModeOf (c : BitVec 2) : Option ArbMode :=
  match c.toNat with
  | 0 => some .fixed
  | 1 => some .rotating
  | _ => none

/-- A configuration record from its eight words, or none where FREEZEMODE or ARBMODE names no mode
(R129, R161). -/
def decodeConfig (ws : List Word) : Option ConfigRecord :=
  match freezeModeOf ((wordOf ws 1).extractLsb' 0 2), arbModeOf ((wordOf ws 2).extractLsb' 0 2) with
  | some fm, some am => some {
      groupLen := (wordOf ws 0).extractLsb' 0 8
      freezeMode := fm
      arbMode := am
      cycTimeout := (wordOf ws 3).extractLsb' 0 24
      minInt := (wordOf ws 4).extractLsb' 0 16
      noticeTimeout := (wordOf ws 5).extractLsb' 0 16
      irqMask := (wordOf ws 6).extractLsb' 0 15 }
  | _, _ => none

/-! ## Validation -/

/-- Whether two byte ranges share a byte. -/
def overlap (b₁ : Addr) (l₁ : Nat) (b₂ : Addr) (l₂ : Nat) : Bool :=
  decide (b₁.toNat < b₂.toNat + l₂) && decide (b₂.toNat < b₁.toNat + l₁) && decide (0 < l₁) && decide (0 < l₂)

/-- An address is word-aligned. -/
def aligned (a : Addr) : Bool := a.extractLsb' 0 2 == 0#2

/-- A range ends below the memory size and shares no byte with the Control Block (R5). -/
def State.rangeOk (s : State) (base : Addr) (len : Nat) : Bool :=
  decide (base.toNat + len ≤ s.memSize) && !overlap base len s.cbBase 4096

/-- The checks of a descriptor against itself (R5). -/
def State.selfOk (s : State) (d : Descriptor) : Bool :=
  decide (1 ≤ d.len) && decide (d.len ≤ 256) && decide (d.liveLen ≤ d.len) &&
  decide (d.liveOff + d.liveLen ≤ d.len) &&
  aligned d.pview && aligned d.fview && aligned d.bank0 && aligned d.bank1 &&
  s.rangeOk d.pview d.pviewLen && s.rangeOk d.fview d.bankLen &&
  s.rangeOk d.bank0 d.bankLen && s.rangeOk d.bank1 d.bankLen &&
  !overlap d.bank0 d.bankLen d.bank1 d.bankLen &&
  !overlap d.bank0 d.bankLen d.pview d.pviewLen && !overlap d.bank0 d.bankLen d.fview d.bankLen &&
  !overlap d.bank1 d.bankLen d.pview d.pviewLen && !overlap d.bank1 d.bankLen d.fview d.bankLen

/-- Whether a bank of `d` clears all four ranges of `e` (R6). -/
def bankClear (base : Addr) (len : Nat) (e : Descriptor) : Bool :=
  !overlap base len e.pview e.pviewLen && !overlap base len e.fview e.bankLen &&
  !overlap base len e.bank0 e.bankLen && !overlap base len e.bank1 e.bankLen

/-- The checks of a descriptor against a slot of another window (R6). -/
def crossOk (d e : Descriptor) : Bool :=
  !overlap d.pview d.pviewLen e.pview e.pviewLen && !overlap d.fview d.bankLen e.fview e.bankLen &&
  bankClear d.bank0 d.bankLen e && bankClear d.bank1 d.bankLen e &&
  bankClear e.bank0 e.bankLen d && bankClear e.bank1 e.bankLen d

/-- `crossOk` against a slot; an INVALID slot takes no part (R6). -/
def crossOkSlot (d : Descriptor) : Option Descriptor → Bool
  | none => true
  | some e => crossOk d e

/-- A fetched descriptor for window `w` is valid against the state of all records (R5, R6). -/
def State.validate (s : State) (w : Win) (d : Descriptor) : Bool :=
  s.selfOk d && allWindows.all fun v =>
    v == w || (crossOkSlot d (s.win v).slotA && crossOkSlot d (s.win v).slotB)

end Sys2Proof.Machine
end

