-- ==== Sys2Proof/Machine/Records.lean ====
section
/-! DEFINITION. The words the part writes back (section 12.3, R162), the addresses of its records in the
Control Block (section 12.1), and the joining of changed records to the dirty set (R155). -/

namespace Sys2Proof.Machine

/-- An item of `n` bits placed at bit `pos` of a word. -/
def put {n : Nat} (v : BitVec n) (pos : Nat) : Word := v.zeroExtend 32 <<< pos

/-- A one-bit item. -/
def putBit (v : Bool) (pos : Nat) : Word := put (BitVec.ofBool v) pos

/-- A counted item. -/
def putNat (v pos : Nat) : Word := BitVec.ofNat 32 v <<< pos

/-- Codes of the controller state (GLOBAL word 1). -/
def CState.code : CState → Nat
  | .stopped => 0
  | .loading => 1
  | .armed => 2
  | .aligning => 3
  | .running => 4
  | .frozen => 5
  | .lost => 6
  | .draining => 7
  | .resetting => 8

/-- Codes of a window's state (window word 0). -/
def WState.code : WState → Nat
  | .idle => 0
  | .filling => 1
  | .filled => 2
  | .blocked => 3
  | .composing => 4
  | .committed => 5
  | .tripped => 6
  | .fault => 7

/-- Codes of the last refusal reason (window word 0). -/
def Reason.code : Reason → Nat
  | .none => 0
  | .badkind => 1
  | .badstate => 2
  | .busy => 3
  | .invalid => 4
  | .idle => 5

/-- Codes of the result (result word 0). -/
def ResultCode.code : ResultCode → Nat
  | .done => 0
  | .partly => 1
  | .refused => 2
  | .badstate => 3
  | .unknown => 4

/-- Codes of the error source (GLOBAL word 4). -/
def ErrSource.code : Option ErrSource → Nat
  | none => 0
  | some .p => 1
  | some .f => 2
  | some .mu => 3
  | some .ce => 4
  | some .k => 5

/-- Codes of FREEZEMODE. -/
def FreezeMode.code : FreezeMode → Nat
  | .ignore => 0
  | .all => 1
  | .inputs => 2

/-- Places in use in the Notice Queue: queued notices and reservations (R120). -/
def State.places (s : State) : Nat := s.nu.queue.length + s.nu.reservations.length

/-- The result record (section 12.3). -/
def State.resultWord (s : State) : Nat → Word
  | 0 => put s.cba.result.code 0 ||| putNat s.cba.result.result.code 8 ||| put s.cba.result.seq 16
  | 1 => put s.cba.result.refused 0
  | _ => 0

/-- The GLOBAL record (section 12.3). -/
def State.globalWord (s : State) : Nat → Word
  | 0 => put s.cba.causes 0
  | 1 => putNat s.cc.state.code 0 ||| putBit s.cc.freezeReq 4 ||| putBit s.mp.latch.valid 5 ||| put s.cc.groupPos 8 |||
      putNat s.ce.jobs.length 16 ||| putNat s.places 21 ||| putNat s.cba.loadQueue.length 25
  | 2 => s.cc.cycle
  | 3 => put s.mp.latch.addr 0
  | 4 => putNat (ErrSource.code s.mp.latch.source) 0 ||| putBit (s.mp.latch.dir == .write) 3 ||| putBit s.mp.latch.multiple 4
  | 5 => put s.cba.config.groupLen 0 ||| putNat s.cba.config.freezeMode.code 8 ||| putBit (s.cba.config.arbMode == .rotating) 10 |||
      put s.lines.memsz 12 ||| put s.lines.cbsel 16
  | _ => 0

/-- The KIND bit: of the active slot's descriptor, 0 for an INVALID slot (R162). -/
def Window.kindBit (x : Window) : Bool :=
  match x.desc with
  | some d => d.kind == .output
  | none => false

/-- A window record (section 12.3). -/
def Window.recordWord (x : Window) : Nat → Word
  | 0 => putNat x.state.code 0 ||| putBit x.kindBit 3 ||| putBit (x.active == .b) 4 ||| putBit x.slotA.isSome 5 |||
      putBit x.slotB.isSome 6 ||| putBit x.role 7 ||| putBit x.valid 8 ||| putBit x.held 9 ||| putBit x.safe 10 |||
      putBit x.swapPending 11 ||| putBit x.fence 12 ||| putBit x.switchPending 13 ||| put x.miss 14 |||
      putNat x.refusal.code 18 ||| put x.fill 22
  | 1 => put x.lost 0 ||| put x.blocked 8 ||| put x.drops 16
  | 2 => x.lastSwap
  | 3 => put x.events 0
  | _ => 0

/-- Word `i` of a status record as it stands. -/
def State.recordWord (s : State) : RecName → Nat → Word
  | .global, i => s.globalWord i
  | .result, i => s.resultWord i
  | .win w, i => (s.win w).recordWord i

/-- Number of words of a record (R156). -/
def RecName.length : RecName → Nat
  | .global => 6
  | .result => 4
  | .win _ => 4

/-- CB offset of a record (section 12.1). -/
def RecName.offset : RecName → Nat
  | .global => 0x020
  | .result => 0x010
  | .win w => 0x100 + 16 * w.val

/-- The word whose flags read-clear clears, where the record has one (R158). -/
def RecName.flagWord : RecName → Option Nat
  | .global => some 0
  | .result => none
  | .win _ => some 3

/-- Whether an item shown in a record differs between two states. -/
def shownDiffers (s t : State) (r : RecName) : Bool :=
  (List.range r.length).any fun i => s.recordWord r i != t.recordWord r i

/-- Whether a record joins the dirty set in an event that led from `s` to `t` (R155): an item it shows
changed, or a rule of the event made it dirty, and it is not in the set. -/
def joinsDirty (s t : State) (r : RecName) : Bool :=
  !s.cba.dirty.contains r && (t.cba.dirty.contains r || shownDiffers s t r)

/-- The dirty set at the end of an event that led from `s` to `t` (R155): the records that join do so at
the tail, in the order GLOBAL, RESULT, W0 to W15. -/
def joinDirty (s t : State) : State :=
  { t with cba := { t.cba with dirty := s.cba.dirty ++ allRecords.filter (joinsDirty s t) } }

/-- Whether the CBA presents nothing new: from RESET until its reset values (R156, R160), and after the
pass's last word until STOPPED is entered. -/
def State.kHeld (s : State) : Bool := s.cc.state == .resetting && s.cc.phase != .pass

/-- Whether a read of the START load or of a descriptor fetch is wanted. -/
def State.readWaits (s : State) : Bool :=
  (match s.cba.load with
   | some l => l.ending.isNone
   | none => false) || s.cba.fetch.isSome

/-- Requester K presents its next request, when it has none outstanding (R142, R156). Where a write-back
word and a read both wait, they alternate. A write-back whose record is still in the dirty set begins by
WRITEBACK_RECORD (log 29). -/
def presentK (s : State) : State :=
  if s.cba.request.isSome || s.kHeld then s
  else if s.readWaits && (s.cba.turn == .read || (s.cba.writeback.isNone && s.cba.dirty.isEmpty)) then
    { s with cba := { s.cba with request := some (if s.cba.load.isSome then .load else .fetch) } }
  else if s.cba.writeback.isSome then { s with cba := { s.cba with request := some .writeback } }
  else s

/-- The end of an event: changed records join the dirty set, and K presents what waits. -/
def finish (s t : State) : State := presentK (joinDirty s t)

/-- One event of the part. While RST is asserted nothing but line levels changes (log 11). -/
def act (f : State → State) (s : State) : Host.Outcome State Fault Refusal :=
  .next (if s.lines.rst then s else finish s (f s))

end Sys2Proof.Machine
end

