-- ==== Sys2Proof/Machine/Ops.lean ====
section
/-! DEFINITION. Shared operations on window records, copy jobs, notices and swaps (chapters 1, 5, 8). -/

namespace Sys2Proof.Machine

/-! ## Drops -/

/-- A drop charged to window `w` (R42, R45, R62, R67, R103, R106): DROPS is incremented and the record
becomes dirty. -/
def State.drop (s : State) (w : Win) : State :=
  (s.modWin w fun x => { x with drops := satInc8 x.drops }).touch (.win w)

/-- A drop with its event. -/
def State.dropEvent (s : State) (w : Win) (e : WEvent) : State := (s.drop w).event w e

/-! ## Wait sets and the drain set -/

/-- A member leaves the wait set of every swap that holds it (R14). -/
def State.leaveWait (s : State) (m : WaitMember) : State :=
  allWindows.foldl (fun t w => t.modWin w fun x => { x with waitSet := x.waitSet.erase m }) s

/-- A member leaves the drain set (R37). -/
def State.leaveDrain (s : State) (m : DrainMember) : State :=
  { s with cc := { s.cc with drainSet := s.cc.drainSet.erase m } }

/-- The current P access ends (R111): it leaves every wait set and the drain set. -/
def State.endP (s : State) : State :=
  (({ s with pp := { s.pp with current := none } } : State).leaveWait .p).leaveDrain .p

/-- The F access in flight ends. -/
def State.endF (s : State) : State :=
  (({ s with fp := { s.fp with inFlight := none } } : State).leaveWait .f).leaveDrain .f

/-! ## Copy jobs -/

/-- The Copy Engine is urgent while a job with the urgent mark is queued or in progress (R80). -/
def State.urgent (s : State) : Bool := s.ce.jobs.any Job.urgent

/-- Whether some job has destination `d`. -/
def State.hasJob (s : State) (d : Win) : Bool := s.ce.jobs.any fun j => j.dest == d

/-- The job in progress (R77, R79). -/
def State.job (s : State) : Option Job := if s.ce.running then s.ce.jobs.head? else none

/-- A job joins the Copy Queue at its tail (R78). The queue never holds two jobs for one destination
(R77), so a second one does not join. -/
def State.enqueueJob (s : State) (j : Job) : State :=
  if s.hasJob j.dest then s else { s with ce := { s.ce with jobs := s.ce.jobs ++ [j] } }

/-- The job of destination `d` is removed or ended (R87): it leaves the queue at once and every wait set
that holds it; a request it had presented is withdrawn (R142). A pair it has in flight stays granted. The window's record
becomes dirty (R58, R81; for a loop job that its own tests end, log 40, DESIGN CHOICE). -/
def State.endJob (s : State) (d : Win) : State :=
  if s.hasJob d then
    let was := s.job.any fun j => j.dest == d
    ((({ s with ce := { jobs := s.ce.jobs.filter fun j => j.dest != d
                        running := s.ce.running && !was
                        request := s.ce.request && !was } } : State).leaveWait (.job d)).touch (.win d))
  else s

/-- The queue with the job of destination `w` made urgent (R80): in progress it keeps its place; otherwise
it stands behind the job in progress and the queued urgent jobs and ahead of the rest. -/
def urgentOrder (running : Bool) (w : Win) (js : List Job) : List Job :=
  let n := if running then 1 else 0
  let mark := fun (j : Job) => if j.dest == w then { j with urgent := true } else j
  let mine := (js.drop n).filter fun j => j.dest == w
  let rest := (js.drop n).filter fun j => j.dest != w
  (js.take n).map mark ++ rest.filter Job.urgent ++ mine.map mark ++ rest.filter fun j => !j.urgent

/-- Make the job of destination `w` urgent (R80). -/
def State.makeUrgent (s : State) (w : Win) : State :=
  { s with ce := { s.ce with jobs := urgentOrder s.ce.running w s.ce.jobs } }

/-- Whether `w` is an enabled output window, so that a LOOP job may read it (R56, R84). -/
def State.loopSource (s : State) (w : Win) : Option Descriptor :=
  match (s.win w).inUse with
  | some d => if d.kind = .output then some d else none
  | none => none

/-- A loop window in FILLING enqueues a LOOP job for itself, or records LOOP_NOSRC (R56). -/
def State.enqueueLoop (s : State) (w : Win) : State :=
  match (s.win w).inUse with
  | none => s
  | some d =>
    if d.kind = .input ∧ d.loop ∧ (s.win w).state = .filling ∧ !s.hasJob w then
      match s.loopSource d.loopSrc with
      | some _ => (s.enqueueJob { kind := .loop d.loopSrc 0, dest := w, urgent := false }).touch (.win w)
      | none => s.event w .loopNosrc
    else s

/-! ## Notices -/

/-- The notice of a slot's P-view (R120): base and length in bytes. -/
def noticeOf (w : Win) (d : Descriptor) : Notice := { win := w, base := d.pview, len := BitVec.ofNat 13 d.pviewLen }

/-- Whether the Notice Queue holds a notice for `w`. -/
def State.hasNotice (s : State) (w : Win) : Bool := s.nu.queue.any fun n => n.win == w

/-- The Notice Unit's answers (R121). -/
inductive PlaceAnswer where
  | unneeded
  | place
  | coalesced
  | noPlace
  deriving DecidableEq, Repr

/-- The answer to window `w` with active descriptor `d` (R121). A window whose slot has CACHED clear asks
for nothing. -/
def State.askPlace (s : State) (w : Win) (d : Descriptor) : PlaceAnswer :=
  if !d.cached then .unneeded
  else match s.nu.queue.find? (fun n => n.win == w) with
    | some n => if n = noticeOf w d then .coalesced else .noPlace
    | none => if s.places < 8 then .place else .noPlace

/-- A notice joins the tail of the Notice Queue and FENCE of its window is set (R122, R123, R126). -/
def State.enqueueNotice (s : State) (n : Notice) : State :=
  ({ s with nu := { s.nu with queue := s.nu.queue ++ [n] } } : State).modWin n.win fun x => { x with fence := true }

/-- Reserve a place for `w` (R121). -/
def State.reserve (s : State) (w : Win) : State :=
  { s with nu := { s.nu with reservations := s.nu.reservations ++ [w] } }

/-- Release the place `w` holds, if any (R122). -/
def State.unreserve (s : State) (w : Win) : State :=
  { s with nu := { s.nu with reservations := s.nu.reservations.filter fun v => v != w } }

/-- The notice side of a performance (R16, R122): a reservation is filled; a coalesced decision leaves
FENCE set exactly if the notice is still queued, and FENCE as it is if it has left. -/
def State.fillPlace (s : State) (w : Win) (d : Descriptor) : State :=
  if w ∈ s.nu.reservations then (s.unreserve w).enqueueNotice (noticeOf w d)
  else if (s.win w).coalesced && s.hasNotice w then s.modWin w fun x => { x with fence := true }
  else s

/-- The head notice leaves the queue by acceptance or timeout (R124, R125): the offer is withdrawn, the
timer stops and FENCE of its window is cleared. -/
def State.noticeLeaves (s : State) (n : Notice) : State :=
  (({ s with nu := { s.nu with queue := s.nu.queue.tail, offer := none, timer := false } } : State).modWin n.win
    fun x => { x with fence := false }).touch (.win n.win)

/-! ## Swaps -/

/-- The job in progress is a LOOP job that reads `w`. -/
def Job.readsFrom (j : Job) (w : Win) : Bool :=
  match j.kind with
  | .carry => false
  | .loop src _ => src == w

/-- The wait set of a swap of `w` decided now (R13): window accesses of `w` in flight on either port, and
for an OUTPUT window its CARRY job and a LOOP job in progress that reads it. -/
def State.swapWaits (s : State) (w : Win) (k : Kind) : List WaitMember :=
  (if s.pp.current.any (fun a => a.win == some w) then [.p] else []) ++
  (if s.fp.inFlight.any (fun a => a.win == some w) then [.f] else []) ++
  (if k = .output then
    (if s.hasJob w then [.job w] else []) ++
    (match s.job with
     | some j => if j.readsFrom w && j.dest != w then [.job j.dest] else []
     | none => [])
   else [])

/-- The record after the performance of a swap, apart from FENCE (R16). -/
def Window.swapped (x : Window) (d : Descriptor) (cycle : BitVec 32) : Window :=
  let y := { x with role := !x.role, lastSwap := cycle, valid := true, miss := 0, swapPending := false,
                    waitSet := [], coalesced := false }
  match d.kind with
  | .input => { y with fill := d.expect, state := .filling }
  | .output => { y with carry := d.buffered, safe := false, state := .composing }

/-- The performance of `w`'s swap (R16), without the LOOP job of R56 and without the retries of R15. -/
def State.performSwap (s : State) (w : Win) : State :=
  match (s.win w).inUse with
  | none => s
  | some d =>
    let t := ((s.fillPlace w d).modWin w fun x => x.swapped d s.cc.cycle).touch (.win w)
    match d.kind with
    | .input => t
    | .output => t.enqueueJob { kind := .carry, dest := w, urgent := false }

/-- The decision of `w`'s swap (R13), with the notice answer already obtained: SWAP PENDING is set, the
wait set recorded, the CARRY job made urgent, and the swap performed at once if nothing is waited for. -/
def State.decideSwap (s : State) (w : Win) (d : Descriptor) (a : PlaceAnswer) : State :=
  let ws := s.swapWaits w d.kind
  let t := (s.modWin w fun x => { x with swapPending := true, waitSet := ws, coalesced := a == .coalesced }).touch (.win w)
  let t := if a = .place then t.reserve w else t
  let t := if .job w ∈ ws then t.makeUrgent w else t
  if ws = [] then t.performSwap w else t

/-- A pending swap is abandoned (R19): SWAP PENDING is cleared and a reserved place released. -/
def State.abandonSwap (s : State) (w : Win) : State :=
  if (s.win w).swapPending then
    ((s.modWin w fun x => { x with swapPending := false, waitSet := [], coalesced := false }).unreserve w).touch (.win w)
  else s

/-- An output window enters FAULT (R74), unless it is IDLE, in FAULT already, or no output window. -/
def State.faultOutput (s : State) (w : Win) : State :=
  if (s.win w).state ∈ [WState.composing, .committed, .tripped] then
    (((s.modWin w fun x => { x with state := .fault, carry := [] }).touch (.win w)).endJob w).abandonSwap w
  else s

/-- An input window enters FAULT by a loop job's source read (R54, R86). -/
def State.faultInput (s : State) (w : Win) : State :=
  ((s.modWin w fun x => { x with state := .fault }).touch (.win w)).endJob w

/-! ## Priming -/

/-- The record after priming in the active slot's descriptor `d` (R11), as REARM and a switch do it. -/
def Window.primed (x : Window) (d : Descriptor) : Window :=
  { x with
    state := match d.kind with
      | .input => .filling
      | .output => .composing
    role := false
    valid := false
    held := false
    safe := false
    miss := 0
    fill := match d.kind with
      | .input => d.expect
      | .output => 0
    carry := [] }

/-- Priming of `w` (R11): its copy job is removed or ended. -/
def State.prime (s : State) (w : Win) (d : Descriptor) : State :=
  ((s.endJob w).modWin w fun x => x.primed d).touch (.win w)

/-- The record of a window that a switch takes to IDLE (R139). -/
def Window.idled (x : Window) : Window :=
  { x with state := .idle, role := false, valid := false, held := false, safe := false, miss := 0, fill := 0, carry := [] }

/-- The requester of a single transaction (R142). -/
def SingleWork.holder : SingleWork → Requester
  | .pPlain => .p
  | .fAccess => .f
  | .loadRead => .k
  | .fetchRead => .k
  | .writebackWord _ _ => .k
  | .loopFill _ => .c

/-- The requester of a pair (R142). -/
def PairWork.holder : PairWork → Requester
  | .merge _ _ _ _ => .p
  | .demand _ _ => .p
  | .carry _ _ => .c
  | .loop _ => .c

/-- The requester that holds the grant (R141). -/
def Grant.holder : Grant → Option Requester
  | .free => none
  | .single t => some t.work.holder
  | .pairRead t => some t.work.holder
  | .pairWrite t _ => some t.work.holder

/-- The window whose bank a single transaction of the Copy Engine writes. -/
def SingleWork.copyDest : SingleWork → Option Win
  | .pPlain => none
  | .fAccess => none
  | .loadRead => none
  | .fetchRead => none
  | .writebackWord _ _ => none
  | .loopFill d => some d

/-- The window whose bank a pair of the Copy Engine writes. -/
def PairWork.copyDest : PairWork → Option Win
  | .merge _ _ _ _ => none
  | .demand _ _ => none
  | .carry w _ => some w
  | .loop d => some d

/-- The window whose bank a Copy Engine transaction in flight writes. -/
def Grant.copyDest : Grant → Option Win
  | .free => none
  | .single t => t.work.copyDest
  | .pairRead t => t.work.copyDest
  | .pairWrite t _ => t.work.copyDest

/-- Whether a write into the bank that REARM would prime away is in flight (R55, R76): a counted field
write, a processor write or demand copy at a non-live offset, or a pair of a copy job into the window. -/
def State.bankWriteInFlight (s : State) (w : Win) : Bool :=
  s.pp.current.any (fun a => a.win == some w && a.bankWrite) ||
  s.fp.inFlight.any (fun a => a.win == some w && a.bankWrite) ||
  s.mp.grant.copyDest == some w

end Sys2Proof.Machine
end

