-- ==== Sys2Proof/Machine/Access.lean ====
section
/-! DEFINITION. The Access Decoder and what the Window Engine does with a window access (chapters 3, 4, 6,
7): classification, stalls, drops, substitution, and the plan of the Merge Unit. The commands that the
issue of a command word takes stand in Machine/Commands.lean. -/

namespace Sys2Proof.Machine

/-! ## Classification -/

/-- The upstream ports. -/
inductive Port where
  | p
  | f
  deriving DecidableEq, Repr

/-- The class of an access (R89), with what R93 to R95 add for the Control Block. -/
inductive AccessClass where
  | refused
  | command
  | cbPass (clears : Option RecName)
  | cbDrop
  | window (w : Win)
  | shield (w : Win)
  | pass
  deriving DecidableEq, Repr

/-- A P-port access at byte offset `off` of the Control Block, by area and direction (R93, section
12.1). -/
def cbClass (off : Nat) (write : Bool) : AccessClass :=
  if off = 0 then (if write then .command else .cbPass none)
  else if 0x010 ≤ off ∧ off < 0x038 then
    (if write then .cbDrop else .cbPass (if off = 0x020 then some .global else none))
  else if 0x100 ≤ off ∧ off < 0x200 then
    (if write then .cbDrop
     else .cbPass (if off % 16 = 12 then some (.win (Fin.ofNat 16 ((off - 0x100) / 16))) else none))
  else .cbPass none

/-- Whether an address lies in the view of `w` that the port reaches (R98). -/
def State.inView (s : State) (q : Port) (a : Addr) (w : Win) : Bool :=
  match (s.win w).inUse with
  | none => false
  | some d => match q with
    | .p => inRange d.pview d.pviewLen a
    | .f => inRange d.fview d.bankLen a

/-- Whether an address lies in a bank of `w` (R103). -/
def State.inBank (s : State) (a : Addr) (w : Win) : Bool :=
  match (s.win w).inUse with
  | none => false
  | some d => inRange d.bank0 d.bankLen a || inRange d.bank1 d.bankLen a

/-- The controller states in which tests 4 and 5 are not reached (R89, R96). -/
def CState.passes (c : CState) : Bool := c == .stopped || c == .loading

/-- The class of an access at its issue (R89). -/
def State.classify (s : State) (q : Port) (write : Bool) (a : Addr) : AccessClass :=
  if s.memSize ≤ a.toNat then .refused
  else if s.inCB a then
    match q with
    | .f => .refused
    | .p => cbClass (a.toNat - s.cbBase.toNat) write
  else if s.cc.state.passes then .pass
  else match allWindows.find? (s.inView q a) with
    | some w => .window w
    | none => match allWindows.find? (s.inBank a) with
      | some w => .shield w
      | none => .pass

/-- The stall tests of a window access (R100, R101). -/
def State.windowStalls (s : State) (q : Port) (w : Win) : Bool :=
  (s.win w).swapPending || (q == .p && (s.win w).fence)

/-- Whether an access that reaches issue now stalls (R97, R100). -/
def State.stalls (s : State) (q : Port) (write : Bool) (a : Addr) : Bool :=
  s.cc.state == .resetting ||
  match s.classify q write a with
  | .window w => s.windowStalls q w
  | _ => false

/-! ## P port -/

/-- The processor gets its answer and the read leaves the read slot (R109). -/
def State.answerP (s : State) (x : Answer) : State :=
  { s with pp := { s.pp with readSlot := none }, lines := { s.lines with pBus := x } }

/-- An issued P access becomes the current access (R110). -/
def State.issueAs (s : State) (w : Option Win) (bankWrite : Bool) (items : List PItem) : State :=
  { s with pp := { s.pp with current := some { win := w, bankWrite := bankWrite, items := items } } }

/-- A plain write carried to the M port unchanged (R93, R104). -/
def plainWrite (x : PWrite) : PItem := .plain .write x.addr x.be x.data none

/-- A plain read carried to the M port unchanged, with its read-clear mark (R95, R104). -/
def plainRead (a : Addr) (be : Lanes) (clears : Option RecName) : PItem := .plain .read a be 0 clears

/-- The demand copy a plan begins with (R65, R113): for a marked non-live word of a window not in FAULT. -/
def Window.copyFirst (x : Window) (w : Win) (d : Descriptor) (k : Nat) : List PItem :=
  if !d.live k && x.carry.contains k && x.state != .fault then
    [.demand w k (d.fieldAt x.role k) (d.procAt x.role k)]
  else []

/-- A processor write to an input window (R45). At a live offset a write with no byte enables completes at its
issue with no transaction (R90, R110; log 37). -/
def State.pWriteInput (s : State) (w : Win) (d : Descriptor) (x : PWrite) : State :=
  let k := wordsFrom d.pview x.addr
  if d.live k then
    (if x.be = 0 then s else s.issueAs (some w) false [.plain .write (d.bank0At k) x.be x.data none])
  else s.dropEvent w .protect

/-- A processor write to an output window (R62 to R64, R113). -/
def State.pWriteOutput (s : State) (w : Win) (d : Descriptor) (x : PWrite) : State :=
  let y := s.win w
  let n := wordsFrom d.pview x.addr
  let k := n % d.len
  let target := d.procAt y.role k
  if y.state = .committed ∧ !d.live k then s.dropEvent w .writeAfterCommit
  else match mergeOpOf (n / d.len) with
    | none =>
      if d.setLanes x.be x.data = 0 then s
      else s.issueAs (some w) (!d.live k)
        (y.copyFirst w d k ++ [.plain .write target (d.setLanes x.be x.data) x.data none])
    | some op =>
      if x.be = 0 then s
      else s.issueAs (some w) (!d.live k) (y.copyFirst w d k ++ [.merge w op x.be x.data target])

/-- A processor write classified as a window access of `w`. -/
def State.pWriteWindow (s : State) (w : Win) (x : PWrite) : State :=
  match (s.win w).inUse with
  | none => s
  | some d => match d.kind with
    | .input => s.pWriteInput w d x
    | .output => s.pWriteOutput w d x

/-- Whether a processor read of an input window is substituted (R44). -/
def Window.pSubstituted (x : Window) : Bool := !x.valid || x.state == .tripped || x.state == .fault

/-- A processor read classified as a window access of `w` (R44, R61). -/
def State.pReadWindow (s : State) (w : Win) (r : PRead) : State :=
  match (s.win w).inUse with
  | none => s
  | some d => match d.kind with
    | .input =>
      if (s.win w).pSubstituted then s.answerP (.data d.safepat)
      else s.issueAs (some w) false
        [plainRead (d.procAt (s.win w).role (wordsFrom d.pview r.addr)) r.be none]
    | .output =>
      let k := wordsFrom d.pview r.addr % d.len
      s.issueAs (some w) (!((s.win w).copyFirst w d k).isEmpty)
        ((s.win w).copyFirst w d k ++ [plainRead (d.procAt (s.win w).role k) r.be none])

/-- The issue of the read in the read slot (R110). -/
def State.issueRead (s : State) (r : PRead) : State :=
  match s.classify .p false r.addr with
  | .refused => (s.answerP .readError).record .protect
  | .command => s
  | .cbPass clears => s.issueAs none false [plainRead r.addr r.be clears]
  | .cbDrop => s
  | .window w => if s.windowStalls .p w then s else s.pReadWindow w r
  | .shield _ => s.issueAs none false [plainRead r.addr r.be none]
  | .pass => s.issueAs none false [plainRead r.addr r.be none]

/-! ## F port -/

/-- The field engine gets its answer (R105). -/
def State.answerF (s : State) (x : Answer) : State := { s with lines := { s.lines with fBus := x } }

/-- An issued F access is in flight. -/
def State.flyF (s : State) (w : Option Win) (bankWrite : Bool) (a : Access) (target : Addr) : State :=
  { s with fp := { s.fp with inFlight := some {
      win := w, bankWrite := bankWrite, dir := if a.write then .write else .read, addr := target, be := a.be, data := a.data } } }

/-- A field write that its window makes to a bank: it is in flight, or, with no byte enables, answered at its issue
with a normal write response and no transaction (R90, R105; log 37). -/
def State.writeF (s : State) (w : Win) (bankWrite : Bool) (a : Access) (target : Addr) : State :=
  if a.be = 0 then s.answerF .writeOk else s.flyF (some w) bankWrite a target

/-- The counted write's effect on the record of an input window in FILLING (R40, R57): the terminal write
is the one that finds the fill counter at 0. -/
def Window.counted (x : Window) : Window :=
  if x.fill = 0 then { x with state := .filled } else { x with fill := x.fill - 1 }

/-- A field access of an input window (R40 to R43). A write to FILLING is counted whatever its byte enables. -/
def State.fInput (s : State) (w : Win) (d : Descriptor) (a : Access) : State :=
  let k := wordsFrom d.fview a.addr
  let target := d.fieldAt (s.win w).role k
  if !a.write then s.flyF (some w) false a target
  else if d.loop then (s.answerF .writeOk).dropEvent w .loopback
  else if d.live k then s.writeF w false a target
  else match (s.win w).state with
    | .filling => ((s.modWin w Window.counted).touch (.win w)).writeF w true a target
    | .filled => (s.answerF .writeOk).dropEvent w .excess
    | .blocked => (s.answerF .writeOk).dropEvent w .overrun
    | _ => (s.answerF .writeOk).drop w

/-- Whether a field-side read of an output window is substituted (R66, R84). -/
def Window.fSubstituted (x : Window) : Bool :=
  !x.valid || x.safe || x.state == .tripped || x.state == .fault

/-- A field access of an output window (R66, R67). -/
def State.fOutput (s : State) (w : Win) (d : Descriptor) (a : Access) : State :=
  let k := wordsFrom d.fview a.addr
  let target := d.fieldAt (s.win w).role k
  if !a.write then
    (if (s.win w).fSubstituted then s.answerF (.data d.safepat) else s.flyF (some w) false a target)
  else if d.live k then s.writeF w false a target
  else (s.answerF .writeOk).dropEvent w .protect

/-- A field access classified as a window access of `w`. -/
def State.fWindow (s : State) (w : Win) (a : Access) : State :=
  match (s.win w).inUse with
  | none => s
  | some d => match d.kind with
    | .input => s.fInput w d a
    | .output => s.fOutput w d a

/-- The error response of the part to a refused F access (R91, R92). -/
def refusalAnswer (write : Bool) : Answer := if write then .writeError else .readError

/-- An F access that does not stall is issued (R89, R91, R92, R103, R104). -/
def State.issueF (s : State) (a : Access) : State :=
  match s.classify .f a.write a.addr with
  | .refused => (s.answerF (refusalAnswer a.write)).record .protect
  | .window w => s.fWindow w a
  | .shield w =>
    if a.write then (s.answerF .writeOk).dropEvent w .protect else s.flyF none false a a.addr
  | _ => s.flyF none false a a.addr

/-- An F access reaches issue: it is held by a stall, or issued. -/
def State.reachF (s : State) (a : Access) : State :=
  if s.stalls .f a.write a.addr then { s with fp := { s.fp with held := some a } }
  else ({ s with fp := { s.fp with held := none } } : State).issueF a

/-- The retry of a stalled F access in an event that led from `s` to `t` (R100): if the access stalled
before and does not stall now, it issues. -/
def retryF (s t : State) : State :=
  match t.fp.held, t.fp.inFlight with
  | some a, none => if s.stalls .f a.write a.addr && !t.stalls .f a.write a.addr then t.reachF a else t
  | _, _ => t

end Sys2Proof.Machine
end

