-- ==== Sys2Proof/Machine/Commands.lean ====
section
/-! DEFINITION. The commands of software (chapters 9 and 11): the taking of a command word, its result,
the tests of each per-window command, and the effects of the eleven commands. -/

namespace Sys2Proof.Machine

/-! ## The result record -/

/-- A command's taking overwrites the result record (R151, R154); a result other than DONE records
CMD_REFUSED (R151 to R153). -/
def State.setResult (s : State) (code : BitVec 8) (r : ResultCode) (refused : BitVec 16) : State :=
  let t : State := { s with cba := { s.cba with result :=
    { code := code, result := r, refused := refused, seq := s.cba.result.seq + 1 } } }
  if r = .done then t else t.record .cmdRefused

/-! ## Descriptor fetches -/

/-- The head of the Load Queue starts its fetch when none is in progress (R133): the target slot is the
inactive one and becomes INVALID. -/
def State.startFetch (s : State) : State :=
  match s.cba.fetch, s.cba.loadQueue with
  | none, w :: _ =>
    ({ s with cba := { s.cba with fetch := some { win := w, slot := (s.win w).active.other, words := [] } } } : State).modWin w
      fun x => x.setSlot x.active.other none
  | _, _ => s

/-! ## Per-window commands -/

/-- The bit of a window in a mask. -/
def winBit (w : Win) : BitVec 16 := 1#16 <<< w.val

/-- A command being taken window by window: the state and the windows refused so far. -/
structure Taking where
  s       : State
  refused : BitVec 16

/-- Window `w` is refused with a reason (R153). -/
def State.refuse (s : State) (w : Win) (r : Reason) : State :=
  (s.modWin w fun x => { x with refusal := r }).touch (.win w)

/-- One named window of a per-window command: the first test that holds refuses it, otherwise the command
acts on it (R153). -/
def takeWindow (test : State → Win → Reason) (effect : State → Win → State) (mask : BitVec 16) (acc : Taking) (w : Win) :
    Taking :=
  if mask.getLsbD w.val then
    (if test acc.s w = .none then { acc with s := effect acc.s w }
     else { s := acc.s.refuse w (test acc.s w), refused := acc.refused ||| winBit w })
  else acc

/-- All named windows in ascending number (R153). -/
def takeWindows (test : State → Win → Reason) (effect : State → Win → State) (mask : BitVec 16) (s : State) : Taking :=
  allWindows.foldl (takeWindow test effect mask) { s := s, refused := 0 }

/-- The result by how many windows were refused (R153). -/
def resultOf (mask refused : BitVec 16) : ResultCode :=
  if refused = 0 then .done else if refused = mask then .refused else .partly

/-- An accepted per-window command (R153). -/
def State.perWindow (s : State) (test : State → Win → Reason) (effect : State → Win → State) (x : Word) : State :=
  let t := takeWindows test effect (cmdMask x) s
  t.s.setResult (cmdCode x) (resultOf (cmdMask x) t.refused) t.refused

/-- Tests of LOAD (R132). -/
def loadTest (s : State) (w : Win) : Reason :=
  if w ∈ s.cba.loadQueue then .busy else if (s.win w).switchPending then .busy else .none

/-- LOAD on an accepted window (R132). -/
def loadEffect (s : State) (w : Win) : State :=
  { s with cba := { s.cba with loadQueue := s.cba.loadQueue ++ [w] } }

/-- Tests of SWITCH (R136). -/
def switchTest (s : State) (w : Win) : Reason :=
  if w ∈ s.cba.loadQueue then .busy
  else if ((s.win w).slot (s.win w).active.other).isNone then .invalid else .none

/-- SWITCH on an accepted window (R136). -/
def switchEffect (s : State) (w : Win) : State := s.modWin w fun x => { x with switchPending := true }

/-- CANCEL has no test (R137). -/
def cancelTest (_ : State) (_ : Win) : Reason := .none

/-- CANCEL (R137). -/
def cancelEffect (s : State) (w : Win) : State := s.modWin w fun x => { x with switchPending := false }

/-- Tests of HOLD and RELEASE: the window is an input window outside IDLE (R153). -/
def inputTest (s : State) (w : Win) : Reason :=
  match (s.win w).inUse with
  | none => .idle
  | some d => match d.kind with
    | .input => .none
    | .output => .badkind

/-- HOLD (R52). -/
def holdEffect (s : State) (w : Win) : State := s.modWin w fun x => { x with held := true }

/-- RELEASE (R53). -/
def releaseEffect (s : State) (w : Win) : State := s.modWin w fun x => { x with held := false }

/-- Tests of COMMIT (R68, R153). -/
def commitTest (s : State) (w : Win) : Reason :=
  match (s.win w).inUse with
  | none => .idle
  | some d => match d.kind with
    | .input => .badkind
    | .output => if (s.win w).state = .tripped ∨ (s.win w).state = .fault then .badstate else .none

/-- COMMIT on an accepted window (R68): COMPOSING becomes COMMITTED, COMMITTED stays. -/
def commitEffect (s : State) (w : Win) : State := s.modWin w fun x => { x with state := .committed }

/-- Tests of REARM (R55, R76, R153). -/
def rearmTest (s : State) (w : Win) : Reason :=
  match (s.win w).inUse with
  | none => .idle
  | some _ => if (s.win w).swapPending || s.bankWriteInFlight w then .busy else .none

/-- REARM on an accepted window (R55, R76). -/
def rearmEffect (s : State) (w : Win) : State :=
  match (s.win w).inUse with
  | none => s
  | some d => s.prime w d

/-! ## Global commands -/

/-- The record of a window when START is taken (R128): both slots INVALID, slot A active, no SWITCH
PENDING. -/
def Window.unloaded (x : Window) : Window :=
  { x with slotA := none, slotB := none, active := .a, switchPending := false }

/-- START accepted (R26, R128): the counter and the group position are zeroed, every slot becomes INVALID,
and the START load begins. -/
def State.beginLoad (s : State) : State :=
  (allWindows.foldl (fun t w => (t.modWin w Window.unloaded).touch (.win w))
    ({ s with
        cc := { s.cc with state := .loading, cycle := 0, groupPos := 0, freezeReq := false, interval := false, watchdog := false }
        cba := { s.cba with load := some { count := 0, words := [], config := none, ending := none } } } : State)).touch .global

/-- The record of a window when STOP is taken (R12, R19). -/
def Window.stopped (x : Window) : Window :=
  { x with state := .idle, swapPending := false, switchPending := false, miss := 0, carry := [], waitSet := [], coalesced := false }

/-- What DRAINING waits for beside the Notice Queue (R35, R36): accesses in flight, the copy pair in
flight, and the K read in flight. -/
def State.drainWork (s : State) : List DrainMember :=
  (if s.pp.current.isSome then [.p] else []) ++ (if s.fp.inFlight.isSome then [.f] else []) ++
  (match s.mp.grant with
   | .free => []
   | .single t => match t.work with
     | .loopFill _ => [.pair]
     | .loadRead => [.read]
     | .fetchRead => [.read]
     | _ => []
   | .pairRead t => if t.work.holder = .c then [.pair] else []
   | .pairWrite t _ => if t.work.holder = .c then [.pair] else [])

/-- K's read request is withdrawn unless it is granted (R142); a write-back word's is kept. -/
def State.withdrawRead (s : State) : State :=
  if s.mp.grant.holder = some .k then s
  else match s.cba.request with
    | some .writeback => s
    | _ => { s with cba := { s.cba with request := none } }

/-- STOP accepted (R35, R36): DRAINING is entered, every window becomes IDLE, the Copy and Load Queues and
a START load end, reservations are released, and the drain set is recorded; an F access stalled at a
window is then retried (R100). -/
def State.stop (s : State) : State :=
  let t : State := { s with
    cc := { s.cc with state := .draining, lowSeen := false, freezeReq := false, interval := false, watchdog := false,
                      drainSet := s.drainWork }
    ce := { jobs := [], running := false, request := false }
    nu := { s.nu with reservations := [] }
    cba := { s.withdrawRead.cba with load := none, loadQueue := [], fetch := none } }
  retryF s (allWindows.foldl (fun t w => t.modWin w Window.stopped) t)

/-- RESET accepted (R38, R160): RESETTING is entered and waits for what is in flight. -/
def State.softReset (s : State) : State :=
  { s with cc := { s.cc with state := .resetting, phase := .waiting, freezeReq := false, interval := false, watchdog := false,
                             drainSet := [] } }

/-- CLEARERR (R149): the latch is emptied and ERR falls. MEMERR is not cleared. -/
def State.clearError (s : State) : State := { s with mp := { s.mp with latch := ErrorLatch.empty } }

/-! ## Taking a command -/

/-- The controller states in which per-window commands are accepted (R152). -/
def CState.live (c : CState) : Bool :=
  c == .armed || c == .aligning || c == .running || c == .frozen || c == .lost

/-- Whether a command is accepted in a controller state (R152). -/
def Command.accepted (c : CState) : Command → Bool
  | .start => c == .stopped
  | .stop => c == .loading || c.live
  | .reset => true
  | .clearerr => true
  | .load => c.live
  | .switch => c.live
  | .cancel => c.live
  | .hold => c.live
  | .release => c.live
  | .commit => c.live
  | .rearm => c.live

/-- Whether a command acts window by window (R152). -/
def Command.windowed : Command → Bool
  | .start => false
  | .stop => false
  | .reset => false
  | .clearerr => false
  | .load => true
  | .switch => true
  | .cancel => true
  | .hold => true
  | .release => true
  | .commit => true
  | .rearm => true

/-- An accepted command word (R152, R153). -/
def State.runCommand (s : State) (x : Word) : Command → State
  | .start => s.beginLoad.setResult (cmdCode x) .done 0
  | .stop => s.stop.setResult (cmdCode x) .done 0
  | .reset => s.softReset.setResult (cmdCode x) .done 0
  | .clearerr => s.clearError.setResult (cmdCode x) .done 0
  | .load => (s.perWindow loadTest loadEffect x).startFetch
  | .switch => s.perWindow switchTest switchEffect x
  | .cancel => s.perWindow cancelTest cancelEffect x
  | .hold => s.perWindow inputTest holdEffect x
  | .release => s.perWindow inputTest releaseEffect x
  | .commit => s.perWindow commitTest commitEffect x
  | .rearm => s.perWindow rearmTest rearmEffect x

/-- The refused mask of a command refused by controller state (R152). -/
def Command.badstateMask (c : Command) (x : Word) : BitVec 16 := if c.windowed then cmdMask x else 0

/-- What a command word spells (R151, R161): with fewer than four enables, or a code that names no command,
it is unknown. -/
inductive Spelling where
  | known (c : Command)
  | unknown
  deriving DecidableEq, Repr

/-- The spelling of a written command word. -/
def spelling (be : Lanes) (x : Word) : Spelling :=
  if be = 0xF#4 then
    match commandOf (cmdCode x) with
    | some c => .known c
    | none => .unknown
  else .unknown

/-- The code the result record shows: 0 for a write with fewer than four enables (R154). -/
def shownCode (be : Lanes) (x : Word) : BitVec 8 := if be = 0xF#4 then cmdCode x else 0

/-- A command word is taken by the Control Block Agent at its issue (R94, R151, R152). -/
def State.takeCommand (s : State) (be : Lanes) (x : Word) : State :=
  match spelling be x with
  | .unknown => s.setResult (shownCode be x) .unknown 0
  | .known c =>
    if c.accepted s.cc.state then s.runCommand x c
    else s.setResult (cmdCode x) .badstate (c.badstateMask x)

end Sys2Proof.Machine
end

