-- ==== Sys2Proof/Machine/Issue.lean ====
section
/-! DEFINITION. The P port's taking and issue of accesses, the retry of stalled accesses, and the meanings
of P_WRITE_TAKE, P_READ_TAKE, ACCESS_ISSUE and of the twelve command rows (R89, R100, R108 to R110,
R151). -/

namespace Sys2Proof.Machine

/-! ## Issue on the P port -/

/-- The issue of the head of the PWQ (R89, R110): a stalled write stays at the head; an issued one leaves
the queue. A command word is taken at its issue and its own write is then the current access (R94). -/
def State.issueWrite (s : State) (x : PWrite) (rest : List PWrite) : State :=
  let t : State := { s with pp := { s.pp with pwq := rest } }
  match s.classify .p true x.addr with
  | .refused => t.record .protect
  | .command => (t.issueAs none false [plainWrite x]).takeCommand x.be x.data
  | .cbPass _ => t.issueAs none false [plainWrite x]
  | .cbDrop => t.record .protect
  | .window w => if s.windowStalls .p w then s else t.pWriteWindow w x
  | .shield w => t.dropEvent w .protect
  | .pass => t.issueAs none false [plainWrite x]

/-- Whether FENCE of `w` holds accesses of the P port (R100, R101): it is set, and the window's views are decoded. -/
def State.fenceHolds (s : State) (w : Win) : Bool := (s.win w).fence && (s.win w).inUse.isSome

/-- Whether the access next in order stays stalled at a FENCE whose window's views have left its address (R140;
log 39). -/
def State.fenceStands (s : State) : Bool := s.pp.fenced.any s.fenceHolds

/-- The P port's access next in order reaches issue (R110): the head of the PWQ, or with the PWQ empty the
read in the read slot. In RESETTING it is held before classification (R97), and one that stays stalled at a FENCE
waits for its retry (R100). -/
def State.issueP (s : State) : State :=
  if s.pp.current.isSome || s.cc.state == .resetting || s.fenceStands then s
  else match s.pp.pwq, s.pp.readSlot with
    | x :: rest, _ => s.issueWrite x rest
    | [], some r => s.issueRead r
    | [], none => s

/-- What the P port's access next in order would be classified as now. -/
def State.headClass (s : State) : Option AccessClass :=
  match s.pp.pwq, s.pp.readSlot with
  | x :: _, _ => some (s.classify .p true x.addr)
  | [], some r => some (s.classify .p false r.addr)
  | [], none => none

/-- Whether the P port's access next in order stalls now. -/
def State.headStalls (s : State) : Bool :=
  s.fenceStands ||
  match s.pp.pwq, s.pp.readSlot with
  | x :: _, _ => s.stalls .p true x.addr
  | [], some r => s.stalls .p false r.addr
  | [], none => false

/-- The window at whose FENCE the access that stands at issue on the P port stalls (R100, test 2). -/
def State.headFence (s : State) : Option Win :=
  if s.pp.current.isSome || s.cc.state == .resetting then none
  else match s.headClass with
    | some (.window w) => if !(s.win w).swapPending && (s.win w).fence then some w else none
    | _ => none

/-- The retry of a P access whose stall an event that led to `t` has lifted, where it stalled at the FENCE of `f`: it
reaches issue, unless that FENCE still holds. A switch into an enabled slot leaves it so, and the access waits for the
FENCE to clear (R100, R140; log 39). -/
def retryHead (f : Option Win) (t : State) : State :=
  if f.any t.fenceHolds then { t with pp := { t.pp with fenced := f } } else t.issueP

/-- In an event that led from `s` to `t`: a stall that has outlived its address ends with the FENCE, or with the
window's leaving of the state in which its views are decoded (R100). -/
def endFenced (s t : State) : State :=
  if s.fenceStands && !t.fenceStands then { t with pp := { t.pp with fenced := none } } else t

/-- The retry of a stalled P access in an event that led from `s` to `t` (R100). -/
def retryP (s t : State) : State :=
  if s.headStalls && !(endFenced s t).headStalls then retryHead s.headFence (endFenced s t) else endFenced s t

/-- The retries an event that lifts stalls brings with it (R15, R100), P port first (log 15). -/
def retryStalled (s t : State) : State := retryF s (retryP s t)

/-! ## Taking and issue -/

/-- A processor write is taken (R108). It is not taken while the PWQ is full, nor while a read holds the
processor bus (R109). -/
def State.takeWrite (s : State) (a : Addr) (be : Lanes) (d : Word) : State :=
  if s.pp.pwq.length < 4 ∧ s.pp.readSlot = none then
    { s with pp := { s.pp with pwq := s.pp.pwq ++ [{ addr := wordAddr a, be := be, data := d }] },
             lines := { s.lines with pBus := .writeOk } }
  else s

/-- A processor read is taken (R109). -/
def State.takeRead (s : State) (a : Addr) (be : Lanes) : State :=
  if s.pp.pwq = [] ∧ s.pp.current = none ∧ s.pp.readSlot = none then
    { s with pp := { s.pp with readSlot := some { addr := wordAddr a, be := be } } }
  else s

/-- An access reaches issue (R89, R90, R110). -/
def State.issue (s : State) : IssueAt → State
  | .p => s.issueP
  | .f a =>
    if s.fp.held = none ∧ s.fp.inFlight = none then s.reachF { a with addr := wordAddr a.addr } else s
  | .fHeld =>
    match s.fp.held, s.fp.inFlight with
    | some a, none => s.reachF a
    | _, _ => s

/-- What the command word that stands at issue on the P port spells (log 4): the P port has no current
access, no stall holds it, and the head of the PWQ is a write to the command word. -/
def State.commandAtIssue (s : State) : Option Spelling :=
  if s.pp.current.isSome || s.cc.state == .resetting || s.fenceStands then none
  else match s.pp.pwq with
    | [] => none
    | x :: _ => if s.classify .p true x.addr = .command then some (spelling x.be x.data) else none

/-- The row of a command: the issue of the command word that spells it. -/
def State.commandRow (s : State) (c : Spelling) : State :=
  if s.commandAtIssue = some c then s.issueP else s

/-! ## Meanings -/

/-- P_WRITE_TAKE (R108). -/
def execPWriteTake (addr : Addr) (be : Lanes) (data : Word) (s : State) : Host.Outcome State Fault Refusal :=
  act (fun s => s.takeWrite addr be data) s

/-- P_READ_TAKE (R109). -/
def execPReadTake (addr : Addr) (be : Lanes) (s : State) : Host.Outcome State Fault Refusal :=
  act (fun s => s.takeRead addr be) s

/-- ACCESS_ISSUE (R89, R90, R110). -/
def execAccessIssue (port : IssueAt) (s : State) : Host.Outcome State Fault Refusal :=
  act (fun s => s.issue port) s

/-- START (R26, R128). -/
def execStart (s : State) : Host.Outcome State Fault Refusal := act (fun s => s.commandRow (.known .start)) s

/-- STOP (R35, R36). -/
def execStop (s : State) : Host.Outcome State Fault Refusal := act (fun s => s.commandRow (.known .stop)) s

/-- RESET (R160). -/
def execReset (s : State) : Host.Outcome State Fault Refusal := act (fun s => s.commandRow (.known .reset)) s

/-- CLEARERR (R149). -/
def execClearerr (s : State) : Host.Outcome State Fault Refusal := act (fun s => s.commandRow (.known .clearerr)) s

/-- LOAD (R132). -/
def execLoad (s : State) : Host.Outcome State Fault Refusal := act (fun s => s.commandRow (.known .load)) s

/-- SWITCH (R136). -/
def execSwitch (s : State) : Host.Outcome State Fault Refusal := act (fun s => s.commandRow (.known .switch)) s

/-- CANCEL (R137). -/
def execCancel (s : State) : Host.Outcome State Fault Refusal := act (fun s => s.commandRow (.known .cancel)) s

/-- HOLD (R52). -/
def execHold (s : State) : Host.Outcome State Fault Refusal := act (fun s => s.commandRow (.known .hold)) s

/-- RELEASE (R53). -/
def execRelease (s : State) : Host.Outcome State Fault Refusal := act (fun s => s.commandRow (.known .release)) s

/-- COMMIT (R68). -/
def execCommit (s : State) : Host.Outcome State Fault Refusal := act (fun s => s.commandRow (.known .commit)) s

/-- REARM (R55, R76). -/
def execRearm (s : State) : Host.Outcome State Fault Refusal := act (fun s => s.commandRow (.known .rearm)) s

/-- UNKNOWN_COMMAND (R151). -/
def execUnknownCommand (s : State) : Host.Outcome State Fault Refusal := act (fun s => s.commandRow .unknown) s

end Sys2Proof.Machine
end

