-- ==== Sys2Proof/Machine/Port.lean ====
section
/-! DEFINITION. The Memory Port and Arbiter (chapter 10): who requests, whom the arbiter grants, what is
granted, and the completions of the transactions of the two masters and of the Merge Unit: the meanings of
MP_GRANT, READ_CLEAR, READ_HALF_RESPONSE, P_ACCESS_COMPLETE, F_ACCESS_COMPLETE, MERGE_PAIR_COMPLETE and
DEMAND_COPY_COMPLETE. -/

namespace Sys2Proof.Machine

/-! ## Arbitration -/

/-- Whether a requester's request waits, when the grant state is FREE (R142). An access in flight on a port
has its next item waiting. -/
def State.waits (s : State) : Requester → Bool
  | .f => s.fp.inFlight.isSome
  | .p => s.pp.current.isSome
  | .k => s.cba.request.isSome
  | .c => s.ce.request

/-- The order of ARBMODE FIXED (R144). -/
def fixedOrder (urgent : Bool) : List Requester := if urgent then [.f, .c, .p, .k] else [.f, .p, .k, .c]

/-- The cyclic order F, P, K, C from the one after the pointer (R145). -/
def rotatingOrder : Requester → List Requester
  | .f => [.p, .k, .c, .f]
  | .p => [.k, .c, .f, .p]
  | .k => [.c, .f, .p, .k]
  | .c => [.f, .p, .k, .c]

/-- The order in which the arbiter looks at the requesters now. -/
def State.arbOrder (s : State) : List Requester :=
  match s.cba.config.arbMode with
  | .fixed => fixedOrder s.urgent
  | .rotating => rotatingOrder s.mp.pointer

/-- The requester the arbiter picks (R143): nobody while a transaction is granted or no request waits. -/
def State.winner (s : State) : Option Requester :=
  if s.mp.grant = .free then s.arbOrder.find? s.waits else none

/-! ## What is granted -/

/-- The grant state changes. -/
def State.setGrant (s : State) (g : Grant) : State := { s with mp := { s.mp with grant := g } }

/-- A grant to requester `q` (R141, R145): the pointer moves only in ROTATING. -/
def State.grantTo (s : State) (q : Requester) (g : Grant) : State :=
  { s with mp := { s.mp with
      grant := g
      pointer := match s.cba.config.arbMode with
        | .fixed => s.mp.pointer
        | .rotating => q } }

/-- The grant of the F access in flight. -/
def State.grantF (s : State) : State :=
  match s.fp.inFlight with
  | none => s
  | some a => s.grantTo .f (.single
      { work := .fAccess, dir := a.dir, addr := a.addr, be := a.be, data := a.data, foretold := none })

/-- The item at the head of the current P access leaves its plan. -/
def State.popItem (s : State) : State :=
  match s.pp.current with
  | none => s
  | some a => { s with pp := { s.pp with current := some { a with items := a.items.tail } } }

/-- A read-clear read granted with the answer memory will give it (R158, log 9). -/
def State.readClearAt (s : State) (answer : Resp) : Option RecName → State
  | none => s
  | some r => match answer with
    | .ok => s.clearPublished r
    | .err => s

/-- The answer fixed at a grant: that of a read-clear read alone (log 9). -/
def foretoldFor (answer : Resp) : Option RecName → Option Resp
  | none => none
  | some _ => some answer

/-- The grant of one item of the current P access (R113, R116): a demand copy of a window in FAULT is not
made, its request is withdrawn and the plan goes on to its next item. -/
def State.grantItem (s : State) (answer : Resp) : PItem → State
  | .demand w k src dst =>
    if (s.win w).state = .fault then s.popItem
    else s.grantTo .p (.pairRead { work := .demand w k, src := src, dst := dst })
  | .merge w op be data target => s.grantTo .p (.pairRead { work := .merge w op be data, src := target, dst := target })
  | .plain dir addr be data clears =>
    (s.grantTo .p (.single { work := .pPlain, dir := dir, addr := addr, be := be, data := data
                             foretold := foretoldFor answer clears })).readClearAt answer clears

/-- The grant of the P port's request. -/
def State.grantP (s : State) (answer : Resp) : State :=
  match s.pp.current with
  | none => s
  | some a => match a.items with
    | [] => s
    | x :: _ => s.grantItem answer x

/-- CB offset of read `n` of the START load (R128, section 12.1): the configuration record, the slot A
descriptors, the slot B descriptors. -/
def loadOffset (n : Nat) : Nat :=
  if n < 8 then 0x040 + 4 * n
  else if n < 136 then 0x400 + 4 * (n - 8)
  else 0x600 + 4 * (n - 136)

/-- CB offset of a slot's descriptor area (section 12.1). -/
def slotOffset (n : SlotName) (w : Win) : Nat :=
  match n with
  | .a => 0x400 + 32 * w.val
  | .b => 0x600 + 32 * w.val

/-- A read of requester K. -/
def State.kRead (s : State) (work : SingleWork) (off : Nat) : Single where
  work := work
  dir := .read
  addr := s.cbAt off
  be := 0xF
  data := 0
  foretold := none

/-- The grant of requester K (R128, R133, R156): a write-back word carries the value of its items at the
grant. -/
def State.grantK (s : State) : State :=
  match s.cba.request with
  | none => s
  | some .load => match s.cba.load with
    | none => s
    | some l => s.grantTo .k (.single (s.kRead .loadRead (loadOffset l.count)))
  | some .fetch => match s.cba.fetch with
    | none => s
    | some f => s.grantTo .k (.single (s.kRead .fetchRead (slotOffset f.slot f.win + 4 * f.words.length)))
  | some .writeback => match s.cba.writeback with
    | none => s
    | some b => s.grantTo .k (.single
        { work := .writebackWord b.name b.word, dir := .write, addr := s.cbAt (b.name.offset + 4 * b.word)
          be := 0xF, data := s.recordWord b.name b.word, foretold := none })

/-- The request of the Copy Engine is no longer presented. -/
def State.withdrawC (s : State) : State := { s with ce := { s.ce with request := false } }

/-- The grant of a carry job's request (R81): the lowest marked offset, or the end of the job. -/
def State.grantCarry (s : State) (w : Win) : State :=
  match (s.win w).inUse, (s.win w).carry with
  | some d, k :: _ => s.withdrawC.grantTo .c (.pairRead
      { work := .carry w k, src := d.fieldAt (s.win w).role k, dst := d.procAt (s.win w).role k })
  | _, _ => s.endJob w

/-- The end of a loop job at its tests (R84): test 2 records LOOP_NOSRC at the destination. -/
def State.endLoopNosrc (s : State) (d : Win) : State := (s.endJob d).event d .loopNosrc

/-- The grant of a loop job's request for the word at offset `k` (R84): tests 1 and 2 and the test of `k`
against the two lengths are made again; substitution and banks are decided here. A grant makes no record dirty, and the
end of the job here the destination's (log 40, DESIGN CHOICE). -/
def State.grantLoop (s : State) (d src : Win) (k : Nat) : State :=
  match (s.win d).inUse with
  | none => s.endJob d
  | some dd =>
    if (s.win d).state ≠ .filling then s.endJob d
    else match s.loopSource src with
      | none => s.endLoopNosrc d
      | some sd =>
        if min dd.len sd.len ≤ k then s.endJob d
        else if (s.win src).fSubstituted then
          s.withdrawC.grantTo .c (.single
            { work := .loopFill d, dir := .write, addr := dd.fieldAt (s.win d).role k, be := 0xF, data := sd.safepat
              foretold := none })
        else s.withdrawC.grantTo .c (.pairRead
          { work := .loop d, src := sd.fieldAt (s.win src).role k, dst := dd.fieldAt (s.win d).role k })

/-- The grant of the Copy Engine's request. -/
def State.grantC (s : State) : State :=
  match s.job with
  | none => s.withdrawC
  | some j => match j.kind with
    | .carry => s.grantCarry j.dest
    | .loop src k => s.grantLoop j.dest src k

/-- One pass of the arbiter (R143): the winner is granted, or its request is withdrawn. -/
def State.arbitrate (s : State) (answer : Resp) : State :=
  match s.winner with
  | none => s
  | some .f => s.grantF
  | some .p => s.grantP answer
  | some .k => s.grantK
  | some .c => s.grantC

/-- The record whose flags the P port's next item clears, if that item is a read-clear read (R95). -/
def State.readClearNext (s : State) : Option RecName :=
  match s.pp.current with
  | none => none
  | some a => match a.items with
    | .plain .read _ _ _ clears :: _ => clears
    | _ => none

/-- READ_CLEAR (R158): the grant when the winner is a read-clear read. -/
def State.readClear (s : State) (answer : Resp) : State :=
  if s.winner = some .p ∧ s.readClearNext.isSome then s.arbitrate answer else s

/-! ## Pairs -/

/-- Byte enables of the write half of a pair: a merge writes the enabled lanes, a copy the whole word
(R84, R114, R116). -/
def PairWork.writeLanes : PairWork → Lanes
  | .merge _ _ be _ => be
  | .demand _ _ => 0xF
  | .carry _ _ => 0xF
  | .loop _ => 0xF

/-- Data of the write half, from the word the read half gave (R64, R114, R116). -/
def PairWork.writeData : PairWork → Word → Word
  | .merge _ op _ x, old => op.result old x
  | .demand _ _, old => old
  | .carry _ _, old => old
  | .loop _, old => old

/-- A normal response to the read half grants the write half at once (R141). -/
def State.readHalf (s : State) : State :=
  match s.mp.grant with
  | .pairRead t => s.setGrant (.pairWrite t (t.work.writeData (s.memRead t.src)))
  | _ => s

/-- The write half of a pair is answered (R141, R147): the enabled lanes reach memory, an error is latched,
and the port is FREE. -/
def State.finishPair (s : State) (r : Resp) (src : ErrSource) (t : Pair) (data : Word) : State :=
  State.latchAnswer r ((State.memAnswered r s t.dst t.work.writeLanes data).setGrant .free) src .write t.dst

/-- The read half of a pair is answered with an error (R141, R147): the pair ends there. -/
def State.failPair (s : State) (src : ErrSource) (t : Pair) : State := (s.setGrant .free).latchError src .read t.src

/-! ## Completions of the masters' transactions -/

/-- What a plain P access does at its completion (R105, R109, R111). -/
def State.completeP (s : State) (r : Resp) (t : Single) : State :=
  match t.dir, r with
  | .read, .ok => s.answerP (.data (s.memRead t.addr))
  | .read, .err => s.answerP .readError
  | .write, _ => State.memAnswered r s t.addr t.be t.data

/-- P_ACCESS_COMPLETE: the plain transaction of the current P access completes (R111). The answer of a
read-clear read is the one it was granted with (log 9). -/
def State.pAccessComplete (s : State) (r : Resp) : State :=
  match s.mp.grant with
  | .single t =>
    if t.work = .pPlain ∧ (t.foretold = none ∨ t.foretold = some r) then
      State.latchAnswer r (((s.setGrant .free).completeP r t).endP) .p t.dir t.addr
    else s
  | _ => s

/-- What an F access does at its completion (R104, R105). -/
def State.completeF (s : State) (r : Resp) (t : Single) : State :=
  match t.dir, r with
  | .read, .ok => s.answerF (.data (s.memRead t.addr))
  | .read, .err => s.answerF .readError
  | .write, .ok => (s.memWrite t.addr t.be t.data).answerF .writeOk
  | .write, .err => (s.memFail t.addr t.be).answerF .writeError

/-- F_ACCESS_COMPLETE (R104): a counted write stays counted whatever the response (R40). -/
def State.fAccessComplete (s : State) (r : Resp) : State :=
  match s.mp.grant with
  | .single t =>
    if t.work = .fAccess then
      State.latchAnswer r (((s.setGrant .free).completeF r t).endF) .f t.dir t.addr
    else s
  | _ => s

/-! ## Completions of the Merge Unit's pairs -/

/-- MERGE_PAIR_COMPLETE (R114, R115): the write half answered, or the read half answered with an error. A
normal answer to the read half is READ_HALF_RESPONSE and completes nothing. -/
def State.mergePairComplete (s : State) (r : Resp) : State :=
  match s.mp.grant with
  | .pairRead t => match t.work, r with
    | .merge w _ _ _, .err => ((s.failPair .mu t).dropEvent w .mergeFault).endP
    | _, _ => s
  | .pairWrite t x => match t.work with
    | .merge _ _ _ _ => (s.finishPair r .mu t x).endP
    | _ => s
  | _ => s

/-- A carry mark is cleared (R65, R81). -/
def State.eraseMark (s : State) (w : Win) (k : Nat) : State := s.modWin w fun x => { x with carry := x.carry.erase k }

/-- A demand copy clears its mark, and the window's record becomes dirty (R65, R116). -/
def State.clearMark (s : State) (w : Win) (k : Nat) : State := (s.eraseMark w k).touch (.win w)

/-- DEMAND_COPY_COMPLETE (R116, R117): the pair is done and its mark cleared, or its read half failed and the
window enters FAULT; the access goes on with the rest of its plan. -/
def State.demandCopyComplete (s : State) (r : Resp) : State :=
  match s.mp.grant with
  | .pairRead t => match t.work, r with
    | .demand w _, .err => retryStalled s ((s.failPair .mu t).faultOutput w).popItem
    | _, _ => s
  | .pairWrite t x => match t.work with
    | .demand w k => ((s.finishPair r .mu t x).clearMark w k).popItem
    | _ => s
  | _ => s

/-! ## Meanings -/

/-- MP_GRANT (R143). -/
def execMpGrant (answer : Resp) (s : State) : Host.Outcome State Fault Refusal := act (fun s => s.arbitrate answer) s

/-- READ_CLEAR (R158). -/
def execReadClear (answer : Resp) (s : State) : Host.Outcome State Fault Refusal := act (fun s => s.readClear answer) s

/-- READ_HALF_RESPONSE (R141). -/
def execReadHalfResponse (s : State) : Host.Outcome State Fault Refusal := act State.readHalf s

/-- P_ACCESS_COMPLETE (R111). -/
def execPAccessComplete (r : Resp) (s : State) : Host.Outcome State Fault Refusal := act (fun s => s.pAccessComplete r) s

/-- F_ACCESS_COMPLETE (R104). -/
def execFAccessComplete (r : Resp) (s : State) : Host.Outcome State Fault Refusal := act (fun s => s.fAccessComplete r) s

/-- MERGE_PAIR_COMPLETE (R114). -/
def execMergePairComplete (r : Resp) (s : State) : Host.Outcome State Fault Refusal := act (fun s => s.mergePairComplete r) s

/-- DEMAND_COPY_COMPLETE (R116). -/
def execDemandCopyComplete (r : Resp) (s : State) : Host.Outcome State Fault Refusal :=
  act (fun s => s.demandCopyComplete r) s

end Sys2Proof.Machine
end

