-- ==== Sys2Proof/Machine/Copy.lean ====
section
/-! DEFINITION. The Copy Engine's running of jobs (chapter 5) and the performance of a pending swap: the
meanings of COPY_JOB_START, CARRY_PAIR_COMPLETE, LOOP_PAIR_COMPLETE and SWAP_PERFORM. -/

namespace Sys2Proof.Machine

/-! ## The tests between two pairs -/

/-- The Copy Engine presents a request, but not from RESET to its reset values (R160). -/
def State.requestC (s : State) : State :=
  if s.cc.state = .resetting then s else { s with ce := { s.ce with request := true } }

/-- The test of a carry job (R81): it ends when no mark is set. -/
def State.carryNext (s : State) (w : Win) : State :=
  if (s.win w).carry = [] then s.endJob w else s.requestC

/-- The next offset at or after `k` that is not live (R84, test 3). -/
def Descriptor.skipLive (d : Descriptor) (k : Nat) : Nat := if d.live k then d.liveOff + d.liveLen else k

/-- The job in progress takes a next offset (R77). -/
def State.setNext (s : State) (src : Win) (k : Nat) : State :=
  match s.ce.jobs with
  | j :: js => { s with ce := { s.ce with jobs := { j with kind := .loop src k } :: js } }
  | [] => s

/-- The three tests of a loop job before a word (R84), from next offset `k`. A test after which the job goes on makes no
record dirty, and one that ends the job makes the destination's dirty: R84 leaves the event open (log 40, DESIGN CHOICE). -/
def State.loopNext (s : State) (d src : Win) (k : Nat) : State :=
  match (s.win d).inUse with
  | none => s.endJob d
  | some dd =>
    if (s.win d).state ≠ .filling then s.endJob d
    else match s.loopSource src with
      | none => s.endLoopNosrc d
      | some sd =>
        if min dd.len sd.len ≤ dd.skipLive k then s.endJob d
        else (s.setNext src (dd.skipLive k)).requestC

/-- The test of the job in progress by its kind (R79). -/
def State.jobNext (s : State) : State :=
  match s.job with
  | none => s
  | some j => match j.kind with
    | .carry => s.carryNext j.dest
    | .loop src k => s.loopNext j.dest src k

/-- COPY_JOB_START (R79): with no job in progress and no pair in flight the head job becomes the job in
progress and makes its first test. From RESET to the reset values the Copy Engine starts nothing (R160). -/
def State.startJob (s : State) : State :=
  if s.ce.running ∨ s.ce.jobs = [] ∨ s.mp.grant.holder = some .c ∨ s.cc.state = .resetting then s
  else ({ s with ce := { s.ce with running := true } } : State).jobNext

/-! ## Completions -/

/-- The read half of a carry pair failed (R74, R83): the window enters FAULT, unless the job has been
ended. -/
def State.carryFailed (s : State) (w : Win) : State := if s.ce.running then (s.faultOutput w).endJob w else s

/-- A carry pair is done (R81, R87): its mark is cleared, and the job, unless it has been ended, makes its
next test. The carry map is shown in no record, and the window's record becomes dirty when the job ends. -/
def State.carryDone (s : State) (w : Win) (k : Nat) : State :=
  let t := s.eraseMark w k
  if s.ce.running then t.jobNext else t

/-- CARRY_PAIR_COMPLETE (R81, R83, R87). -/
def State.carryPairComplete (s : State) (r : Resp) : State :=
  match s.mp.grant with
  | .pairRead t => match t.work, r with
    | .carry w _, .err => retryStalled s (((s.failPair .ce t).carryFailed w).leaveDrain .pair)
    | _, _ => s
  | .pairWrite t x => match t.work with
    | .carry w k => ((s.finishPair r .ce t x).carryDone w k).leaveDrain .pair
    | _ => s
  | _ => s

/-- The read half of a loop pair failed (R86): the destination enters FAULT, unless the job has been
ended. -/
def State.loopFailed (s : State) (d : Win) : State :=
  if s.ce.running then (if (s.win d).state = .filling then s.faultInput d else s.endJob d) else s

/-- The job in progress advances past the word just moved (R84). -/
def State.loopAdvance (s : State) : State :=
  match s.job with
  | none => s
  | some j => match j.kind with
    | .carry => s
    | .loop src k => s.setNext src (k + 1)

/-- A loop word is done (R57, R85): unless its job has been ended it is counted, which makes the destination's record
dirty, and the job makes its next test (log 40). -/
def State.loopDone (s : State) (d : Win) : State :=
  if s.ce.running then
    (if (s.win d).state = .filling then ((s.modWin d Window.counted).touch (.win d)).loopAdvance.jobNext
     else s.jobNext)
  else s

/-- LOOP_PAIR_COMPLETE (R85, R86): a loop pair or a SAFEPAT write completes. -/
def State.loopPairComplete (s : State) (r : Resp) : State :=
  match s.mp.grant with
  | .pairRead t => match t.work, r with
    | .loop d, .err => ((s.failPair .ce t).loopFailed d).leaveDrain .pair
    | _, _ => s
  | .pairWrite t x => match t.work with
    | .loop d => ((s.finishPair r .ce t x).loopDone d).leaveDrain .pair
    | _ => s
  | .single t => match t.work with
    | .loopFill d =>
      ((State.latchAnswer r ((State.memAnswered r s t.addr t.be t.data).setGrant .free) .ce .write t.addr).loopDone d).leaveDrain .pair
    | _ => s
  | _ => s

/-! ## The performance of a pending swap -/

/-- Whether the swap of `w` is pending with an empty wait set, so that it is performed (R14, R16). From
RESET on no swap is performed (R38, R160). -/
def State.swapReady (s : State) (w : Win) : Bool :=
  (s.win w).swapPending && (s.win w).waitSet.isEmpty && (s.win w).inUse.isSome && s.cc.state != .resetting

/-- SWAP_PERFORM (R14 to R16, R56): the swap is performed, a loop window enqueues its job, and the accesses
stalled on it are retried. -/
def State.swapPerform (s : State) (w : Win) : State :=
  if s.swapReady w then retryStalled s ((s.performSwap w).enqueueLoop w) else s

/-! ## Meanings -/

/-- COPY_JOB_START (R79). -/
def execCopyJobStart (s : State) : Host.Outcome State Fault Refusal := act State.startJob s

/-- CARRY_PAIR_COMPLETE (R81). -/
def execCarryPairComplete (r : Resp) (s : State) : Host.Outcome State Fault Refusal := act (fun s => s.carryPairComplete r) s

/-- LOOP_PAIR_COMPLETE (R85). -/
def execLoopPairComplete (r : Resp) (s : State) : Host.Outcome State Fault Refusal := act (fun s => s.loopPairComplete r) s

/-- SWAP_PERFORM (R16). -/
def execSwapPerform (w : Win) (s : State) : Host.Outcome State Fault Refusal := act (fun s => s.swapPerform w) s

end Sys2Proof.Machine
end

