-- ==== Sys2Proof/Machine/Loading.lean ====
section
/-! DEFINITION. The START load and descriptor fetches (chapter 9): the meanings of LOAD_READ_COMPLETE,
START_LOAD_END and FETCH_READ_COMPLETE. -/

namespace Sys2Proof.Machine

/-! ## Shared by both kinds of read -/

/-- The word a read of K gets. -/
def State.readData (s : State) (t : Single) : Word := s.memRead t.addr

/-- A K read is answered (R141, R147, R156): the port is FREE, an error is latched, K has no request, a
waiting write-back word comes next, and the read leaves the drain set. -/
def State.kReadDone (s : State) (r : Resp) (t : Single) : State :=
  let u := State.latchAnswer r (s.setGrant .free) .k .read t.addr
  ({ u with cba := { u.cba with request := none, turn := .writeback } } : State).leaveDrain .read

/-- A descriptor read in full is validated (R5, R6, R130, R133): the window takes it as `store` says, or its slot
stays INVALID with LOAD_FAIL. -/
def State.fillSlot (s : State) (w : Win) (store : Descriptor → Window → Window) (ws : List Word) : State :=
  if s.validate w (decodeDescriptor ws) then (s.modWin w (store (decodeDescriptor ws))).touch (.win w)
  else s.event w .loadFail

/-- A slot takes a descriptor. -/
def putSlot (n : SlotName) (d : Descriptor) (x : Window) : Window := x.setSlot n (some d)

/-- A slot takes a descriptor in the START load. Slot A is the active slot then, and the items that a window of its
kind does not use take 0 (R39, R59, R162; log 38). -/
def loadSlotOf : SlotName → Descriptor → Window → Window
  | .a, d, x => { x with slotA := some d, held := x.held && d.kind == .input, safe := x.safe && d.kind == .output
                         fill := if d.kind = .input then x.fill else 0 }
  | .b, d, x => { x with slotB := some d }

/-! ## The START load -/

/-- The START load's record changes. -/
def State.setLoad (s : State) (l : Option StartLoad) : State := { s with cba := { s.cba with load := l } }

/-- Which slot descriptor `i` of the load's order is (R128): slot A of windows 0 to 15, then slot B. -/
def loadSlot (i : Nat) : Win × SlotName := (Fin.ofNat 16 i, if i < 16 then .a else .b)

/-- A whole record of the load has been read (R129, R130), `n` reads having completed. -/
def State.loadRecord (s : State) (l : StartLoad) (n : Nat) (ws : List Word) : State :=
  if n = 8 then
    match decodeConfig ws with
    | some c => s.setLoad (some { l with count := n, words := [], config := some c })
    | none => s.setLoad (some { l with count := n, words := [], ending := some false })
  else
    (s.setLoad (some { l with count := n, words := [], ending := if n = 264 then some true else none })).fillSlot
      (loadSlot (n / 8 - 2)).1 (loadSlotOf (loadSlot (n / 8 - 2)).2) ws

/-- A word of the load has been read (R128). -/
def State.loadWord (s : State) (l : StartLoad) (x : Word) : State :=
  if (l.words ++ [x]).length = 8 then s.loadRecord l (l.count + 1) (l.words ++ [x])
  else s.setLoad (some { l with count := l.count + 1, words := l.words ++ [x] })

/-- What a read of the load does to it (R131): after STOP or RESET its data is discarded. -/
def State.loadAnswered (s : State) (r : Resp) (x : Word) : State :=
  match s.cba.load with
  | none => s
  | some l =>
    if s.cc.state = .resetting then s
    else match r with
      | .err => s.setLoad (some { l with ending := some false })
      | .ok => s.loadWord l x

/-- LOAD_READ_COMPLETE (R128 to R131). -/
def State.loadReadComplete (s : State) (r : Resp) : State :=
  match s.mp.grant with
  | .single t => if t.work = .loadRead then (s.kReadDone r t).loadAnswered r (s.readData t) else s
  | _ => s

/-- The record of a window when a START load succeeds (R11, R12): priming where slot A is valid and enabled,
IDLE elsewhere, and in both the START column's values. -/
def Window.started (x : Window) : Window :=
  let y := { x with
    state := .idle, valid := false, held := false, safe := false, swapPending := false, fence := false
    switchPending := false, role := false, fill := 0, miss := 0, lost := 0, blocked := 0, drops := 0, lastSwap := 0
    carry := [], waitSet := [], coalesced := false }
  match x.slotA with
  | none => y
  | some d => if d.enable then y.primed d else y

/-- The load succeeds (R26, R129, R131, R146): the record's values are applied and ARMED is entered. -/
def State.loadSucceeds (s : State) (c : ConfigRecord) : State :=
  (allWindows.foldl (fun t w => t.modWin w Window.started)
    ({ s with
        cc := { s.cc with state := .armed, lowSeen := !s.lines.cyc, freezeReq := false, interval := false, watchdog := false }
        cba := { s.cba with config := c, load := none }
        mp := { s.mp with pointer := .c } } : State)).record .loadDone

/-- The load fails (R26, R131). -/
def State.loadFails (s : State) : State :=
  ({ s with cc := { s.cc with state := .stopped }, cba := { s.cba with load := none } } : State).record .loadFail

/-- START_LOAD_END (R131). -/
def State.startLoadEnd (s : State) : State :=
  if s.cc.state = .loading then
    match s.cba.load with
    | some l => match l.ending, l.config with
      | some true, some c => s.loadSucceeds c
      | some _, _ => s.loadFails
      | none, _ => s
    | none => s
  else s

/-! ## Descriptor fetches -/

/-- The fetch's record changes. -/
def State.setFetch (s : State) (f : Option Fetch) : State := { s with cba := { s.cba with fetch := f } }

/-- A fetch ends (R133): its window leaves the Load Queue, and the next head starts or LOAD_DONE is
recorded. -/
def State.endFetch (s : State) : State :=
  let t : State := { s with cba := { s.cba with fetch := none, loadQueue := s.cba.loadQueue.tail } }
  if t.cba.loadQueue = [] then t.record .loadDone else t.startFetch

/-- A word of the fetch has been read (R133). -/
def State.fetchWord (s : State) (f : Fetch) (x : Word) : State :=
  if (f.words ++ [x]).length = 8 then (s.fillSlot f.win (putSlot f.slot) (f.words ++ [x])).endFetch
  else s.setFetch (some { f with words := f.words ++ [x] })

/-- What a read of a fetch does to it (R133 to R135): after STOP or RESET its data is discarded. -/
def State.fetchAnswered (s : State) (r : Resp) (x : Word) : State :=
  match s.cba.fetch with
  | none => s
  | some f =>
    if s.cc.state = .resetting then s
    else match r with
      | .err => (s.event f.win .loadFail).endFetch
      | .ok => s.fetchWord f x

/-- FETCH_READ_COMPLETE (R133, R134). -/
def State.fetchReadComplete (s : State) (r : Resp) : State :=
  match s.mp.grant with
  | .single t => if t.work = .fetchRead then (s.kReadDone r t).fetchAnswered r (s.readData t) else s
  | _ => s

/-! ## Meanings -/

/-- LOAD_READ_COMPLETE (R128). -/
def execLoadReadComplete (r : Resp) (s : State) : Host.Outcome State Fault Refusal := act (fun s => s.loadReadComplete r) s

/-- START_LOAD_END (R131). -/
def execStartLoadEnd (s : State) : Host.Outcome State Fault Refusal := act State.startLoadEnd s

/-- FETCH_READ_COMPLETE (R133). -/
def execFetchReadComplete (r : Resp) (s : State) : Host.Outcome State Fault Refusal := act (fun s => s.fetchReadComplete r) s

end Sys2Proof.Machine
end

