-- ==== Sys2Proof/Machine/Notices.lean ====
section
/-! DEFINITION. The NTC interface (section 8.3): the meanings of NOTICE_OFFER, NOTICE_ACCEPT and
NOTICE_TIMEOUT. -/

namespace Sys2Proof.Machine

/-- The level of the acceptance input. -/
def State.setAccept (s : State) (v : Bool) : State := { s with lines := { s.lines with accept := v } }

/-- NOTICE_OFFER (R124): with a notice queued, no offer standing and the acceptance input low, the head is
offered, and the notice timer starts when NOTICETIMEOUT is not 0. -/
def State.raiseOffer (s : State) : State :=
  match s.nu.queue, s.nu.offer with
  | n :: _, none =>
    if s.lines.accept then s
    else { s with nu := { s.nu with offer := some n, timer := s.cba.config.noticeTimeout != 0 } }
  | _, _ => s

/-- A rising edge of the acceptance input (R124): ignored with no offer standing. -/
def State.acceptNotice (s : State) : State :=
  match s.nu.offer with
  | none => s
  | some n => retryStalled s (s.noticeLeaves n)

/-- An expiry of the notice timer (R125). -/
def State.noticeExpires (s : State) : State :=
  match s.nu.offer with
  | none => s
  | some n => if s.nu.timer then retryStalled s ((s.noticeLeaves n).record .noticeTimeout) else s

/-! ## Meanings -/

/-- NOTICE_OFFER (R124), with the acceptance input seen at level `accept` (log 12). -/
def execNoticeOffer (accept : Bool) (s : State) : Host.Outcome State Fault Refusal :=
  act State.raiseOffer (s.setAccept accept)

/-- NOTICE_ACCEPT (R124). -/
def execNoticeAccept (s : State) : Host.Outcome State Fault Refusal := act State.acceptNotice (s.setAccept true)

/-- NOTICE_TIMEOUT (R125). -/
def execNoticeTimeout (s : State) : Host.Outcome State Fault Refusal := act State.noticeExpires s

end Sys2Proof.Machine
end

