-- ==== Sys2Proof/Machine/Pulses.lean ====
section
/-! DEFINITION. The Cycle Controller and what windows do with its pulses (chapters 2, 3.5, 4.5, 9.4): CYC
edges, FRZ, the interval timer, the watchdog, alignment and evaluated pulses, and the context switch. -/

namespace Sys2Proof.Machine

/-! ## What a window does with a pulse -/

/-- The record after a miss (R49). -/
def Window.missed (x : Window) (d : Descriptor) : Window :=
  let y := { x with miss := satInc4 x.miss, lost := satInc8 x.lost }
  if d.missLimit ≠ 0 ∧ y.miss = d.missLimit then { y with state := .tripped } else y

/-- A miss of window `w` (R49): TRIP is recorded when the window trips. -/
def State.miss (s : State) (w : Win) (d : Descriptor) : State :=
  let t := (s.modWin w fun x => x.missed d).touch (.win w)
  if (t.win w).state = .tripped then t.event w .trip else t

/-- An image is held back (R17, R50, R51, R72, R121): BLOCKED is incremented and the event recorded. -/
def State.holdBack (s : State) (w : Win) (e : WEvent) : State :=
  (s.modWin w fun x => { x with blocked := satInc8 x.blocked }).event w e

/-- An evaluated pulse finds an input window FILLING (R48, R56, R58). -/
def State.underfill (s : State) (w : Win) (d : Descriptor) : State :=
  let t := ((s.endJob w).modWin w fun x => { x with fill := d.expect }).touch (.win w)
  let t := if (s.win w).valid then (t.miss w d).event w .underrun else t
  t.enqueueLoop w

/-- An evaluated pulse finds an input window FILLED or BLOCKED (R50, R51, R56). -/
def State.evalFilled (s : State) (w : Win) (d : Descriptor) : State :=
  if (s.win w).held then (s.modWin w fun x => { x with state := .blocked }).holdBack w .overrun
  else match s.askPlace w d with
    | .noPlace => (s.modWin w fun x => { x with state := .blocked }).holdBack w .noticeFull
    | a => (s.decideSwap w d a).enqueueLoop w

/-- An evaluated pulse taken by an input window without SWAP PENDING (R48, R50, R51). -/
def State.evalInput (s : State) (w : Win) (d : Descriptor) : State :=
  match (s.win w).state with
  | .filling => s.underfill w d
  | .filled => s.evalFilled w d
  | .blocked => s.evalFilled w d
  | _ => s

/-- An underrun of an output window (R71): nothing while priming; otherwise a miss, and SAFE under POLICY
SAFE. -/
def State.underrun (s : State) (w : Win) (d : Descriptor) : State :=
  if (s.win w).valid then
    (((s.miss w d).event w .underrun).modWin w fun x => { x with safe := x.safe || d.policy == .safe })
  else s

/-- An evaluated pulse finds an output window COMMITTED (R72). -/
def State.evalCommitted (s : State) (w : Win) (d : Descriptor) : State :=
  match s.askPlace w d with
  | .noPlace => s.holdBack w .noticeFull
  | a => s.decideSwap w d a

/-- An evaluated pulse taken by an output window without SWAP PENDING (R71, R72). -/
def State.evalOutput (s : State) (w : Win) (d : Descriptor) : State :=
  match (s.win w).state with
  | .composing => s.underrun w d
  | .committed => s.evalCommitted w d
  | _ => s

/-- An evaluated pulse at window `w`, the boundary mark apart (R17, R25): a window outside the scope or IDLE
does not take it, and one with SWAP PENDING slips. -/
def State.evaluate (s : State) (outputOnly : Bool) (w : Win) : State :=
  match (s.win w).inUse with
  | none => s
  | some d =>
    if outputOnly && d.kind == .input then s
    else if (s.win w).swapPending then s.holdBack w .slip
    else match d.kind with
      | .input => s.evalInput w d
      | .output => s.evalOutput w d

/-- Whether work of `w` that holds back its switch is in flight (R138, test 2). -/
def State.switchBusy (s : State) (w : Win) : Bool :=
  s.pp.current.any (fun a => a.win == some w) || s.fp.inFlight.any (fun a => a.win == some w) ||
  s.mp.grant.copyDest == some w

/-- The outcome of R138's tests: no answer means the switch is deferred. -/
def State.switchAnswer (s : State) (w : Win) : Option PlaceAnswer :=
  if (s.win w).swapPending || s.switchBusy w then none
  else match (s.win w).inUse with
    | none => some .unneeded
    | some d => match s.askPlace w d with
      | .noPlace => none
      | a => some a

/-- The active slot flips. -/
def Window.flipped (x : Window) : Window := { x with active := x.active.other, switchPending := false }

/-- The window runs on the slot it has flipped to (R139): primed if that slot is enabled, otherwise
IDLE. -/
def Window.switched (x : Window) : Window :=
  match x.flipped.desc with
  | none => x.flipped.idled
  | some d => if d.enable then x.flipped.primed d else x.flipped.idled

/-- The notice of the slot being left, where R138 gave a place (R123, R139). -/
def State.noticeOld (s : State) (w : Win) (a : PlaceAnswer) : State :=
  match a, (s.win w).inUse with
  | .place, some d => s.enqueueNotice (noticeOf w d)
  | _, _ => s

/-- The switch of `w` is taken (R139). -/
def State.takeSwitch (s : State) (w : Win) (a : PlaceAnswer) : State :=
  ((((s.noticeOld w a).endJob w).modWin w Window.switched).event w .switched)

/-- An evaluated pulse at window `w` (R25, R138): a boundary tests a pending switch first. -/
def State.takePulse (boundary outputOnly : Bool) (s : State) (w : Win) : State :=
  if boundary && (s.win w).switchPending then
    match s.switchAnswer w with
    | some a => s.takeSwitch w a
    | none => (s.event w .switchLate).evaluate outputOnly w
  else s.evaluate outputOnly w

/-- An evaluated pulse is delivered to the windows in ascending number (R25, R78, R121). -/
def State.deliver (s : State) (boundary outputOnly : Bool) : State :=
  allWindows.foldl (State.takePulse boundary outputOnly) s

/-- An alignment pulse at window `w` (R18, R47, R56, R58, R70). -/
def State.align (s : State) (w : Win) : State :=
  match (s.win w).inUse with
  | none => s
  | some d =>
    if d.kind = .input ∧ !(s.win w).swapPending ∧ (s.win w).state ∈ [WState.filling, .filled, .blocked] then
      (((s.endJob w).modWin w fun x => { x with fill := d.expect, state := .filling }).touch (.win w)).enqueueLoop w
    else s

/-- An alignment pulse is delivered to every window (R25). -/
def State.deliverAlignment (s : State) : State := allWindows.foldl State.align s

/-- The loss event at window `w` (R30, R60, R70). -/
def State.lose (s : State) (w : Win) : State :=
  match (s.win w).inUse with
  | none => s
  | some d =>
    if d.kind = .output ∧ (s.win w).valid then
      (s.modWin w fun x => { x with safe := true }).touch (.win w)
    else s

/-! ## The Cycle Controller -/

/-- A pulse starts the interval timer (R22) when MININT is not 0. -/
def State.startInterval (s : State) : State :=
  if s.cba.config.minInt = 0 then s else { s with cc := { s.cc with interval := true } }

/-- The watchdog starts or restarts (R30) when CYCTIMEOUT is not 0. -/
def State.startWatchdog (s : State) : State :=
  if s.cba.config.cycTimeout = 0 then s else { s with cc := { s.cc with watchdog := true } }

/-- The controller state changes. -/
def State.enter (s : State) (c : CState) : State := { s with cc := { s.cc with state := c } }

/-- A pulse is counted and records CYCLE (R24). -/
def State.countPulse (s : State) : State :=
  ({ s with cc := { s.cc with cycle := s.cc.cycle + 1 } } : State).record .cycle

/-- Whether the freeze request is set at entry to RUNNING from ALIGNING, or by a rise of FRZ (R28, R32). -/
def State.freezeWanted (s : State) : Bool := s.cc.frz && s.cba.config.freezeMode != .ignore

/-- The group position advances (R29). In 8 bits a GROUPLEN of 0, meaning 256, is met by the wrap of
255. -/
def State.advance (s : State) : BitVec 8 × Bool :=
  if s.cc.groupPos + 1 = s.cba.config.groupLen then (0, true) else (s.cc.groupPos + 1, false)

/-- The first pulse of ARMED (R27): alignment, not counted. -/
def State.armedPulse (s : State) : State :=
  ((s.enter .aligning).startInterval.startWatchdog).deliverAlignment

/-- A pulse of ALIGNING (R28): the first evaluated pulse of the run. -/
def State.aligningPulse (s : State) : State :=
  let t := (s.countPulse.enter .running).startInterval.startWatchdog
  let t : State := { t with cc := { t.cc with groupPos := 0, freezeReq := s.freezeWanted } }
  t.deliver false false

/-- A pulse of RUNNING in full (R29), with the freeze request untouched. -/
def State.runningPulse (s : State) : State :=
  let t := (s.countPulse.enter .running).startInterval.startWatchdog
  let t : State := { t with cc := { t.cc with groupPos := s.advance.1 } }
  t.deliver s.advance.2 false

/-- What the freeze pulse does beyond a pulse of RUNNING (R33). -/
def State.freeze (s : State) : State :=
  { s with cc := { s.cc with state := .frozen, watchdog := false, freezeReq := false } }

/-- A pulse of FROZEN that finds FRZ high (R34). -/
def State.frozenPulse (s : State) : State :=
  let t := s.countPulse.startInterval
  if s.cba.config.freezeMode = .inputs then t.deliver false true else t

/-- A pulse of LOST (R31). -/
def State.lostPulse (s : State) : State :=
  ((s.countPulse.enter .aligning).startInterval.startWatchdog).deliverAlignment

/-- A recognized pulse, by controller state (R27 to R34). -/
def State.pulse (s : State) : State :=
  match s.cc.state with
  | .armed => s.armedPulse
  | .aligning => s.aligningPulse
  | .running => if s.cc.freezeReq then s.runningPulse.freeze else s.runningPulse
  | .frozen => if s.cc.frz then s.frozenPulse else s.runningPulse
  | .lost => s.lostPulse
  | .stopped => s
  | .loading => s
  | .draining => s
  | .resetting => s

/-- A rising edge by controller state (R22, R23). -/
def State.risingEdge (s : State) : State :=
  match s.cc.state with
  | .stopped => s
  | .loading => s
  | .draining => s
  | .resetting => s
  | .armed => if s.cc.lowSeen then s.pulse else s
  | .aligning => if s.cc.interval then s.record .runt else s.pulse
  | .running => if s.cc.interval then s.record .runt else s.pulse
  | .frozen => if s.cc.interval then s.record .runt else s.pulse
  | .lost => if s.cc.interval then s.record .runt else s.pulse

/-- A change of FRZ (R20, R32). -/
def State.frzChange (s : State) : State :=
  let t : State := { s with cc := { s.cc with frz := !s.cc.frz } }
  if s.cc.state = .running then { t with cc := { t.cc with freezeReq := t.freezeWanted } } else t

/-- The watchdog expires (R30). -/
def State.watchdogExpires (s : State) : State :=
  if s.cc.watchdog ∧ (s.cc.state = .aligning ∨ s.cc.state = .running) then
    allWindows.foldl State.lose
      (({ s with cc := { s.cc with state := .lost, watchdog := false, freezeReq := false } } : State).record .lost)
  else s

/-- A rising edge with the retry of an access whose window a switch makes IDLE (R100). An access stalled at the FENCE
of a window that is switched into an enabled slot waits for the FENCE to clear (R140; log 39). -/
def State.edgeTaken (s : State) : State := retryStalled s s.risingEdge

/-- A falling edge (R22): in ARMED it sets low seen. -/
def State.fallingEdge (s : State) : State :=
  if s.cc.state = .armed then { s with cc := { s.cc with lowSeen := true } } else s

/-- The interval timer expires (R23). -/
def State.intervalExpires (s : State) : State := { s with cc := { s.cc with interval := false } }

/-- The CYC line's level. -/
def State.setCyc (s : State) (v : Bool) : State := { s with lines := { s.lines with cyc := v } }

/-! ## Meanings -/

/-- CYC_RISE (R22 to R34). An access stalled at a window that the pulse makes IDLE is retried (R100). The line
level is kept while RST is asserted too. -/
def execCycRise (s : State) : Host.Outcome State Fault Refusal :=
  act State.edgeTaken (s.setCyc true)

/-- CYC_FALL (R22): in ARMED it sets low seen. -/
def execCycFall (s : State) : Host.Outcome State Fault Refusal :=
  act State.fallingEdge (s.setCyc false)

/-- FRZ_CHANGE (R32). FRZ level follows the line in every state (R20), while RST is asserted too. -/
def execFrzChange (s : State) : Host.Outcome State Fault Refusal :=
  if s.lines.rst then .next { s with cc := { s.cc with frz := !s.cc.frz } } else act State.frzChange s

/-- INTERVAL_TIMER_EXPIRY (R23). -/
def execIntervalTimerExpiry (s : State) : Host.Outcome State Fault Refusal :=
  act State.intervalExpires s

/-- WATCHDOG_EXPIRY (R30). -/
def execWatchdogExpiry (s : State) : Host.Outcome State Fault Refusal := act State.watchdogExpires s

end Sys2Proof.Machine
end

