-- ==== Sys2Proof/Machine/Resets.lean ====
section
/-! DEFINITION. The ends of DRAINING and RESETTING, and pin reset: the meanings of DRAIN_END, RESET_VALUES,
RESET_PASS_END, PIN_RESET and RST_RELEASE. -/

namespace Sys2Proof.Machine

/-- Whether the drain set is empty (R37): work in flight when STOP was taken, and the Notice Queue. -/
def State.drained (s : State) : Bool := s.cc.drainSet.isEmpty && s.nu.queue.isEmpty && s.nu.reservations.isEmpty

/-- DRAIN_END (R37). -/
def State.endDrain (s : State) : State :=
  if s.cc.state = .draining ∧ s.drained then
    ({ s with cc := { s.cc with state := .stopped } } : State).record .stopped
  else s

/-- Whether the completions that RESETTING waits for have all been taken (R160): accesses in flight, what is
granted, and the requests presented. -/
def State.quiet (s : State) : Bool :=
  s.mp.grant == .free && s.pp.current.isNone && s.fp.inFlight.isNone && !s.ce.request && s.cba.request.isNone

/-- The reset values of RESET (R12, R20, R77, R107, R120, R146, R150, R154, R155, R160): those of pin reset,
with the straps and the ports' unissued accesses kept, the result record of RESET, and all 18 records
dirty. -/
def State.afterReset (s : State) : State :=
  { State.reset with
    lines := s.lines
    cc := { State.reset.cc with state := .resetting, phase := .pass, frz := s.cc.frz }
    pp := { State.reset.pp with pwq := s.pp.pwq, readSlot := s.pp.readSlot }
    fp := { State.reset.fp with held := s.fp.held }
    cba := { State.reset.cba with
      result := { code := 0x03, result := .done, refused := 0, seq := 0 }
      dirty := allRecords }
    mem := s.mem
    free := s.free
    pending := s.pending }

/-- RESET_VALUES (R160). -/
def State.takeResetValues (s : State) : State :=
  if s.cc.state = .resetting ∧ s.cc.phase = .waiting ∧ s.quiet then s.afterReset else s

/-- RESET_PASS_END (R38, R97, R160): STOPPED is entered, which makes GLOBAL dirty even where a RESET word among
the held accesses is taken in the same event, and the ports resume. -/
def State.endPass (s : State) : State :=
  if s.cc.state = .resetting ∧ s.cc.phase = .passDone then
    retryStalled s (({ s with cc := { s.cc with state := .stopped, phase := .inactive } } : State).touch .global)
  else s

/-- A write that memory holds granted when RST is asserted is not completed by the part (R88, R118, R150): its
lanes hold a free value (log 8). A read half has no write half. -/
def State.cutShort (s : State) : State :=
  match s.mp.grant with
  | .free => s
  | .pairRead _ => s
  | .single t => match t.dir with
    | .read => s
    | .write => s.memFail t.addr t.be
  | .pairWrite t _ => s.memFail t.dst t.work.writeLanes

/-- PIN_RESET (R12, R20, R38, R107, R118, R150): every item takes its pin reset value; the line levels, the
straps until their next sampling, memory and the model's own fields stay. -/
def State.pinReset (s : State) : State :=
  let t := s.cutShort
  { State.reset with
    lines := { s.lines with rst := true, pBus := .none, fBus := .none }
    cc := { State.reset.cc with frz := s.cc.frz }
    mem := t.mem
    free := t.free
    pending := s.pending }

/-- RST_RELEASE (R20, R161): the straps and the FRZ level are sampled. -/
def State.releaseRst (s : State) (memsz : BitVec 3) (cbsel : BitVec 8) (frz : Bool) : State :=
  if s.lines.rst then
    { s with
      lines := { s.lines with rst := false, memsz := memsz, cbsel := cbsel }
      cc := { s.cc with frz := frz } }
  else s

/-! ## Meanings -/

/-- DRAIN_END (R37). -/
def execDrainEnd (s : State) : Host.Outcome State Fault Refusal := act State.endDrain s

/-- RESET_VALUES (R160). The dirty set takes the order R155 gives. -/
def execResetValues (s : State) : Host.Outcome State Fault Refusal :=
  .next (if s.lines.rst then s else s.takeResetValues)

/-- RESET_PASS_END (R160). -/
def execResetPassEnd (s : State) : Host.Outcome State Fault Refusal := act State.endPass s

/-- PIN_RESET (R38). It acts at once in every state. -/
def execPinReset (s : State) : Host.Outcome State Fault Refusal := .next s.pinReset

/-- RST_RELEASE (R161). -/
def execRstRelease (memsz : BitVec 3) (cbsel : BitVec 8) (frz : Bool) (s : State) : Host.Outcome State Fault Refusal :=
  .next (s.releaseRst memsz cbsel frz)

end Sys2Proof.Machine
end

