-- ==== Sys2Proof/Machine/WriteBack.lean ====
section
/-! DEFINITION. Write-back of the status records (section 11.3) and the published sets (R158): the meanings
of WRITEBACK_RECORD and WRITEBACK_WORD_COMPLETE. -/

namespace Sys2Proof.Machine

/-- Whether a write-back begins now (R156): the head of the dirty set, when none is in progress, K has no
request outstanding, the CBA is not held by RESETTING, and it is not a waiting read's turn. -/
def State.writebackNext (s : State) : Option (RecName × List RecName) :=
  if s.cba.writeback.isSome || s.cba.request.isSome || s.kHeld || (s.readWaits && s.cba.turn == .read) then none
  else match s.cba.dirty with
    | [] => none
    | r :: rest => some (r, rest)

/-- WRITEBACK_RECORD (R155, R156): the first word is presented and the record leaves the dirty set. -/
def State.beginWriteback (s : State) : State :=
  match s.writebackNext with
  | none => s
  | some (r, rest) =>
    { s with cba := { s.cba with writeback := some { name := r, word := 0 }, dirty := rest, request := some .writeback } }

/-- The published set of a flag word written back normally (R158): the flags the word carried. -/
def State.publish (s : State) (data : Word) : RecName → State
  | .global => { s with cba := { s.cba with published := data.extractLsb' 0 15 } }
  | .result => s
  | .win w => s.modWin w fun x => { x with published := data.extractLsb' 0 14 }

/-- The published set after word `i` of a record was answered (R158). -/
def State.publishAnswered (r : Resp) (s : State) (name : RecName) (i : Nat) (data : Word) : State :=
  match r with
  | .err => s
  | .ok => if name.flagWord = some i then s.publish data name else s

/-- The write-back after word `i` of a record (R156), and the end of the reset pass (R160). -/
def State.nextWord (s : State) (name : RecName) (i : Nat) : State :=
  if i + 1 < name.length then { s with cba := { s.cba with writeback := some { name := name, word := i + 1 } } }
  else
    { s with
      cba := { s.cba with writeback := none }
      cc := { s.cc with phase := if s.cc.phase = .pass ∧ name = .win 15 then .passDone else s.cc.phase } }

/-- WRITEBACK_WORD_COMPLETE (R147, R156, R158): an error is latched and the word is not retried. -/
def State.writebackWordComplete (s : State) (r : Resp) : State :=
  match s.mp.grant with
  | .single t => match t.work with
    | .writebackWord name i =>
      let u := State.latchAnswer r ((State.memAnswered r s t.addr t.be t.data).setGrant .free) .k .write t.addr
      let u := (State.publishAnswered r u name i t.data).nextWord name i
      { u with cba := { u.cba with request := none, turn := .read } }
    | _ => s
  | _ => s

/-! ## Meanings -/

/-- WRITEBACK_RECORD (R156). The record leaves the dirty set, so nothing joins in this event. -/
def execWritebackRecord (s : State) : Host.Outcome State Fault Refusal :=
  .next (if s.lines.rst then s else s.beginWriteback)

/-- WRITEBACK_WORD_COMPLETE (R156). -/
def execWritebackWordComplete (r : Resp) (s : State) : Host.Outcome State Fault Refusal :=
  act (fun s => s.writebackWordComplete r) s

end Sys2Proof.Machine
end

