-- ==== Sys2Proof/Machine/Dispatch.lean ====
section
/-! DEFINITION. The effect of each command, one arm per row of spec/opcode_table.json. -/

namespace Sys2Proof.Machine

/-- The effect of a command on everything but the queue of commands. -/
def exec (i : Instr) (s : State) : Host.Outcome State Fault Refusal :=
  match i with
  | .cycRise => Sys2Proof.Machine.execCycRise s
  | .cycFall => Sys2Proof.Machine.execCycFall s
  | .frzChange => Sys2Proof.Machine.execFrzChange s
  | .intervalTimerExpiry => Sys2Proof.Machine.execIntervalTimerExpiry s
  | .watchdogExpiry => Sys2Proof.Machine.execWatchdogExpiry s
  | .pinReset => Sys2Proof.Machine.execPinReset s
  | .rstRelease memsz cbsel frz => Sys2Proof.Machine.execRstRelease memsz cbsel frz s
  | .pWriteTake addr be data => Sys2Proof.Machine.execPWriteTake addr be data s
  | .pReadTake addr be => Sys2Proof.Machine.execPReadTake addr be s
  | .accessIssue port => Sys2Proof.Machine.execAccessIssue port s
  | .start => Sys2Proof.Machine.execStart s
  | .stop => Sys2Proof.Machine.execStop s
  | .reset => Sys2Proof.Machine.execReset s
  | .clearerr => Sys2Proof.Machine.execClearerr s
  | .load => Sys2Proof.Machine.execLoad s
  | .switch => Sys2Proof.Machine.execSwitch s
  | .cancel => Sys2Proof.Machine.execCancel s
  | .hold => Sys2Proof.Machine.execHold s
  | .release => Sys2Proof.Machine.execRelease s
  | .commit => Sys2Proof.Machine.execCommit s
  | .rearm => Sys2Proof.Machine.execRearm s
  | .unknownCommand => Sys2Proof.Machine.execUnknownCommand s
  | .readClear answer => Sys2Proof.Machine.execReadClear answer s
  | .mpGrant answer => Sys2Proof.Machine.execMpGrant answer s
  | .pAccessComplete r => Sys2Proof.Machine.execPAccessComplete r s
  | .fAccessComplete r => Sys2Proof.Machine.execFAccessComplete r s
  | .mergePairComplete r => Sys2Proof.Machine.execMergePairComplete r s
  | .demandCopyComplete r => Sys2Proof.Machine.execDemandCopyComplete r s
  | .copyJobStart => Sys2Proof.Machine.execCopyJobStart s
  | .carryPairComplete r => Sys2Proof.Machine.execCarryPairComplete r s
  | .loopPairComplete r => Sys2Proof.Machine.execLoopPairComplete r s
  | .swapPerform w => Sys2Proof.Machine.execSwapPerform w s
  | .loadReadComplete r => Sys2Proof.Machine.execLoadReadComplete r s
  | .startLoadEnd => Sys2Proof.Machine.execStartLoadEnd s
  | .fetchReadComplete r => Sys2Proof.Machine.execFetchReadComplete r s
  | .writebackRecord => Sys2Proof.Machine.execWritebackRecord s
  | .writebackWordComplete r => Sys2Proof.Machine.execWritebackWordComplete r s
  | .noticeOffer accept => Sys2Proof.Machine.execNoticeOffer accept s
  | .noticeAccept => Sys2Proof.Machine.execNoticeAccept s
  | .noticeTimeout => Sys2Proof.Machine.execNoticeTimeout s
  | .drainEnd => Sys2Proof.Machine.execDrainEnd s
  | .resetValues => Sys2Proof.Machine.execResetValues s
  | .resetPassEnd => Sys2Proof.Machine.execResetPassEnd s
  | .readHalfResponse => Sys2Proof.Machine.execReadHalfResponse s

end Sys2Proof.Machine
end

