-- ==== Sys2Proof/Safety.lean ====
section
/-! DEFINITION. The laws of the part, as predicates on states, and the words in which statements about commands
say what stays as it was. A claim that every step keeps the laws is about these predicates. -/

namespace Sys2Proof.Safety

open Sys2Proof Sys2Proof.Machine

/-! ## Laws of queues and memory -/

/-- Memory is in its canonical form. -/
def MemoryLaw (s : State) : Prop := s.mem.wf = true

/-- The Posted Write Queue holds at most 4 entries (R107). -/
def PwqLaw (s : State) : Prop := s.pp.pwq.length ≤ 4

/-- The Copy Queue never holds two jobs for one destination window (R77). -/
def CopyLaw (s : State) : Prop := (s.ce.jobs.map Job.dest).Nodup

/-- The dirty set holds no name twice (R155). -/
def DirtyLaw (s : State) : Prop := s.cba.dirty.Nodup

/-! ## The law of the P port -/

/-- The address of the P port's access next in order (R110): the head of the PWQ, or the read in the read slot. -/
def headAddr (s : State) : Option Addr :=
  match s.pp.pwq, s.pp.readSlot with
  | x :: _, _ => some x.addr
  | [], some r => some r.addr
  | [], none => none

/-- What the P port holds: only a read clears flags (R95, R158); a transaction granted to it is of its current access
(R111, R142); and the access that stays stalled at a FENCE (R140; log 39) stands at issue with RST released, at an address
of image memory outside the Control Block, FENCE of a window in use being set. -/
structure PortLaw (s : State) : Prop where
  clears  : ∀ c dir a be d r, s.pp.current = some c → PItem.plain dir a be d (some r) ∈ c.items → dir = .read
  granted : s.mp.grant.holder = some .p → s.pp.current ≠ none
  fenced  : ∀ w, s.pp.fenced = some w → s.lines.rst = false ∧ s.pp.current = none ∧ (s.win w).fence = true ∧
    (s.win w).inUse ≠ none ∧ ∃ a, headAddr s = some a ∧ a.toNat < s.memSize ∧ s.inCB a = false

/-! ## The third law: slots -/

/-- Every valid slot passes its own checks (R5). -/
def SlotsOk (s : State) : Prop := ∀ (w : Win) (n : SlotName) (d : Descriptor), (s.win w).slot n = some d → s.selfOk d = true

/-- Valid slots of different windows share no byte that R6 forbids. -/
def SlotsApart (s : State) : Prop :=
  ∀ (v w : Win) (m n : SlotName) (d e : Descriptor), v ≠ w → (s.win v).slot m = some d → (s.win w).slot n = some e →
    crossOk d e = true

/-- The third law (R6), with what carries it over a sampling of the straps: no slot is valid while RST is
asserted (R2). -/
structure SlotLaw (s : State) : Prop where
  ok    : SlotsOk s
  apart : SlotsApart s
  reset : s.lines.rst = true → ∀ (w : Win) (n : SlotName), (s.win w).slot n = none

/-! ## The eleventh law: states without windows -/

/-- STOPPED, LOADING and DRAINING, and RESETTING from its reset values on. -/
def Still (s : State) : Prop :=
  s.cc.state = .stopped ∨ s.cc.state = .loading ∨ s.cc.state = .draining ∨
    (s.cc.state = .resetting ∧ (s.cc.phase = .pass ∨ s.cc.phase = .passDone))

/-- What holds of the windows and queues there (R7, R35, R37, R77, R127, R132), and of a START load: it stands in
LOADING, or waits for its read in RESETTING (R131, R160), and fills windows whose active slot is A (R128). -/
structure StillLaw (s : State) : Prop where
  idle     : Still s → ∀ w, (s.win w).state = .idle
  noSwap   : Still s → ∀ w, (s.win w).swapPending = false
  noJobs   : Still s → s.ce.jobs = []
  noPlaces : Still s → s.nu.reservations = []
  noLoads  : Still s → s.cba.loadQueue = []
  noNotice : Still s → s.cc.state ≠ .draining → s.nu.queue = []
  loading  : s.cba.load ≠ none → s.cc.state = .loading ∨ (s.cc.state = .resetting ∧ s.cc.phase = .waiting)
  slotA    : s.cc.state = .loading → ∀ w, (s.win w).active = .a

/-! ## The fourth law: notices -/

/-- The Notice Queue never holds more than 8 notices and reservations together, and never two notices for one
window (R120); a reservation belongs to a pending swap; FENCE is set exactly while a notice for the window is
queued (R126); the offer is the head's (R124). -/
structure NoticeLaw (s : State) : Prop where
  places   : s.nu.queue.length + s.nu.reservations.length ≤ 8
  notices  : (s.nu.queue.map Notice.win).Nodup
  reserved : s.nu.reservations.Nodup
  pending  : ∀ w ∈ s.nu.reservations, (s.win w).swapPending = true
  apart    : ∀ w ∈ s.nu.reservations, s.hasNotice w = false
  fence    : ∀ w, (s.win w).fence = s.hasNotice w
  offer    : ∀ n, s.nu.offer = some n → s.nu.queue.head? = some n

/-! ## The sixth law: loads and switches -/

/-- No window has SWITCH PENDING while it has a load queued or fetching (R136); the fetch in progress is the
head's and fills the inactive slot (R132, R133). -/
structure LoadLaw (s : State) : Prop where
  once     : s.cba.loadQueue.Nodup
  noSwitch : ∀ w ∈ s.cba.loadQueue, (s.win w).switchPending = false
  head     : ∀ f, s.cba.fetch = some f → s.cba.loadQueue.head? = some f.win
  slot     : ∀ f, s.cba.fetch = some f → f.slot = (s.win f.win).active.other

/-! ## Windows -/

/-- What a window in use holds, by its kind (R39, R46, R59, R81): its states, and the items its kind does not
use at 0; the fill counter at most EXPECT; carry marks ascending, below L and not live. -/
def KindLaw (x : Window) (d : Descriptor) : Prop :=
  match d.kind with
  | .input =>
    x.state ∈ [WState.filling, .filled, .blocked, .tripped, .fault] ∧ x.safe = false ∧ x.carry = [] ∧ x.fill ≤ d.expect
  | .output =>
    x.state ∈ [WState.composing, .committed, .tripped, .fault] ∧ x.held = false ∧ x.fill = 0 ∧
      x.carry.Pairwise (· < ·) ∧ ∀ k ∈ x.carry, k < d.len ∧ d.live k = false

/-- The law of one window: in use it runs on a valid, enabled slot (R7) under the law of its kind; IDLE it has
no misses and no carry marks (R12, R49); and in any state the items that the kind of its active slot does not use
are 0 (R39, R59, R162). -/
structure WindowLaw (x : Window) : Prop where
  inUse  : x.state ≠ .idle → ∃ d, x.desc = some d ∧ d.enable = true ∧ KindLaw x d
  idle   : x.state = .idle → x.miss = 0 ∧ x.carry = []
  input  : ∀ d, x.desc = some d → d.kind = .input → x.safe = false
  output : ∀ d, x.desc = some d → d.kind = .output → x.held = false ∧ x.fill = 0

/-- The law of one window, for all sixteen. -/
def WindowsLaw (s : State) : Prop := ∀ w, WindowLaw (s.win w)

/-- The eighth law (R49) as the model keeps it: a window whose miss count equals its nonzero MISSLIMIT is
TRIPPED, or in FAULT by a carry error in TRIPPED (R74; log 23). -/
def MissLaw (s : State) : Prop :=
  ∀ w d, (s.win w).inUse = some d → d.missLimit ≠ 0 → (s.win w).miss = d.missLimit →
    (s.win w).state = .tripped ∨ (s.win w).state = .fault

/-- The laws that lean on one another. -/
structure Laws (s : State) : Prop where
  still   : StillLaw s
  notice  : NoticeLaw s
  load    : LoadLaw s
  windows : WindowsLaw s

/-! ## What a command ends in, and what stays as it was -/

/-- `t` is `u`, apart from the records that have joined the dirty set since (R155) and what K presents next (R142): a
record that `u` has in it stays. -/
def EndsIn (t u : State) : Prop :=
  t = { u with cba := { u.cba with dirty := t.cba.dirty, request := t.cba.request } } ∧
    ∀ r ∈ u.cba.dirty, r ∈ t.cba.dirty

/-- Whether a command ends in an event that joins records to the dirty set in the common way: all but PIN_RESET,
RST_RELEASE, RESET_VALUES and WRITEBACK_RECORD. -/
def joinsRecords : Instr → Bool
  | .pinReset => false
  | .rstRelease _ _ _ => false
  | .resetValues => false
  | .writebackRecord => false
  | _ => true

/-- Commands whose event may record a cause flag that was set already, or clear a published set of GLOBAL, and so make
GLOBAL dirty though nothing it shows changes (R155, R157, R158). -/
def flagsRecorded (c : Instr) (s : State) : Bool :=
  match c with
  | .cycFall | .frzChange | .intervalTimerExpiry | .pinReset | .rstRelease _ _ _ | .pWriteTake _ _ _ | .pReadTake _ _
  | .copyJobStart | .noticeOffer _ | .readHalfResponse | .writebackRecord | .resetValues => false
  | .readClear r | .mpGrant r => r == .ok && s.winner == some .p && s.readClearNext == some .global
  | .pAccessComplete r | .fAccessComplete r | .writebackWordComplete r | .mergePairComplete r | .loopPairComplete r
  | .carryPairComplete r | .demandCopyComplete r => r == .err
  | .watchdogExpiry => s.cc.watchdog
  | _ => true

/-- The window whose word a pair of the Merge Unit writes. -/
def mergeDest (g : Grant) : Option Win :=
  match g with
  | .pairRead t | .pairWrite t _ => match t.work with
    | .merge w _ _ _ => some w
    | .demand w _ => some w
    | _ => none
  | _ => none

/-- Commands whose event may make the record of `w` dirty though nothing it shows changes (R155): by a drop or an event
recorded again, by a carry mark, by the end of a copy job, or where a rule says that the record becomes dirty. Where
stalled accesses may be retried, it is the record of a window in use. -/
def windowRecorded (c : Instr) (s : State) (w : Win) : Bool :=
  match c with
  | .cycRise => (s.win w).inUse.isSome || (s.win w).switchPending
  | .watchdogExpiry => s.cc.watchdog && (s.win w).inUse.any fun d => d.kind == .output
  | .accessIssue (.f _) | .accessIssue .fHeld | .swapPerform _ => (s.win w).inUse.isSome
  | .noticeAccept | .noticeTimeout => (s.win w).inUse.isSome || s.nu.offer.any fun n => n.win == w
  | .accessIssue .p => (s.win w).inUse.isSome || s.commandAtIssue.isSome
  | .start | .stop | .reset | .clearerr | .load | .switch | .cancel | .hold | .release | .commit | .rearm
  | .unknownCommand => s.commandAtIssue.isSome
  | .readClear r | .mpGrant r =>
    (r == .ok && s.winner == some .p && s.readClearNext == some (.win w)) ||
      (s.winner == some .c && s.job.any fun j => j.dest == w)
  | .mergePairComplete r => r == .err && mergeDest s.mp.grant == some w
  | .demandCopyComplete r => mergeDest s.mp.grant == some w || (r == .err && (s.win w).inUse.isSome)
  | .copyJobStart => s.ce.jobs.head?.any fun j => j.dest == w
  | .loopPairComplete _ => s.mp.grant.copyDest == some w || s.job.any fun j => j.dest == w
  | .carryPairComplete r => (s.job.any fun j => j.dest == w) ||
    (r == .err && ((s.win w).inUse.isSome || s.mp.grant.copyDest == some w))
  | .loadReadComplete _ => s.cba.load.any fun l => decide (w = Fin.ofNat 16 ((l.count + 1) / 8 - 2))
  | .fetchReadComplete _ => s.cba.fetch.any fun f => f.win == w
  | .resetPassEnd => s.cc.phase == .passDone
  | _ => false

/-- Whether the rule of a command's event may make a record dirty though no item it shows changes. The result record
becomes dirty by its changes alone (R154). -/
def mayDirty (c : Instr) (s : State) : RecName → Bool
  | .global => flagsRecorded c s
  | .result => false
  | .win w => windowRecorded c s w

/-- Whether a command completes the transaction of requester K that is granted. -/
def completesK (c : Instr) (s : State) : Bool :=
  match c, s.mp.grant with
  | .loadReadComplete _, .single t => t.work == .loadRead
  | .fetchReadComplete _, .single t => t.work == .fetchRead
  | .writebackWordComplete _, .single t => match t.work with
    | .writebackWord _ _ => true
    | _ => false
  | _, _ => false

/-- What is left of a wait set when the jobs of these windows have ended. -/
def jobsLeave (ended : List Win) (waitSet : List WaitMember) : List WaitMember :=
  ended.foldl (fun l w => l.erase (.job w)) waitSet

/-- The Copy Engine when the jobs of these windows have been removed or ended (R87). -/
def withoutJobs (ce : CopyEngine) (gone : Win → Bool) : CopyEngine where
  jobs := ce.jobs.filter fun j => !gone j.dest
  running := ce.running && !(ce.jobs.head?.any fun j => gone j.dest)
  request := ce.request && !(ce.running && ce.jobs.head?.any fun j => gone j.dest)

/-- `u` is `s` with the job of `w`, if there is one, removed or ended (R87): it is in no wait set, and the window's record
is dirty (R58, R81; for a loop job that its own tests end, log 40, the model's choice). -/
structure JobEnded (s u : State) (w : Win) : Prop where
  kept    : ∀ r ∈ s.cba.dirty, r ∈ u.cba.dirty
  dirty   : s.hasJob w = true → RecName.win w ∈ u.cba.dirty
  windows : ∀ v, u.win v = { s.win v with waitSet := jobsLeave (if s.hasJob w then [w] else []) (s.win v).waitSet }
  rest    : u = { s with
    windows := u.windows
    ce := withoutJobs s.ce fun v => v == w
    cba := { s.cba with dirty := u.cba.dirty } }

/-- `u` is `s` with output window `w` put in FAULT (R74): its marks are cleared, its job ends, its pending swap is
abandoned with its notice place released (R19), and its record is dirty. -/
structure Faulted (s u : State) (w : Win) : Prop where
  kept   : ∀ r ∈ s.cba.dirty, r ∈ u.cba.dirty
  dirty  : RecName.win w ∈ u.cba.dirty
  window : u.win w = { s.win w with
    state := .fault
    carry := []
    waitSet := if (s.win w).swapPending then [] else jobsLeave (if s.hasJob w then [w] else []) (s.win w).waitSet
    coalesced := (s.win w).coalesced && !(s.win w).swapPending
    swapPending := false }
  others : ∀ v, v ≠ w →
    u.win v = { s.win v with waitSet := jobsLeave (if s.hasJob w then [w] else []) (s.win v).waitSet }
  rest   : u = { s with
    windows := u.windows
    ce := withoutJobs s.ce fun v => v == w
    nu := { s.nu with reservations :=
      if (s.win w).swapPending then s.nu.reservations.filter fun v => v != w else s.nu.reservations }
    cba := { s.cba with dirty := u.cba.dirty } }

/-! ## Notice places -/

/-- The length in bytes of a slot's P-view, as a notice carries it: 16L for an output, 4L for an input (section 12.4). -/
def noticeLen (d : Descriptor) : BitVec 13 := BitVec.ofNat 13 (if d.kind = .output then 16 * d.len else 4 * d.len)

/-- No place can be had in the Notice Queue for the P-view of `d` at window `w`: a notice for another P-view of the
window is queued, or none is and the 8 places are in use. -/
def NoPlace (s : State) (w : Win) (d : Descriptor) : Prop :=
  d.cached = true ∧
    ((∃ n, s.nu.queue.find? (fun n => n.win == w) = some n ∧
        n ≠ { win := w, base := d.pview, len := noticeLen d }) ∨
     (s.nu.queue.find? (fun n => n.win == w) = none ∧ 8 ≤ s.nu.queue.length + s.nu.reservations.length))

/-! ## Where accesses stand -/

/-- The processor write `x` stands at issue, with `rest` behind it. -/
structure WriteAtIssue (s : State) (x : PWrite) (rest : List PWrite) : Prop where
  rst     : s.lines.rst = false
  running : s.cc.state ≠ .resetting
  current : s.pp.current = none
  fenced  : s.pp.fenced = none
  head    : s.pp.pwq = x :: rest

/-- The processor read `r` stands at issue. -/
structure ReadAtIssue (s : State) (r : PRead) : Prop where
  rst     : s.lines.rst = false
  running : s.cc.state ≠ .resetting
  current : s.pp.current = none
  fenced  : s.pp.fenced = none
  empty   : s.pp.pwq = []
  slot    : s.pp.readSlot = some r

/-- The F port is free to take an access and issue it. -/
structure FieldPortFree (s : State) : Prop where
  rst     : s.lines.rst = false
  running : s.cc.state ≠ .resetting
  port    : s.fp = { held := none, inFlight := none }

/-- An access at word address `a` is decoded past the tests for memory, the Control Block and the controller state
(R89, tests 1 to 3). -/
structure Decoded (s : State) (a : Addr) : Prop where
  inMemory  : a.toNat < s.memSize
  outsideCB : s.inCB a = false
  decoding  : s.cc.state.passes = false

/-- The access lies in the view of `w` alone, whose active slot holds `d` (R89, test 4). -/
structure InWindow (s : State) (q : Port) (a : Addr) (w : Win) (d : Descriptor) : Prop where
  decoded : Decoded s a
  inUse   : (s.win w).inUse = some d
  view    : s.inView q a w = true
  only    : ∀ v, s.inView q a v = true → v = w

/-- The access lies in no view, and in a bank of `w` alone (R89, test 5). -/
structure InBank (s : State) (q : Port) (a : Addr) (w : Win) : Prop where
  decoded : Decoded s a
  noView  : ∀ v, s.inView q a v = false
  bank    : s.inBank a w = true
  only    : ∀ v, s.inBank a v = true → v = w

/-- No swap of the window is pending and no notice fences it, so that no access of it stalls (R100). -/
def Open (x : Window) : Prop := x.swapPending = false ∧ x.fence = false

/-- The command word of `c` stands at issue (R94, R151). -/
structure CommandAtIssue (s : State) (x : PWrite) (rest : List PWrite) (c : Command) : Prop where
  issue    : WriteAtIssue s x rest
  address  : x.addr = s.cbBase
  inMemory : s.cbBase.toNat < s.memSize
  enables  : x.be = 0xF#4
  code     : commandOf (cmdCode x.data) = some c

/-- The row of a command. -/
def rowOf : Command → Instr
  | .start => .start
  | .stop => .stop
  | .reset => .reset
  | .clearerr => .clearerr
  | .load => .load
  | .switch => .switch
  | .cancel => .cancel
  | .hold => .hold
  | .release => .release
  | .commit => .commit
  | .rearm => .rearm

/-- The controller states from ARMED to LOST. -/
def Armed (c : CState) : Prop := c = .armed ∨ c = .aligning ∨ c = .running ∨ c = .frozen ∨ c = .lost

/-- The P port after the issue of a command word: its own write to memory is the current access (R94). -/
def wordIssued (p : PPort) (x : PWrite) (rest : List PWrite) : PPort :=
  { p with
    pwq := rest
    current := some { win := none, bankWrite := false, items := [.plain .write x.addr x.be x.data none] } }

/-- The result record of a command taken now (R151, R154). -/
def resultRecord (s : State) (code : BitVec 8) (r : ResultCode) (refused : BitVec 16) : ResultRecord :=
  { code := code, result := r, refused := refused, seq := s.cba.result.seq + 1 }

/-- Window `w` is named by a command word. -/
def named (x : PWrite) (w : Win) : Bool := (cmdMask x.data).getLsbD w.val

/-- What a per-window command leaves in the result record and the cause flags, where `why` gives each window's
reason to be refused (R153, R154): the windows refused, the result by their number, and CMD_REFUSED. The record of each
window refused is dirty, and GLOBAL for the flag. -/
structure WindowedResult (s t : State) (x : PWrite) (why : Win → Reason) : Prop where
  mask   : ∀ w : Win, t.cba.result.refused.getLsbD w.val = (named x w && why w != .none)
  record : t.cba.result = resultRecord s (cmdCode x.data)
    (if t.cba.result.refused = 0 then .done else if t.cba.result.refused = cmdMask x.data then .refused else .partly)
    t.cba.result.refused
  causes : t.cba.causes = if t.cba.result.refused = 0 then s.cba.causes else s.cba.causes ||| Cause.mask .cmdRefused
  dirty  : ∀ w : Win, named x w = true → why w ≠ .none → RecName.win w ∈ t.cba.dirty ∧ RecName.global ∈ t.cba.dirty

/-- The window record after a per-window command that does `f` to each named window it accepts (R153). -/
def afterCommand (x : PWrite) (why : Win → Reason) (f : Window → Window) (w : Win) (y : Window) : Window :=
  if named x w then (if why w = .none then f y else { y with refusal := why w }) else y

/-- The windows that an alignment pulse brings into step (R18, R47). -/
def realigns (s : State) (w : Win) : Bool :=
  match (s.win w).inUse with
  | none => false
  | some d => d.kind == .input && !(s.win w).swapPending &&
      ((s.win w).state == .filling || (s.win w).state == .filled || (s.win w).state == .blocked)

/-- The address of the word in memory that a command stores to in a state, where it stores to one: that of the
write granted at the M port, which the command completes or, for PIN_RESET, cuts short. -/
def storeOf (c : Instr) (s : State) : Option Addr :=
  match c, s.mp.grant with
  | .pAccessComplete _, .single t => if t.work = .pPlain ∧ t.dir = .write then some t.addr else none
  | .fAccessComplete _, .single t => if t.work = .fAccess ∧ t.dir = .write then some t.addr else none
  | .writebackWordComplete _, .single t => match t.work with
    | .writebackWord _ _ => some t.addr
    | _ => none
  | .loopPairComplete _, .single t => match t.work with
    | .loopFill _ => some t.addr
    | _ => none
  | .mergePairComplete _, .pairWrite t _ => match t.work with
    | .merge _ _ _ _ => some t.dst
    | _ => none
  | .demandCopyComplete _, .pairWrite t _ => match t.work with
    | .demand _ _ => some t.dst
    | _ => none
  | .carryPairComplete _, .pairWrite t _ => match t.work with
    | .carry _ _ => some t.dst
    | _ => none
  | .loopPairComplete _, .pairWrite t _ => match t.work with
    | .loop _ => some t.dst
    | _ => none
  | .pinReset, .single t => if t.dir = .write then some t.addr else none
  | .pinReset, .pairWrite t _ => some t.dst
  | _, _ => none

end Sys2Proof.Safety
end

