-- ==== Sys2Proof/Certificates/Slice0/Obligations.lean ====
section
/-! DEFINITION. What is claimed of the part, for the provers. Each statement about a command concludes that the
command answers a next state, and gives that state; `EndsIn` leaves open which further records have joined the dirty set and
K's next request, which `ChangedRecordsJoinTheDirtySet` gives. -/

open Sys2Proof Sys2Proof.Machine Sys2Proof.Safety

/-! ## Steps, stores and the laws -/

/-- A step runs the command at the front of the queue; with none waiting the block idles (log 3). -/
def Obligations.StepRunsTheFrontCommand : Prop :=
  (∀ (c : Instr) (rest : List Instr) (s : State), s.pending = c :: rest → step s = exec c { s with pending := rest }) ∧
  ∀ s : State, s.pending = [] → step s = .next s

/-- Every command of every row answers a next state, and leaves the queue of commands alone. While RST is asserted,
commands other than RST_RELEASE and PIN_RESET move line levels alone (log 11). -/
def Obligations.EveryCommandAnswersNext : Prop :=
  (∀ (c : Instr) (s : State), ∃ t, exec c s = .next t ∧ t.pending = s.pending) ∧
  ∀ (c : Instr) (s t : State), s.lines.rst = true → c ≠ .pinReset → (∀ m k f, c ≠ .rstRelease m k f) →
    exec c s = .next t →
      t = { s with lines := { s.lines with cyc := t.lines.cyc, accept := t.lines.accept }
                   cc := { s.cc with frz := t.cc.frz } }

/-- A command stores to memory only by completing a granted write, or by a pin reset that cuts one short, and then
only to that write's word. -/
def Obligations.MemoryChangesOnlyAtTheGrantedWrite : Prop :=
  ∀ (c : Instr) (s t : State), MemoryLaw s → exec c s = .next t →
    ∀ a : Nat, (∀ b, storeOf c s = some b → a < b.toNat ∨ b.toNat + 3 < a) → t.mem.readByte a = s.mem.readByte a

/-- What a write leaves in its word: the enabled lanes take the data after a normal response, and the other lanes
keep what they held after either response. What a read returns: lane i, bits 8i to 8i+7, is the byte at the word's address
plus i (log 6). A byte reads as its entry in memory and as 0 where there is none (log 5), and memory is canonical when its
addresses rise strictly and no entry is 0. -/
def Obligations.WritesReachEnabledLanes : Prop :=
  (∀ (m : Memory) (a i : Nat), i < 4 → (m.readWord a).extractLsb' (8 * i) 8 = m.readByte (a + i)) ∧
  (∀ m : Memory, m.wf = true ↔ (m.map Prod.fst).Pairwise (· < ·) ∧ ∀ c ∈ m, c.2 ≠ 0) ∧
  (∀ (m : Memory) (a : Nat), m.wf = true →
    (∀ v, (a, v) ∈ m → m.readByte a = v) ∧ ((∀ v, (a, v) ∉ m) → m.readByte a = 0)) ∧
  ∀ (s : State) (a : Addr) (be : Lanes) (d : Word) (i : Nat), MemoryLaw s → a.toNat < s.memSize → i < 4 →
    (be.getLsbD i = true → (State.memAnswered .ok s a be d).mem.readByte (a.toNat + i) = d.extractLsb' (8 * i) 8) ∧
    (be.getLsbD i = false → ∀ r, (State.memAnswered r s a be d).mem.readByte (a.toNat + i) = s.mem.readByte (a.toNat + i))

/-- Every step keeps memory in its canonical form. -/
def Obligations.StepKeepsMemoryLaw : Prop := ∀ s t, MemoryLaw s → step s = .next t → MemoryLaw t

/-- Every step keeps the laws of the queues: at most 4 posted writes, one copy job for a window, and no record twice
in the dirty set. Every step from a state with the laws keeps the law of the P port: only a read of it clears flags, what
is granted to it is of its current access, and the access that stays stalled at a FENCE (log 39, the model's reading) is
next in order and lies outside the Control Block. -/
def Obligations.StepKeepsQueueLaws : Prop :=
  (∀ s t, PwqLaw s → CopyLaw s → DirtyLaw s → step s = .next t → PwqLaw t ∧ CopyLaw t ∧ DirtyLaw t) ∧
  ∀ s t, Laws s → PortLaw s → step s = .next t → PortLaw t

/-- Every step keeps the third law: valid slots pass their own checks and clear the slots of other windows. The checks,
byte by byte: a descriptor's lengths are in range, its addresses word-aligned, its four ranges below the memory size and
outside the Control Block, its banks apart from each other and from its views; and against another window's slot, P-view
is apart from P-view, F-view from F-view, and each bank from both views and both banks. Validation is both checks, against
every valid slot of every other window. -/
def Obligations.StepKeepsSlotLaw : Prop :=
  let apart := fun (a : Addr) (l : Nat) (b : Addr) (m : Nat) => ∀ i j, i < l → j < m → a.toNat + i ≠ b.toNat + j
  let view := fun (d : Descriptor) => if d.kind = .output then 16 * d.len else 4 * d.len
  (∀ s t, SlotLaw s → step s = .next t → SlotLaw t) ∧
  (∀ (s : State) (d : Descriptor), s.selfOk d = true ↔
    (1 ≤ d.len ∧ d.len ≤ 256 ∧ d.liveLen ≤ d.len ∧ d.liveOff + d.liveLen ≤ d.len) ∧
    (d.pview.toNat % 4 = 0 ∧ d.fview.toNat % 4 = 0 ∧ d.bank0.toNat % 4 = 0 ∧ d.bank1.toNat % 4 = 0) ∧
    (d.pview.toNat + view d ≤ s.memSize ∧ d.fview.toNat + 4 * d.len ≤ s.memSize ∧
      d.bank0.toNat + 4 * d.len ≤ s.memSize ∧ d.bank1.toNat + 4 * d.len ≤ s.memSize) ∧
    (apart d.pview (view d) s.cbBase 4096 ∧ apart d.fview (4 * d.len) s.cbBase 4096 ∧
      apart d.bank0 (4 * d.len) s.cbBase 4096 ∧ apart d.bank1 (4 * d.len) s.cbBase 4096) ∧
    apart d.bank0 (4 * d.len) d.bank1 (4 * d.len) ∧
    (apart d.bank0 (4 * d.len) d.pview (view d) ∧ apart d.bank0 (4 * d.len) d.fview (4 * d.len) ∧
      apart d.bank1 (4 * d.len) d.pview (view d) ∧ apart d.bank1 (4 * d.len) d.fview (4 * d.len))) ∧
  (∀ d e : Descriptor, crossOk d e = true ↔
    apart d.pview (view d) e.pview (view e) ∧ apart d.fview (4 * d.len) e.fview (4 * e.len) ∧
    (∀ b ∈ [d.bank0, d.bank1], apart b (4 * d.len) e.pview (view e) ∧ apart b (4 * d.len) e.fview (4 * e.len) ∧
      apart b (4 * d.len) e.bank0 (4 * e.len) ∧ apart b (4 * d.len) e.bank1 (4 * e.len)) ∧
    ∀ b ∈ [e.bank0, e.bank1], apart d.pview (view d) b (4 * e.len) ∧ apart d.fview (4 * d.len) b (4 * e.len)) ∧
  ∀ (s : State) (w : Win) (d : Descriptor), s.validate w d = true ↔
    s.selfOk d = true ∧ ∀ v, v ≠ w → ∀ n e, (s.win v).slot n = some e → crossOk d e = true

/-- Every step keeps the eleventh law: without windows in use, the windows are IDLE and the queues of copies, loads and
reservations empty, and, DRAINING apart, the Notice Queue too. -/
def Obligations.StepKeepsStillLaw : Prop := ∀ s t, Laws s → step s = .next t → StillLaw t

/-- Every step keeps the fourth law: the Notice Queue's places, its notices and the fences. -/
def Obligations.StepKeepsNoticeLaw : Prop := ∀ s t, Laws s → step s = .next t → NoticeLaw t

/-- Every step keeps the sixth law: no window has a switch pending and a load queued. -/
def Obligations.StepKeepsLoadLaw : Prop := ∀ s t, Laws s → step s = .next t → LoadLaw t

/-- Every step keeps each window in the states and items of its kind: in any state, IDLE too, the items that the kind of
its active slot does not use are 0 (log 38). -/
def Obligations.StepKeepsWindowsLaw : Prop := ∀ s t, Laws s → step s = .next t → WindowsLaw t

/-- Every step keeps the eighth law: a miss count at MISSLIMIT is that of a window that has tripped (log 23). -/
def Obligations.StepKeepsMissLaw : Prop := ∀ s t, Laws s → MissLaw s → step s = .next t → MissLaw t

/-- The machine right after reset obeys every law. -/
def Obligations.ResetObeysTheLaws : Prop :=
  MemoryLaw State.reset ∧ PwqLaw State.reset ∧ CopyLaw State.reset ∧ DirtyLaw State.reset ∧ SlotLaw State.reset ∧
    PortLaw State.reset ∧ Laws State.reset ∧ MissLaw State.reset

/-! ## Flags, records and write-back -/

/-- The bit of each cause flag and of each window event, and the cause flag that an event records with it, where it has one.
What recording a cause flag or a window event does, what a drop counts, what a memory error leaves in the latch, that a
normal response leaves it as it is, and when IRQ and ERR are high. -/
def Obligations.FlagsDropsAndTheLatch : Prop :=
  (Cause.mask .cycle = 0x0001 ∧ Cause.mask .lost = 0x0002 ∧ Cause.mask .runt = 0x0004 ∧ Cause.mask .underrun = 0x0008 ∧
    Cause.mask .overrun = 0x0010 ∧ Cause.mask .trip = 0x0020 ∧ Cause.mask .slip = 0x0040 ∧
    Cause.mask .protect = 0x0080 ∧ Cause.mask .noticeTimeout = 0x0100 ∧ Cause.mask .loadDone = 0x0200 ∧
    Cause.mask .loadFail = 0x0400 ∧ Cause.mask .switched = 0x0800 ∧ Cause.mask .stopped = 0x1000 ∧
    Cause.mask .memerr = 0x2000 ∧ Cause.mask .cmdRefused = 0x4000) ∧
  (WEvent.mask .underrun = 0x0001 ∧ WEvent.mask .overrun = 0x0002 ∧ WEvent.mask .trip = 0x0004 ∧
    WEvent.mask .protect = 0x0008 ∧ WEvent.mask .slip = 0x0010 ∧ WEvent.mask .excess = 0x0020 ∧
    WEvent.mask .noticeFull = 0x0040 ∧ WEvent.mask .loopback = 0x0080 ∧ WEvent.mask .loopNosrc = 0x0100 ∧
    WEvent.mask .writeAfterCommit = 0x0200 ∧ WEvent.mask .mergeFault = 0x0400 ∧ WEvent.mask .loadFail = 0x0800 ∧
    WEvent.mask .switched = 0x1000 ∧ WEvent.mask .switchLate = 0x2000) ∧
  (WEvent.cause .underrun = some .underrun ∧ WEvent.cause .overrun = some .overrun ∧ WEvent.cause .trip = some .trip ∧
    WEvent.cause .protect = some .protect ∧ WEvent.cause .slip = some .slip ∧ WEvent.cause .loadFail = some .loadFail ∧
    WEvent.cause .switched = some .switched ∧
    ∀ e ∈ [WEvent.excess, .noticeFull, .loopback, .loopNosrc, .writeAfterCommit, .mergeFault, .switchLate],
      WEvent.cause e = none) ∧
  (∀ (s : State) (q : ErrSource) (r : Dir) (a : Addr),
    State.latchAnswer .ok s q r a = s ∧ State.latchAnswer .err s q r a = s.latchError q r a) ∧
  (∀ (s : State) (c : Cause), ∃ l, .global ∈ l ∧ (∀ r ∈ s.cba.dirty, r ∈ l) ∧
    s.record c = { s with cba := { s.cba with causes := s.cba.causes ||| c.mask, dirty := l } }) ∧
  (∀ (s : State) (w : Win) (e : WEvent), ∃ l, .win w ∈ l ∧ (e.cause.isSome = true → .global ∈ l) ∧
    (∀ r ∈ s.cba.dirty, r ∈ l) ∧
    s.event w e =
      { s.setWin w { s.win w with events := (s.win w).events ||| e.mask } with
        cba := { s.cba with
          causes := match e.cause with
            | some c => s.cba.causes ||| c.mask
            | none => s.cba.causes
          dirty := l } }) ∧
  (∀ (s : State) (w : Win), ∃ l, .win w ∈ l ∧ (∀ r ∈ s.cba.dirty, r ∈ l) ∧
    s.drop w = { s.setWin w { s.win w with drops := if (s.win w).drops = 255 then 255 else (s.win w).drops + 1 } with
      cba := { s.cba with dirty := l } }) ∧
  (∀ (s : State) (q : ErrSource) (r : Dir) (a : Addr), ∃ l, .global ∈ l ∧ (∀ x ∈ s.cba.dirty, x ∈ l) ∧
    s.latchError q r a =
      { s with
        mp := { s.mp with latch :=
          if s.mp.latch.valid then { s.mp.latch with multiple := true }
          else { valid := true, addr := a, source := some q, dir := r, multiple := false } }
        cba := { s.cba with causes := s.cba.causes ||| Cause.mask .memerr, dirty := l } }) ∧
  (∀ s : State, (s.irq = true ↔ ∃ i, s.cba.causes.getLsbD i = true ∧ s.cba.config.irqMask.getLsbD i = true) ∧
    s.errLine = s.mp.latch.valid)

/-- Records join the dirty set at its tail in the order GLOBAL, RESULT, W0 to W15 (log 16) and none leaves. A record whose
shown items a command changes is in it afterwards; no other record joins, but where a rule of the event makes it dirty
(`mayDirty`): of that, states in which the P port holds what no run puts there are left out (`PortLaw`, kept by every
step as `StepKeepsQueueLaws` says). K keeps a request until it completes, or STOP withdraws an ungranted read (log 28). Having none, K presents
nothing while RESETTING holds it; else a read that waits, unless it is a write-back's turn and one is in progress or to
begin (log 29); else the word of the write-back in progress. -/
def Obligations.ChangedRecordsJoinTheDirtySet : Prop :=
  allRecords = [.global, .result, .win 0, .win 1, .win 2, .win 3, .win 4, .win 5, .win 6, .win 7, .win 8, .win 9, .win 10,
    .win 11, .win 12, .win 13, .win 14, .win 15] ∧
  ∀ (c : Instr) (s t : State), joinsRecords c = true → exec c s = .next t →
    (∃ l, t.cba.dirty = s.cba.dirty ++ l ∧ l.Sublist allRecords ∧
      ∀ r ∈ l, r ∉ s.cba.dirty ∧
        (PortLaw s → (∃ i, i < r.length ∧ t.recordWord r i ≠ s.recordWord r i) ∨ mayDirty c s r = true)) ∧
    (∀ (r : RecName) (i : Nat), i < r.length → t.recordWord r i ≠ s.recordWord r i → r ∈ t.cba.dirty) ∧
    (s.lines.rst = false →
      let held := t.cc.state = .resetting ∧ t.cc.phase ≠ .pass
      let reads := (∃ l, t.cba.load = some l ∧ l.ending = none) ∨ t.cba.fetch ≠ none
      let readsNext := reads ∧ (t.cba.turn = .read ∨ (t.cba.writeback = none ∧ t.cba.dirty = []))
      (∀ q, s.cba.request = some q → t.cba.request = some q ∨ completesK c s = true ∨
        (q ≠ .writeback ∧ s.mp.grant.holder ≠ some .k ∧ s.cc.state ≠ .draining ∧ t.cc.state = .draining)) ∧
      ((s.cba.request ≠ none ∧ t.cba.request = s.cba.request) ∨
        ((held → t.cba.request = none) ∧
         (¬ held → readsNext → t.cba.request = some (if t.cba.load = none then .fetch else .load)) ∧
         (¬ held → ¬ readsNext → t.cba.writeback ≠ none → t.cba.request = some .writeback) ∧
         (¬ held → ¬ readsNext → t.cba.writeback = none → t.cba.request = none))))

/-- The row WRITEBACK_RECORD (log 29) takes the head of the dirty set and presents its first word, when K has nothing
outstanding and no write-back is in progress. It has no effect otherwise (log 2): with nothing dirty, from RESET until the
reset values and after the pass, and at the turn of a read that waits. WRITEBACK_WORD_COMPLETE writes the word, keeps the
flags that a flag word carried as its published set after a normal response, latches an error, and goes on to the next
word or ends the write-back; the pass ends with the last word of W15 (log 29). The words of the records and their
offsets, bit by bit, unassigned bits 0; the queue counts are those of states under the laws of the queues. -/
def Obligations.WriteBackMovesWordByWord : Prop :=
  (∀ (s : State) (r : RecName) (rest : List RecName), s.lines.rst = false → s.cba.dirty = r :: rest →
    s.cba.writeback = none → s.cba.request = none → (s.cc.state = .resetting → s.cc.phase = .pass) →
    (s.readWaits = true → s.cba.turn = .writeback) →
    exec .writebackRecord s = .next { s with cba := { s.cba with
      dirty := rest, writeback := some { name := r, word := 0 }, request := some .writeback } }) ∧
  (∀ s : State, s.cba.dirty = [] ∨ s.cba.writeback ≠ none ∨ s.cba.request ≠ none ∨
    (s.cc.state = .resetting ∧ s.cc.phase ≠ .pass) ∨ (s.readWaits = true ∧ s.cba.turn = .read) →
    exec .writebackRecord s = .next s) ∧
  (∀ s : State, s.readWaits = true ↔ (∃ l, s.cba.load = some l ∧ l.ending = none) ∨ s.cba.fetch ≠ none) ∧
  (RecName.global.length = 6 ∧ RecName.global.offset = 0x020 ∧ RecName.result.length = 4 ∧ RecName.result.offset = 0x010 ∧
    ∀ w : Win, (RecName.win w).length = 4 ∧ (RecName.win w).offset = 0x100 + 16 * w.val) ∧
  (∀ s : State, s.ce.jobs.length ≤ 16 → s.nu.queue.length + s.nu.reservations.length ≤ 8 → s.cba.loadQueue.length ≤ 16 →
    let g := s.recordWord .global
    let state : BitVec 4 := match s.cc.state with
      | .stopped => 0 | .loading => 1 | .armed => 2 | .aligning => 3 | .running => 4 | .frozen => 5 | .lost => 6
      | .draining => 7 | .resetting => 8
    let source : BitVec 3 := match s.mp.latch.source with
      | none => 0 | some .p => 1 | some .f => 2 | some .mu => 3 | some .ce => 4 | some .k => 5
    let mode : BitVec 2 := match s.cba.config.freezeMode with
      | .ignore => 0 | .all => 1 | .inputs => 2
    g 0 = 0#17 ++ s.cba.causes ∧
    g 1 = 0#2 ++ BitVec.ofNat 5 s.cba.loadQueue.length ++ BitVec.ofNat 4 (s.nu.queue.length + s.nu.reservations.length) ++
      BitVec.ofNat 5 s.ce.jobs.length ++ s.cc.groupPos ++ 0#2 ++ BitVec.ofBool s.mp.latch.valid ++
      BitVec.ofBool s.cc.freezeReq ++ state ∧
    g 2 = s.cc.cycle ∧
    g 3 = 0#8 ++ s.mp.latch.addr ∧
    g 4 = 0#27 ++ BitVec.ofBool s.mp.latch.multiple ++ BitVec.ofBool (decide (s.mp.latch.dir = .write)) ++ source ∧
    g 5 = 0#8 ++ s.lines.cbsel ++ 0#1 ++ s.lines.memsz ++ 0#1 ++
      BitVec.ofBool (decide (s.cba.config.arbMode = .rotating)) ++ mode ++ s.cba.config.groupLen) ∧
  (∀ s : State,
    let r := s.recordWord .result
    let result : BitVec 3 := match s.cba.result.result with
      | .done => 0 | .partly => 1 | .refused => 2 | .badstate => 3 | .unknown => 4
    r 0 = 0#8 ++ s.cba.result.seq ++ 0#5 ++ result ++ s.cba.result.code ∧ r 1 = 0#16 ++ s.cba.result.refused ∧
    r 2 = 0 ∧ r 3 = 0) ∧
  (∀ (s : State) (w : Win),
    let x := s.win w
    let r := s.recordWord (.win w)
    let state : BitVec 3 := match x.state with
      | .idle => 0 | .filling => 1 | .filled => 2 | .blocked => 3 | .composing => 4 | .committed => 5 | .tripped => 6
      | .fault => 7
    let refusal : BitVec 3 := match x.refusal with
      | .none => 0 | .badkind => 1 | .badstate => 2 | .busy => 3 | .invalid => 4 | .idle => 5
    let kind := match (if x.active = .a then x.slotA else x.slotB) with
      | none => false
      | some d => decide (d.kind = .output)
    r 0 = x.fill ++ 0#1 ++ refusal ++ x.miss ++ BitVec.ofBool x.switchPending ++ BitVec.ofBool x.fence ++
      BitVec.ofBool x.swapPending ++ BitVec.ofBool x.safe ++ BitVec.ofBool x.held ++ BitVec.ofBool x.valid ++
      BitVec.ofBool x.role ++ BitVec.ofBool x.slotB.isSome ++ BitVec.ofBool x.slotA.isSome ++
      BitVec.ofBool (decide (x.active = .b)) ++ BitVec.ofBool kind ++ state ∧
    r 1 = 0#8 ++ x.drops ++ x.blocked ++ x.lost ∧ r 2 = x.lastSwap ∧ r 3 = 0#18 ++ x.events) ∧
  (∀ (s : State) (r : RecName) (i : Nat) (a : Addr) (d : Word) (h : Option Resp) (answer : Resp), s.lines.rst = false →
    s.mp.grant = .single { work := .writebackWord r i, dir := .write, addr := a, be := 0xF, data := d, foretold := h } →
    ∃ t, exec (.writebackWordComplete answer) s = .next t ∧
      EndsIn t
        (State.latchAnswer answer
          { s with
            mem := (State.memAnswered answer s a 0xF d).mem
            free := (State.memAnswered answer s a 0xF d).free
            mp := { s.mp with grant := .free }
            cc := { s.cc with phase := if s.cc.phase = .pass ∧ r = .win 15 ∧ 3 ≤ i then .passDone else s.cc.phase }
            windows := t.windows
            cba := { s.cba with
              writeback := if i + 1 < r.length then some { name := r, word := i + 1 } else none
              turn := .read
              published := if answer = .ok ∧ r = .global ∧ i = 0 then d.extractLsb' 0 15 else s.cba.published } }
          .k .write a) ∧
      ∀ w, t.win w = { s.win w with
        published := if answer = .ok ∧ r = .win w ∧ i = 3 then d.extractLsb' 0 14 else (s.win w).published })

/-! ## Resets, STOP's end and the straps -/

/-- What pin reset leaves: the reset values written out, and PIN_RESET, which takes them in every state, keeping the
lines, the FRZ level, memory apart from a write it cuts short, and the straps until they are sampled again. -/
def Obligations.PinResetTakesTheResetValues : Prop :=
  (∀ w, State.reset.win w =
    { slotA := none, slotB := none, active := .a, state := .idle, valid := false, held := false, safe := false,
      swapPending := false, fence := false, switchPending := false, role := false, fill := 0, miss := 0, lost := 0,
      blocked := 0, drops := 0, lastSwap := 0, events := 0, published := 0, refusal := .none, carry := [],
      waitSet := [], coalesced := false }) ∧
  State.reset.cc =
    { state := .stopped, phase := .inactive, cycle := 0, groupPos := 0, lowSeen := false, frz := false,
      freezeReq := false, interval := false, watchdog := false, drainSet := [] } ∧
  State.reset.pp = { pwq := [], readSlot := none, current := none, fenced := none } ∧
  State.reset.fp = { held := none, inFlight := none } ∧
  State.reset.ce = { jobs := [], running := false, request := false } ∧
  State.reset.nu = { queue := [], reservations := [], offer := none, timer := false } ∧
  State.reset.cba =
    { result := { code := 0, result := .done, refused := 0, seq := 0 }, dirty := [], writeback := none, request := none,
      turn := .writeback, causes := 0, published := 0,
      config := { groupLen := 0, freezeMode := .ignore, arbMode := .fixed, cycTimeout := 0, minInt := 0,
                  noticeTimeout := 0, irqMask := 0 },
      load := none, loadQueue := [], fetch := none } ∧
  State.reset.mp =
    { grant := .free, pointer := .c, latch := { valid := false, addr := 0, source := none, dir := .read, multiple := false } } ∧
  ∀ s : State, ∃ t, exec .pinReset s = .next t ∧
    t = { State.reset with
      lines := { s.lines with rst := true, pBus := .none, fBus := .none }
      cc := { State.reset.cc with frz := s.cc.frz }
      mem := t.mem
      free := t.free
      pending := s.pending } ∧
    (storeOf .pinReset s = none → t.mem = s.mem ∧ t.free = s.free)

/-- RST_RELEASE samples the straps and the FRZ level, and nothing else changes, GLOBAL not becoming dirty though it shows
the straps (log 30); the MEMSZ codes and CBSEL select the memory size and the Control Block's base. With RST released
already it has no effect (log 2). -/
def Obligations.RstReleaseSamplesTheStraps : Prop :=
  ∀ (s : State) (m : BitVec 3) (k : BitVec 8) (f : Bool), ∃ t, exec (.rstRelease m k f) s = .next t ∧
    (s.lines.rst = true →
      t = { s with lines := { s.lines with rst := false, memsz := m, cbsel := k }, cc := { s.cc with frz := f } } ∧
      t.memSize = 1048576 * (if m = 0 then 1 else if m = 1 then 2 else if m = 2 then 4 else if m = 3 then 8 else 16) ∧
      t.cbBase.toNat = 65536 * k.toNat) ∧
    (s.lines.rst = false → t = s)

/-- The end of RESETTING. When every completion has been taken, RESET_VALUES gives the part its reset values, with the
line levels, the straps, the unissued accesses of both ports and memory kept, the result record of RESET, and all 18
records dirty; while something is outstanding, in any state, it has no effect (log 2). After the pass's last word
RESET_PASS_END enters STOPPED, GLOBAL becomes dirty, and the accesses that were held are retried in that event (log 15;
`StalledAccessesWait` says how). -/
def Obligations.ResettingEndsInStopped : Prop :=
  (∀ s : State, s.lines.rst = false → s.cc.state = .resetting → s.cc.phase = .waiting → s.mp.grant = .free →
    s.pp.current = none → s.fp.inFlight = none → s.ce.request = false → s.cba.request = none →
    exec .resetValues s = .next
      { State.reset with
        lines := s.lines
        cc := { State.reset.cc with state := .resetting, phase := .pass, frz := s.cc.frz }
        pp := { pwq := s.pp.pwq, readSlot := s.pp.readSlot, current := none, fenced := none }
        fp := { held := s.fp.held, inFlight := none }
        cba := { State.reset.cba with
          result := { code := 0x03, result := .done, refused := 0, seq := 0 }
          dirty := [.global, .result, .win 0, .win 1, .win 2, .win 3, .win 4, .win 5, .win 6, .win 7, .win 8, .win 9,
                    .win 10, .win 11, .win 12, .win 13, .win 14, .win 15] }
        mem := s.mem
        free := s.free
        pending := s.pending }) ∧
  (∀ s : State, s.mp.grant ≠ .free ∨ s.pp.current ≠ none ∨ s.fp.inFlight ≠ none ∨ s.ce.request = true ∨
    s.cba.request ≠ none → exec .resetValues s = .next s) ∧
  (∀ s : State, s.lines.rst = false → s.cc.state = .resetting → s.cc.phase = .passDone →
    ∃ t v, exec .resetPassEnd s = .next t ∧ RecName.global ∈ t.cba.dirty ∧
      v = { s with cc := { s.cc with state := .stopped, phase := .inactive }, cba := { s.cba with dirty := v.cba.dirty } } ∧
      EndsIn t (retryStalled s v))

/-- DRAIN_END enters STOPPED and records STOPPED when the drain set and the Notice Queue are empty; while either holds
something, or outside DRAINING, it has no effect. -/
def Obligations.DrainEndEntersStopped : Prop :=
  (∀ s : State, s.lines.rst = false → s.cc.state = .draining → s.cc.drainSet = [] → s.nu.queue = [] →
    s.nu.reservations = [] →
    ∃ t, exec .drainEnd s = .next t ∧ RecName.global ∈ t.cba.dirty ∧ EndsIn t
      { s with cc := { s.cc with state := .stopped }
               cba := { s.cba with causes := s.cba.causes ||| Cause.mask .stopped } }) ∧
  (∀ s : State, s.cc.state ≠ .draining ∨ s.cc.drainSet ≠ [] ∨ s.nu.queue ≠ [] ∨ s.nu.reservations ≠ [] →
    ∃ t, exec .drainEnd s = .next t ∧ EndsIn t s)

/-! ## The Cycle Controller -/

/-- A rising edge while the interval timer runs is a runt: it records RUNT, set before or not, and nothing else changes but
the line's level. -/
def Obligations.RuntIsIgnored : Prop :=
  ∀ s : State, s.lines.rst = false →
    (s.cc.state = .aligning ∨ s.cc.state = .running ∨ s.cc.state = .frozen ∨ s.cc.state = .lost) →
    s.cc.interval = true →
    ∃ t, exec .cycRise s = .next t ∧ RecName.global ∈ t.cba.dirty ∧ EndsIn t
      { s with lines := { s.lines with cyc := true }
               cba := { s.cba with causes := s.cba.causes ||| Cause.mask .runt } }

/-- Edges and timers outside pulses: rising edges that are ignored by state, falling edges, the interval timer's
expiry, and a change of FRZ with its freeze request. -/
def Obligations.EdgesLevelsAndTheIntervalTimer : Prop :=
  (∀ s : State, s.lines.rst = false →
    (s.cc.state = .stopped ∨ s.cc.state = .loading ∨ s.cc.state = .draining ∨ s.cc.state = .resetting ∨
      (s.cc.state = .armed ∧ s.cc.lowSeen = false)) →
    ∃ t, exec .cycRise s = .next t ∧ EndsIn t { s with lines := { s.lines with cyc := true } }) ∧
  (∀ s : State, s.lines.rst = false → ∃ t, exec .cycFall s = .next t ∧ EndsIn t
    { s with lines := { s.lines with cyc := false }
             cc := { s.cc with lowSeen := if s.cc.state = .armed then true else s.cc.lowSeen } }) ∧
  (∀ s : State, s.lines.rst = false → ∃ t, exec .intervalTimerExpiry s = .next t ∧
    EndsIn t { s with cc := { s.cc with interval := false } }) ∧
  (∀ s : State, s.lines.rst = false → ∃ t, exec .frzChange s = .next t ∧ EndsIn t
    { s with cc := { s.cc with
      frz := !s.cc.frz
      freezeReq := if s.cc.state = .running then !s.cc.frz && s.cba.config.freezeMode != .ignore else s.cc.freezeReq } })

/-- The pulse that ends ARMED, and a pulse of LOST, enter ALIGNING and are delivered as alignment pulses: each input
window in step reloads its fill counter and is FILLING, its copy job ends, and a loop window queues a new one or
records LOOP_NOSRC, and its record is dirty. The pulse of LOST is counted; that of ARMED is not. -/
def Obligations.AlignmentPulseReloadsInputs : Prop :=
  ∀ s : State, s.lines.rst = false →
    ((s.cc.state = .armed ∧ s.cc.lowSeen = true) ∨ (s.cc.state = .lost ∧ s.cc.interval = false)) →
    ∃ t, exec .cycRise s = .next t ∧
      EndsIn t
        { s with
          lines := { s.lines with cyc := true }
          cc := { s.cc with
            state := .aligning
            cycle := if s.cc.state = .lost then s.cc.cycle + 1 else s.cc.cycle
            interval := s.cc.interval || s.cba.config.minInt != 0
            watchdog := s.cc.watchdog || s.cba.config.cycTimeout != 0 }
          cba := { s.cba with causes := t.cba.causes }
          windows := t.windows
          ce := { withoutJobs s.ce (realigns s) with
            jobs := (withoutJobs s.ce (realigns s)).jobs ++
              ((allWindows.filter (realigns s)).filterMap fun w =>
                (s.win w).inUse.bind fun d =>
                  if d.loop ∧ (s.loopSource d.loopSrc).isSome then
                    some { kind := .loop d.loopSrc 0, dest := w, urgent := false } else none) } } ∧
      (∀ w, t.win w =
        { s.win w with
          waitSet := jobsLeave (allWindows.filter fun v => realigns s v && s.hasJob v) (s.win w).waitSet
          state := if realigns s w then .filling else (s.win w).state
          fill := if realigns s w then ((s.win w).inUse.map Descriptor.expect).getD 0 else (s.win w).fill
          events := if realigns s w ∧ (s.win w).inUse.any (fun d => d.loop && (s.loopSource d.loopSrc).isNone) then
            (s.win w).events ||| WEvent.mask .loopNosrc else (s.win w).events }) ∧
      RecName.global ∈ t.cba.dirty ∧ (∀ w, realigns s w = true → RecName.win w ∈ t.cba.dirty) ∧
      t.cba.causes = if s.cc.state = .lost then s.cba.causes ||| Cause.mask .cycle else s.cba.causes

/-- Counted pulses: what a pulse of ALIGNING, RUNNING or FROZEN does to the cycle counter, the group position, the
timers, the freeze request and the controller state, and that it is then handed to the windows in ascending number
with its boundary mark and its scope. What one window does with it is `PulseFinds…` and `SwitchAtABoundary`. That each
window finds what the pulse has left at the windows before it (log 26), and that an access whose window the pulse makes
IDLE is retried in the event, one stalled at a FENCE that still holds waiting (log 15, log 39), is the model's reading. -/
def Obligations.CountedPulseIsDelivered : Prop :=
  ∀ s : State, s.lines.rst = false → s.cc.interval = false →
    let raised : State := { s with lines := { s.lines with cyc := true } }
    let counted := raised.record .cycle
    let timed : CycleController := { s.cc with
      cycle := s.cc.cycle + 1
      interval := s.cba.config.minInt != 0
      watchdog := s.cc.watchdog || s.cba.config.cycTimeout != 0 }
    let wraps := s.cc.groupPos + 1 = s.cba.config.groupLen
    let advanced : State := { counted with cc := { timed with
      state := .running
      groupPos := if wraps then 0 else s.cc.groupPos + 1 } }
    let delivered := allWindows.foldl (State.takePulse (decide wraps) false) advanced
    allWindows.map Fin.val = List.range 16 ∧
    (s.cc.state = .aligning → ∃ t, exec .cycRise s = .next t ∧ EndsIn t (retryStalled raised
      (allWindows.foldl (State.takePulse false false)
        { counted with cc := { timed with
          state := .running
          groupPos := 0
          freezeReq := s.cc.frz && s.cba.config.freezeMode != .ignore } }))) ∧
    (s.cc.state = .running → s.cc.freezeReq = false →
      ∃ t, exec .cycRise s = .next t ∧ EndsIn t (retryStalled raised delivered)) ∧
    (s.cc.state = .running → s.cc.freezeReq = true →
      ∃ t, exec .cycRise s = .next t ∧ EndsIn t (retryStalled raised
        { delivered with cc := { delivered.cc with state := .frozen, watchdog := false, freezeReq := false } })) ∧
    (s.cc.state = .frozen → s.cc.frz = false →
      ∃ t, exec .cycRise s = .next t ∧ EndsIn t (retryStalled raised delivered)) ∧
    (s.cc.state = .frozen → s.cc.frz = true →
      ∃ t, exec .cycRise s = .next t ∧ EndsIn t (retryStalled raised
        (if s.cba.config.freezeMode = .inputs then
          allWindows.foldl (State.takePulse false true) { counted with cc := { timed with watchdog := s.cc.watchdog } }
        else { counted with cc := { timed with watchdog := s.cc.watchdog } })))

/-- The watchdog's expiry in ALIGNING or RUNNING enters LOST, records LOST, and sets SAFE on every output window in use
whose VALID is set, its record dirty; with the watchdog stopped there is no expiry. -/
def Obligations.WatchdogExpiryLosesTheCycle : Prop :=
  (∀ s : State, s.lines.rst = false → s.cc.watchdog = true → (s.cc.state = .aligning ∨ s.cc.state = .running) →
    ∃ t, exec .watchdogExpiry s = .next t ∧
      EndsIn t
        { s with cc := { s.cc with state := .lost, watchdog := false, freezeReq := false }
                 cba := { s.cba with causes := s.cba.causes ||| Cause.mask .lost }
                 windows := t.windows } ∧
      RecName.global ∈ t.cba.dirty ∧
      (∀ w d, (s.win w).inUse = some d → d.kind = .output → (s.win w).valid = true → RecName.win w ∈ t.cba.dirty) ∧
      ∀ w, t.win w = { s.win w with safe :=
        (s.win w).safe || ((s.win w).valid && (s.win w).inUse.any fun d => d.kind == .output) }) ∧
  ∀ s : State, s.cc.watchdog = false → ∃ t, exec .watchdogExpiry s = .next t ∧ EndsIn t s

/-! ## What a window does with a pulse -/

/-- An evaluated pulse that finds an input window FILLING: the fill counter reloads and the loop job is replaced; with
VALID set it is a miss, which trips the window at MISSLIMIT. -/
def Obligations.PulseFindsAnInputFilling : Prop :=
  ∀ (s : State) (w : Win) (d : Descriptor) (boundary : Bool), (boundary = true → (s.win w).switchPending = false) →
    (s.win w).inUse = some d → d.kind = .input → (s.win w).state = .filling → (s.win w).swapPending = false →
    let x := s.win w
    let misses := if x.miss = 15 then 15 else x.miss + 1
    let trips := x.valid ∧ d.missLimit ≠ 0 ∧ misses = d.missLimit
    let source := (s.loopSource d.loopSrc).isSome
    let t := s.takePulse boundary false w
    t.win w =
      { x with
        state := if trips then .tripped else .filling
        fill := d.expect
        miss := if x.valid then misses else x.miss
        lost := if x.valid then (if x.lost = 255 then 255 else x.lost + 1) else x.lost
        events := x.events ||| (if trips then WEvent.mask .trip else 0) |||
          (if x.valid then WEvent.mask .underrun else 0) |||
          (if d.loop ∧ ¬ trips ∧ ¬ source then WEvent.mask .loopNosrc else 0)
        waitSet := jobsLeave (if s.hasJob w then [w] else []) x.waitSet } ∧
    (∀ v, v ≠ w → t.win v =
      { s.win v with waitSet := jobsLeave (if s.hasJob w then [w] else []) (s.win v).waitSet }) ∧
    t.cba.causes = s.cba.causes ||| (if trips then Cause.mask .trip else 0) |||
      (if x.valid then Cause.mask .underrun else 0) ∧
    RecName.win w ∈ t.cba.dirty ∧ (x.valid = true → RecName.global ∈ t.cba.dirty) ∧
    t = { s with windows := t.windows
                 ce := { withoutJobs s.ce (fun v => v == w) with
                   jobs := (withoutJobs s.ce fun v => v == w).jobs ++
                     if d.loop ∧ ¬ trips ∧ source then
                       [{ kind := .loop d.loopSrc 0, dest := w, urgent := false }] else [] }
                 cba := { s.cba with causes := t.cba.causes, dirty := t.cba.dirty } }

/-- An evaluated pulse that finds an output window COMPOSING: with VALID set it is a miss, which trips the window at
MISSLIMIT and under POLICY SAFE sets SAFE; with VALID clear nothing happens. -/
def Obligations.PulseFindsAnOutputComposing : Prop :=
  ∀ (s : State) (w : Win) (d : Descriptor) (boundary outputOnly : Bool),
    (boundary = true → (s.win w).switchPending = false) →
    (s.win w).inUse = some d → d.kind = .output → (s.win w).state = .composing → (s.win w).swapPending = false →
    let x := s.win w
    let misses := if x.miss = 15 then 15 else x.miss + 1
    let trips := d.missLimit ≠ 0 ∧ misses = d.missLimit
    let t := s.takePulse boundary outputOnly w
    (x.valid = true → RecName.win w ∈ t.cba.dirty ∧ RecName.global ∈ t.cba.dirty ∧
      t = { s.setWin w
              { x with
                state := if trips then .tripped else .composing
                miss := misses
                lost := if x.lost = 255 then 255 else x.lost + 1
                events := x.events ||| (if trips then WEvent.mask .trip else 0) ||| WEvent.mask .underrun
                safe := x.safe || d.policy == .safe } with
            cba := { s.cba with
              causes := s.cba.causes ||| (if trips then Cause.mask .trip else 0) ||| Cause.mask .underrun
              dirty := t.cba.dirty } }) ∧
    (x.valid = false → t = s)

/-- A pulse that leaves an image where it is: a slip with a swap pending; a complete input image held back by HELD or
for want of a notice place; a committed image held back for want of a place; and no effect on a window that is IDLE,
TRIPPED or in FAULT, or out of the pulse's scope. -/
def Obligations.PulseHoldsTheImageBack : Prop :=
  ∀ (s : State) (w : Win) (boundary outputOnly : Bool), (boundary = true → (s.win w).switchPending = false) →
    let x := s.win w
    let blocked := if x.blocked = 255 then 255 else x.blocked + 1
    let t := s.takePulse boundary outputOnly w
    (x.inUse = none → t = s) ∧
    ∀ d, x.inUse = some d →
      (outputOnly = true → d.kind = .input → t = s) ∧
      ((outputOnly = true → d.kind = .output) → x.swapPending = true →
        t = (s.setWin w { x with blocked := blocked }).event w .slip) ∧
      ((outputOnly = true → d.kind = .output) → x.swapPending = false → (x.state = .tripped ∨ x.state = .fault) → t = s) ∧
      (outputOnly = false → d.kind = .input → x.swapPending = false → (x.state = .filled ∨ x.state = .blocked) →
        (x.held = true → t = (s.setWin w { x with state := .blocked, blocked := blocked }).event w .overrun) ∧
        (x.held = false → NoPlace s w d →
          t = (s.setWin w { x with state := .blocked, blocked := blocked }).event w .noticeFull)) ∧
      (d.kind = .output → x.swapPending = false → x.state = .committed → NoPlace s w d →
        t = (s.setWin w { x with blocked := blocked }).event w .noticeFull)

/-- A pulse that finds a complete image free to go decides its swap: an output image COMMITTED, or an input image FILLED
or BLOCKED that is not held, where a notice place, if one is needed, can be had. While accesses or copy work of the
window are in flight the swap is pending, with the place reserved and the carry job urgent: in progress it keeps its place,
and else it stands behind the job in progress and the queued urgent jobs and ahead of the rest. With nothing in flight it
is performed at once. A frozen output pulse does so at outputs. The wait set takes window accesses, not shielded bank reads
(log 17), and a loop window queues its job after a swap performed from BLOCKED too (log 18): the model's readings. -/
def Obligations.PulseDecidesTheSwap : Prop :=
  (∀ (s : State) (w : Win),
    (∀ d, s.loopSource w = some d ↔ (s.win w).inUse = some d ∧ d.kind = .output) ∧
    (s.hasNotice w = true ↔ ∃ n ∈ s.nu.queue, n.win = w) ∧ (s.hasJob w = true ↔ ∃ j ∈ s.ce.jobs, j.dest = w) ∧
    ∀ j, s.job = some j ↔ s.ce.running = true ∧ ∃ js, s.ce.jobs = j :: js) ∧
  ∀ (s : State) (w : Win) (d : Descriptor) (boundary outputOnly : Bool),
    (boundary = true → (s.win w).switchPending = false) →
    (s.win w).inUse = some d → (s.win w).swapPending = false →
    ((d.kind = .output ∧ (s.win w).state = .committed) ∨
      (outputOnly = false ∧ d.kind = .input ∧ ((s.win w).state = .filled ∨ (s.win w).state = .blocked) ∧
        (s.win w).held = false)) →
    ¬ NoPlace s w d →
    let x := s.win w
    let queued := s.hasNotice w
    let reserves := d.cached && !queued
    let waits := s.swapWaits w d.kind
    let inProgress := s.ce.jobs.take (if s.ce.running then 1 else 0)
    let behind := s.ce.jobs.drop (if s.ce.running then 1 else 0)
    let marked := fun (j : Job) => if j.dest = w then { j with urgent := true } else j
    let t := s.takePulse boundary outputOnly w
    RecName.win w ∈ t.cba.dirty ∧
    (∀ m, m ∈ waits ↔
      (m = .p ∧ ∃ a, s.pp.current = some a ∧ a.win = some w) ∨ (m = .f ∧ ∃ a, s.fp.inFlight = some a ∧ a.win = some w) ∨
      (d.kind = .output ∧ ((m = .job w ∧ s.hasJob w = true) ∨
        ∃ j k, s.job = some j ∧ j.kind = .loop w k ∧ m = .job j.dest))) ∧
    (waits ≠ [] →
      t = { s.setWin w { x with swapPending := true, waitSet := waits, coalesced := d.cached && queued } with
        nu := { s.nu with reservations := s.nu.reservations ++ if reserves then [w] else [] }
        ce := { s.ce with jobs :=
          if WaitMember.job w ∈ waits then
            inProgress.map marked ++ behind.filter (fun j => j.dest != w && j.urgent) ++
              (behind.filter fun j => j.dest == w).map marked ++ behind.filter fun j => j.dest != w && !j.urgent
          else s.ce.jobs }
        cba := { s.cba with dirty := t.cba.dirty } }) ∧
    (waits = [] → w ∉ s.nu.reservations →
      (∀ v, v ≠ w → t.win v = s.win v) ∧
      t.nu = { s.nu with queue := s.nu.queue ++
        if reserves then [{ win := w, base := d.pview, len := noticeLen d }] else [] } ∧
      (d.kind = .input →
        t.win w =
          { x with
            role := !x.role, lastSwap := s.cc.cycle, valid := true, miss := 0, swapPending := false, waitSet := []
            coalesced := false, fence := x.fence || d.cached, fill := d.expect, state := .filling
            events := if d.loop ∧ ¬ s.hasJob w ∧ (s.loopSource d.loopSrc).isNone then
              x.events ||| WEvent.mask .loopNosrc else x.events } ∧
        t.ce = { s.ce with jobs := s.ce.jobs ++
          if d.loop ∧ ¬ s.hasJob w ∧ (s.loopSource d.loopSrc).isSome then
            [{ kind := .loop d.loopSrc 0, dest := w, urgent := false }] else [] }) ∧
      (d.kind = .output →
        t.win w =
          { x with
            role := !x.role, lastSwap := s.cc.cycle, valid := true, miss := 0, swapPending := false, waitSet := []
            coalesced := false, fence := x.fence || d.cached, safe := false, state := .composing
            carry := (List.range d.len).filter fun k => !(decide (d.liveOff ≤ k ∧ k < d.liveOff + d.liveLen)) } ∧
        t.ce = { s.ce with jobs := s.ce.jobs ++ [{ kind := .carry, dest := w, urgent := false }] }) ∧
      t = { s with windows := t.windows, nu := t.nu, ce := t.ce, cba := { s.cba with dirty := t.cba.dirty } })

/-- A group boundary at a window with SWITCH PENDING. While a swap of the window is pending, work of it is in flight, or
the notice of the view being left has no place, SWITCH_LATE is recorded, the switch stays pending, and the window
evaluates the pulse. Otherwise the window leaves its slot, its notice is queued, its copy job ends, and it is primed in
the other slot or goes IDLE; it does not evaluate the pulse. -/
def Obligations.SwitchAtABoundary : Prop :=
  ∀ (s : State) (w : Win) (outputOnly : Bool), (s.win w).switchPending = true →
    let x := s.win w
    let busy := x.swapPending = true ∨ (∃ a, s.pp.current = some a ∧ a.win = some w) ∨
      (∃ a, s.fp.inFlight = some a ∧ a.win = some w) ∨ s.mp.grant.copyDest = some w
    let late := busy ∨ ∃ d, x.inUse = some d ∧ NoPlace s w d
    let t := s.takePulse true outputOnly w
    (late → t = State.takePulse false outputOnly (s.event w .switchLate) w ∧
      ((s.event w .switchLate).win w).switchPending = true) ∧
    (¬ late →
      let leaves := x.inUse.any fun d => d.cached && !s.hasNotice w
      let y : Window := { x with
        active := if x.active = SlotName.a then .b else .a
        switchPending := false
        fence := x.fence || leaves
        events := x.events ||| WEvent.mask .switched
        waitSet := jobsLeave (if s.hasJob w then [w] else []) x.waitSet
        role := false, valid := false, held := false, safe := false, miss := 0, carry := [] }
      (match (if x.active = SlotName.a then x.slotB else x.slotA) with
        | some d =>
          t.win w =
            if d.enable then
              { y with
                state := if d.kind = Kind.input then .filling else .composing
                fill := if d.kind = Kind.input then d.expect else 0 }
            else { y with state := .idle, fill := 0 }
        | none => t.win w = { y with state := .idle, fill := 0 }) ∧
      RecName.win w ∈ t.cba.dirty ∧ RecName.global ∈ t.cba.dirty ∧
      (∀ v, v ≠ w → t.win v =
        { s.win v with waitSet := jobsLeave (if s.hasJob w then [w] else []) (s.win v).waitSet }) ∧
      t = { s with
        windows := t.windows
        nu := { s.nu with queue := s.nu.queue ++
          match x.inUse with
          | some d => if d.cached ∧ ¬ s.hasNotice w then
              [{ win := w, base := d.pview, len := noticeLen d }] else []
          | none => [] }
        ce := withoutJobs s.ce fun v => v == w
        cba := { s.cba with causes := s.cba.causes ||| Cause.mask .switched, dirty := t.cba.dirty } })

/-! ## Accesses -/

/-- The processor's writes and reads are taken: a write joins the tail of the Posted Write Queue while it holds fewer
than 4 entries and completes on the bus at once; a read enters the read slot when the P port is empty. An access that
cannot be taken waits outside and changes nothing. -/
def Obligations.AccessesAreTaken : Prop :=
  ∀ (s : State) (a : Addr) (be : Lanes) (d : Word), s.lines.rst = false →
    (s.pp.pwq.length < 4 → s.pp.readSlot = none → ∃ t, exec (.pWriteTake a be d) s = .next t ∧ EndsIn t
      { s with pp := { s.pp with pwq := s.pp.pwq ++ [{ addr := a &&& 0xFFFFFC#24, be := be, data := d }] }
               lines := { s.lines with pBus := .writeOk } }) ∧
    (4 ≤ s.pp.pwq.length ∨ s.pp.readSlot ≠ none → ∃ t, exec (.pWriteTake a be d) s = .next t ∧ EndsIn t s) ∧
    (s.pp.pwq = [] → s.pp.current = none → s.pp.readSlot = none → ∃ t, exec (.pReadTake a be) s = .next t ∧ EndsIn t
      { s with pp := { s.pp with readSlot := some { addr := a &&& 0xFFFFFC#24, be := be } } }) ∧
    (s.pp.pwq ≠ [] ∨ s.pp.current ≠ none ∨ s.pp.readSlot ≠ none →
      ∃ t, exec (.pReadTake a be) s = .next t ∧ EndsIn t s)

/-- Accesses that no window takes. An access beyond the memory size, and a field access of the Control Block, is
refused: an error response for a read or a field write, PROTECT recorded, and no transaction. A processor write to a
status record is dropped with PROTECT. A write to a bank of a window in use is dropped and charged to the window. Every
other such access goes to the M port unchanged, and a read of a flag word is marked as read-clear. What the tests are, by
address: the Control Block's 4 KiB at CBSEL times 64 KiB; the P-view of the active slot of a window in use, 16 bytes
for each word of an output and 4 of an input, its F-view and its two banks, 4 bytes for each word; and the words counted
from a base. -/
def Obligations.AccessesOutsideTheViews : Prop :=
  (∀ s : State, s.cbBase.toNat = 65536 * s.lines.cbsel.toNat ∧
    ∀ a : Addr, s.inCB a = true ↔ s.cbBase.toNat ≤ a.toNat ∧ a.toNat < s.cbBase.toNat + 4096) ∧
  (∀ (s : State) (w : Win),
    (s.win w).inUse =
      if (s.win w).state = .idle then none else if (s.win w).active = .a then (s.win w).slotA else (s.win w).slotB) ∧
  (∀ (x : Window) (d : Descriptor) (k : Nat), x.slot .a = x.slotA ∧ x.slot .b = x.slotB ∧
    x.desc = (if x.active = .a then x.slotA else x.slotB) ∧
    (d.live k = true ↔ d.liveOff ≤ k ∧ k < d.liveOff + d.liveLen)) ∧
  (∀ (s : State) (w : Win) (a : Addr),
    let within := fun (base : Addr) (len : Nat) => base.toNat ≤ a.toNat ∧ a.toNat < base.toNat + len
    (s.inView .p a w = true ↔
      ∃ d, (s.win w).inUse = some d ∧ within d.pview (if d.kind = .output then 16 * d.len else 4 * d.len)) ∧
    (s.inView .f a w = true ↔ ∃ d, (s.win w).inUse = some d ∧ within d.fview (4 * d.len)) ∧
    (s.inBank a w = true ↔
      ∃ d, (s.win w).inUse = some d ∧ (within d.bank0 (4 * d.len) ∨ within d.bank1 (4 * d.len)))) ∧
  (∀ (base : Addr) (k : Nat), base.toNat + 4 * k < 2 ^ 24 →
    (wordAt base k).toNat = base.toNat + 4 * k ∧ ∀ i, i < 4 → base.toNat + 4 * k + i < 2 ^ 24 →
      wordsFrom base (BitVec.ofNat 24 (base.toNat + 4 * k + i)) = k) ∧
  (∀ (s : State) (x : PWrite) (rest : List PWrite), WriteAtIssue s x rest →
    let off := x.addr.toNat - s.cbBase.toNat
    let taken := { s with pp := { s.pp with pwq := rest } }
    let passed := { s with pp := { s.pp with
      pwq := rest
      current := some { win := none, bankWrite := false, items := [.plain .write x.addr x.be x.data none] } } }
    (s.memSize ≤ x.addr.toNat ∨
        (x.addr.toNat < s.memSize ∧ s.inCB x.addr = true ∧ ((0x010 ≤ off ∧ off < 0x038) ∨ (0x100 ≤ off ∧ off < 0x200))) →
      ∃ t, exec (.accessIssue .p) s = .next t ∧ EndsIn t (taken.record .protect)) ∧
    (∀ w, InBank s .p x.addr w →
      ∃ t, exec (.accessIssue .p) s = .next t ∧ EndsIn t ((taken.drop w).event w .protect)) ∧
    ((x.addr.toNat < s.memSize ∧ s.inCB x.addr = true ∧ off ≠ 0 ∧ ¬ (0x010 ≤ off ∧ off < 0x038) ∧
        ¬ (0x100 ≤ off ∧ off < 0x200)) ∨
      (x.addr.toNat < s.memSize ∧ s.inCB x.addr = false ∧ (s.cc.state = .stopped ∨ s.cc.state = .loading)) ∨
      (Decoded s x.addr ∧ (∀ v, s.inView .p x.addr v = false ∧ s.inBank x.addr v = false)) →
      ∃ t, exec (.accessIssue .p) s = .next t ∧ EndsIn t passed)) ∧
  (∀ (s : State) (r : PRead), ReadAtIssue s r →
    let off := r.addr.toNat - s.cbBase.toNat
    let passed := fun (clears : Option RecName) => { s with pp := { s.pp with
      current := some { win := none, bankWrite := false, items := [.plain .read r.addr r.be 0 clears] } } }
    (s.memSize ≤ r.addr.toNat → ∃ t, exec (.accessIssue .p) s = .next t ∧ EndsIn t
      (({ s with pp := { s.pp with readSlot := none }, lines := { s.lines with pBus := .readError } } : State).record
        .protect)) ∧
    (r.addr.toNat < s.memSize → s.inCB r.addr = true →
      (off = 0x020 → ∃ t, exec (.accessIssue .p) s = .next t ∧ EndsIn t (passed (some .global))) ∧
      (∀ w : Win, off = 0x100 + 16 * w.val + 12 →
        ∃ t, exec (.accessIssue .p) s = .next t ∧ EndsIn t (passed (some (.win w)))) ∧
      (off ≠ 0x020 → (∀ w : Win, off ≠ 0x100 + 16 * w.val + 12) →
        ∃ t, exec (.accessIssue .p) s = .next t ∧ EndsIn t (passed none))) ∧
    ((r.addr.toNat < s.memSize ∧ s.inCB r.addr = false ∧ (s.cc.state = .stopped ∨ s.cc.state = .loading)) ∨
      (Decoded s r.addr ∧ (∀ v, s.inView .p r.addr v = false)) →
      ∃ t, exec (.accessIssue .p) s = .next t ∧ EndsIn t (passed none))) ∧
  (∀ (s : State) (a : Access), FieldPortFree s →
    let at_ := a.addr &&& 0xFFFFFC#24
    let passed := { s with fp := { held := none, inFlight := some {
      win := none, bankWrite := false, dir := if a.write then .write else .read, addr := at_, be := a.be
      data := a.data } } }
    (s.memSize ≤ at_.toNat ∨ (at_.toNat < s.memSize ∧ s.inCB at_ = true) →
      ∃ t, exec (.accessIssue (.f a)) s = .next t ∧ EndsIn t
        (({ s with lines := { s.lines with fBus := if a.write then .writeError else .readError } } : State).record
          .protect)) ∧
    (∀ w, InBank s .f at_ w → a.write = true →
      ∃ t, exec (.accessIssue (.f a)) s = .next t ∧ EndsIn t
        ((({ s with lines := { s.lines with fBus := .writeOk } } : State).drop w).event w .protect)) ∧
    ((at_.toNat < s.memSize ∧ s.inCB at_ = false ∧ (s.cc.state = .stopped ∨ s.cc.state = .loading)) ∨
      (Decoded s at_ ∧ (∀ v, s.inView .f at_ v = false) ∧ (a.write = false ∨ ∀ v, s.inBank at_ v = false)) →
      ∃ t, exec (.accessIssue (.f a)) s = .next t ∧ EndsIn t passed))

/-- A window access stalls while a swap of its window is pending, and from the P port while a notice fences it; in
RESETTING every access that reaches issue is held; no other access stalls. A stalled processor access stays where it
stands; a stalled field access is held by its port, and reaches issue again as the same access. What an event that leads
from `s` to `t` retries (log 15, the model's reading): the processor's access next in order, and the access the F port
holds, each if it stalled in `s` and does not in `t`; it reaches issue then, the P port's first. Nothing else is retried.
An access stalled at the FENCE of a window that is switched into an enabled slot, whose views leave its address, stays
stalled until that FENCE clears or the window is IDLE (log 39, the model's reading): `fenced` names the window. -/
def Obligations.StalledAccessesWait : Prop :=
  (∀ (s : State) (x : PWrite) (rest : List PWrite) (w : Win) (d : Descriptor), WriteAtIssue s x rest →
    InWindow s .p x.addr w d → (s.win w).swapPending = true ∨ (s.win w).fence = true →
    ∃ t, exec (.accessIssue .p) s = .next t ∧ EndsIn t s) ∧
  (∀ (s : State) (r : PRead) (w : Win) (d : Descriptor), ReadAtIssue s r →
    InWindow s .p r.addr w d → (s.win w).swapPending = true ∨ (s.win w).fence = true →
    ∃ t, exec (.accessIssue .p) s = .next t ∧ EndsIn t s) ∧
  (∀ s : State, s.lines.rst = false → s.cc.state = .resetting → ∃ t, exec (.accessIssue .p) s = .next t ∧ EndsIn t s) ∧
  (∀ (s : State) (a : Access) (w : Win) (d : Descriptor), s.lines.rst = false →
    s.fp = { held := none, inFlight := none } →
    s.cc.state = .resetting ∨ (InWindow s .f (a.addr &&& 0xFFFFFC#24) w d ∧ (s.win w).swapPending = true) →
    ∃ t, exec (.accessIssue (.f a)) s = .next t ∧ EndsIn t
      { s with fp := { held := some { a with addr := a.addr &&& 0xFFFFFC#24 }, inFlight := none } }) ∧
  (∀ (s : State) (a : Access), s.lines.rst = false → s.fp = { held := some a, inFlight := none } →
    a.addr &&& 0xFFFFFC#24 = a.addr →
    exec (.accessIssue .fHeld) s = exec (.accessIssue (.f a)) { s with fp := { held := none, inFlight := none } }) ∧
  (∀ (s : State) (q : Port) (write : Bool) (a : Addr),
    (s.cc.state = .resetting → s.stalls q write a = true) ∧
    (s.cc.state ≠ .resetting →
      (∀ w d, InWindow s q a w d →
        (s.stalls q write a = true ↔ (s.win w).swapPending = true ∨ (q = .p ∧ (s.win w).fence = true))) ∧
      (s.memSize ≤ a.toNat ∨ s.inCB a = true ∨ s.cc.state = .stopped ∨ s.cc.state = .loading ∨
        (∀ w, s.inView q a w = false) → s.stalls q write a = false))) ∧
  (∀ s : State, s.fenceStands = true ↔ ∃ w, s.pp.fenced = some w ∧ (s.win w).fence = true ∧ (s.win w).inUse ≠ none) ∧
  (∀ s : State, s.fenceStands = true → ∃ t, exec (.accessIssue .p) s = .next t ∧ EndsIn t s) ∧
  (∀ s : State, (s.fenceStands = true → s.headStalls = true) ∧
    (s.fenceStands = false →
      (∀ x rest, s.pp.pwq = x :: rest → s.headStalls = s.stalls .p true x.addr) ∧
      (∀ r, s.pp.pwq = [] → s.pp.readSlot = some r → s.headStalls = s.stalls .p false r.addr) ∧
      (s.pp.pwq = [] → s.pp.readSlot = none → s.headStalls = false))) ∧
  (∀ s : State,
    let atFence := fun (w : Win) => if (s.win w).swapPending = false ∧ (s.win w).fence = true then some w else none
    (s.pp.current ≠ none ∨ s.cc.state = .resetting → s.headFence = none) ∧
    (∀ x rest w d, WriteAtIssue s x rest → InWindow s .p x.addr w d → s.headFence = atFence w) ∧
    (∀ r w d, ReadAtIssue s r → InWindow s .p r.addr w d → s.headFence = atFence w) ∧
    (∀ x rest, s.pp.pwq = x :: rest → s.stalls .p true x.addr = false → s.headFence = none) ∧
    (∀ r, s.pp.pwq = [] → s.pp.readSlot = some r → s.stalls .p false r.addr = false → s.headFence = none) ∧
    (s.pp.pwq = [] → s.pp.readSlot = none → s.headFence = none)) ∧
  (∀ s t : State,
    let v : State := if s.fenceStands && !t.fenceStands then { t with pp := { t.pp with fenced := none } } else t
    let u : State := if s.headStalls && !v.headStalls then
        match s.headFence with
        | none => v.issueP
        | some w => if (v.win w).fence = true ∧ (v.win w).inUse ≠ none then { v with pp := { v.pp with fenced := some w } }
          else v.issueP
      else v
    (∀ a, u.fp = { held := some a, inFlight := none } → s.stalls .f a.write a.addr = true →
      u.stalls .f a.write a.addr = false →
      retryStalled s t = ({ u with fp := { held := none, inFlight := none } } : State).issueF a) ∧
    (u.fp.held = none ∨ u.fp.inFlight ≠ none ∨
      (∃ a, u.fp.held = some a ∧ (s.stalls .f a.write a.addr = false ∨ u.stalls .f a.write a.addr = true)) →
      retryStalled s t = u)) ∧
  (∀ s : State, s.lines.rst = false → ∃ t, exec (.accessIssue .p) s = .next t ∧ EndsIn t s.issueP) ∧
  (∀ (s : State) (a : Access), FieldPortFree s → s.stalls .f a.write (a.addr &&& 0xFFFFFC#24) = false →
    ∃ t, exec (.accessIssue (.f a)) s = .next t ∧ EndsIn t (s.issueF { a with addr := a.addr &&& 0xFFFFFC#24 }))

/-- A field write to a non-live offset of an input window with LOOP clear: in FILLING it is made to the fill bank and
counted, the terminal write making the window FILLED; in FILLED and BLOCKED it is dropped with EXCESS and OVERRUN, and in
TRIPPED and FAULT without an event. With LOOP set every field write is dropped with LOOPBACK. A drop is answered as
a completed write. A counted write with no byte enables is counted, answered at its issue and makes no transaction
(log 37). -/
def Obligations.FieldWriteFillsTheImage : Prop :=
  ∀ (s : State) (a : Access) (w : Win) (d : Descriptor), FieldPortFree s →
    InWindow s .f (a.addr &&& 0xFFFFFC#24) w d → (s.win w).swapPending = false → a.write = true → d.kind = .input →
    let k := wordsFrom d.fview (a.addr &&& 0xFFFFFC#24)
    let live := d.liveOff ≤ k ∧ k < d.liveOff + d.liveLen
    let x := s.win w
    let answered : State := { s with lines := { s.lines with fBus := .writeOk } }
    let made := fun (u : State) => if a.be = 0 then ({ u with lines := { s.lines with fBus := .writeOk } } : State)
      else { u with fp := { held := none, inFlight := some {
        win := some w, bankWrite := true, dir := .write, addr := wordAt (if x.role then d.bank0 else d.bank1) k
        be := a.be, data := a.data } } }
    (d.loop = true → ∃ t, exec (.accessIssue (.f a)) s = .next t ∧ EndsIn t ((answered.drop w).event w .loopback)) ∧
    (d.loop = false → ¬ live →
      (x.state = .filling → x.fill ≠ 0 → ∃ t, exec (.accessIssue (.f a)) s = .next t ∧
        EndsIn t (made (s.setWin w { x with fill := x.fill - 1 }))) ∧
      (x.state = .filling → x.fill = 0 → ∃ t, exec (.accessIssue (.f a)) s = .next t ∧
        EndsIn t (made (s.setWin w { x with state := .filled }))) ∧
      (x.state = .filled → ∃ t, exec (.accessIssue (.f a)) s = .next t ∧
        EndsIn t ((answered.drop w).event w .excess)) ∧
      (x.state = .blocked → ∃ t, exec (.accessIssue (.f a)) s = .next t ∧
        EndsIn t ((answered.drop w).event w .overrun)) ∧
      (x.state = .tripped ∨ x.state = .fault → ∃ t, exec (.accessIssue (.f a)) s = .next t ∧
        EndsIn t (answered.drop w)))

/-- A field write to a live offset of an input window with LOOP clear is made to bank 0 with its enables, in every state
and whatever the role bit; it is not counted. The processor's side of that offset is the same word. With no byte enables
it is answered at its issue and makes no transaction (log 37, the model's reading). -/
def Obligations.FieldWriteToALiveWord : Prop :=
  ∀ (s : State) (a : Access) (w : Win) (d : Descriptor), FieldPortFree s →
    InWindow s .f (a.addr &&& 0xFFFFFC#24) w d → (s.win w).swapPending = false → a.write = true → d.kind = .input →
    d.loop = false →
    let k := wordsFrom d.fview (a.addr &&& 0xFFFFFC#24)
    d.liveOff ≤ k ∧ k < d.liveOff + d.liveLen →
    (a.be ≠ 0 → ∃ t, exec (.accessIssue (.f a)) s = .next t ∧ EndsIn t
      { s with fp := { held := none, inFlight := some {
        win := some w, bankWrite := false, dir := .write, addr := wordAt d.bank0 k, be := a.be, data := a.data } } }) ∧
    (a.be = 0 → ∃ t, exec (.accessIssue (.f a)) s = .next t ∧ EndsIn t
      { s with lines := { s.lines with fBus := .writeOk } }) ∧
    ∀ role, d.procAt role k = wordAt d.bank0 k

/-- A field write to an output window: at a live offset it is made to bank 0 with its enables, in every state and
whatever the role bit, where the processor reads it too, or, with no byte enables, it is answered at its issue and makes
no transaction (log 37, the model's reading); at any other offset it is dropped with PROTECT, answered as a completed
write, and no transaction is made. -/
def Obligations.FieldWriteToAnOutput : Prop :=
  ∀ (s : State) (a : Access) (w : Win) (d : Descriptor), FieldPortFree s →
    InWindow s .f (a.addr &&& 0xFFFFFC#24) w d → (s.win w).swapPending = false → a.write = true → d.kind = .output →
    let k := wordsFrom d.fview (a.addr &&& 0xFFFFFC#24)
    let live := d.liveOff ≤ k ∧ k < d.liveOff + d.liveLen
    (live → (a.be ≠ 0 → ∃ t, exec (.accessIssue (.f a)) s = .next t ∧ EndsIn t
        { s with fp := { held := none, inFlight := some {
          win := some w, bankWrite := false, dir := .write, addr := wordAt d.bank0 k, be := a.be, data := a.data } } }) ∧
      (a.be = 0 → ∃ t, exec (.accessIssue (.f a)) s = .next t ∧ EndsIn t
        { s with lines := { s.lines with fBus := .writeOk } }) ∧
      ∀ role, d.procAt role k = wordAt d.bank0 k) ∧
    (¬ live → ∃ t, exec (.accessIssue (.f a)) s = .next t ∧ EndsIn t
      ((({ s with lines := { s.lines with fBus := .writeOk } } : State).drop w).event w .protect))

/-- Reads of windows. A field read is made at the fill bank of an input window and the publish bank of an output window,
a processor read at the view bank and the compose bank, and at bank 0 at live offsets. A field read of an output without
an image to show, and a processor read of an input without one, is answered with SAFEPAT and makes no transaction. A
processor read of a marked word of an output makes its demand copy first. -/
def Obligations.ReadsOfWindows : Prop :=
  (∀ (s : State) (a : Access) (w : Win) (d : Descriptor), FieldPortFree s →
    InWindow s .f (a.addr &&& 0xFFFFFC#24) w d → (s.win w).swapPending = false → a.write = false →
    let k := wordsFrom d.fview (a.addr &&& 0xFFFFFC#24)
    let x := s.win w
    let unseen := d.kind = .output ∧ (x.valid = false ∨ x.safe = true ∨ x.state = .tripped ∨ x.state = .fault)
    (unseen → ∃ t, exec (.accessIssue (.f a)) s = .next t ∧
      EndsIn t { s with lines := { s.lines with fBus := .data d.safepat } }) ∧
    (¬ unseen → ∃ t, exec (.accessIssue (.f a)) s = .next t ∧ EndsIn t
      { s with fp := { held := none, inFlight := some {
        win := some w, bankWrite := false, dir := .read
        addr := wordAt (if (d.liveOff ≤ k ∧ k < d.liveOff + d.liveLen) ∨ x.role = true then d.bank0 else d.bank1) k
        be := a.be, data := a.data } } })) ∧
  (∀ (s : State) (r : PRead) (w : Win) (d : Descriptor), ReadAtIssue s r → InWindow s .p r.addr w d → Open (s.win w) →
    let k := wordsFrom d.pview r.addr % (if d.kind = .output then d.len else wordsFrom d.pview r.addr + 1)
    let x := s.win w
    let live := d.liveOff ≤ k ∧ k < d.liveOff + d.liveLen
    let bank := if live ∨ x.role = false then d.bank0 else d.bank1
    let copies := ¬ live ∧ k ∈ x.carry ∧ x.state ≠ .fault
    (d.kind = .input → (x.valid = false ∨ x.state = .tripped ∨ x.state = .fault) →
      ∃ t, exec (.accessIssue .p) s = .next t ∧ EndsIn t
        { s with pp := { s.pp with readSlot := none }, lines := { s.lines with pBus := .data d.safepat } }) ∧
    (d.kind = .input → x.valid = true → x.state ≠ .tripped → x.state ≠ .fault →
      ∃ t, exec (.accessIssue .p) s = .next t ∧ EndsIn t
        { s with pp := { s.pp with current := some {
          win := some w, bankWrite := false, items := [.plain .read (wordAt bank k) r.be 0 none] } } }) ∧
    (d.kind = .output → ∃ t, exec (.accessIssue .p) s = .next t ∧ EndsIn t
        { s with pp := { s.pp with current := some {
          win := some w
          bankWrite := decide copies
          items := (if copies then
              [.demand w k (wordAt (if x.role then d.bank0 else d.bank1) k) (wordAt (if x.role then d.bank1 else d.bank0) k)]
            else []) ++ [.plain .read (wordAt bank k) r.be 0 none] } } }))

/-- A processor write to an input window: at a live offset it is made to bank 0 with its enables, in every state, or, with
no byte enables, completes at its issue with no transaction (log 37, the model's reading); at any other offset it is
dropped with PROTECT, whatever the state, and no transaction is made. -/
def Obligations.ProcessorWriteToAnInput : Prop :=
  ∀ (s : State) (x : PWrite) (rest : List PWrite) (w : Win) (d : Descriptor), WriteAtIssue s x rest →
    InWindow s .p x.addr w d → Open (s.win w) → d.kind = .input →
    let k := wordsFrom d.pview x.addr
    let live := d.liveOff ≤ k ∧ k < d.liveOff + d.liveLen
    (live → x.be ≠ 0 → ∃ t, exec (.accessIssue .p) s = .next t ∧ EndsIn t
      { s with pp := { s.pp with
        pwq := rest
        current := some { win := some w, bankWrite := false
                          items := [.plain .write (wordAt d.bank0 k) x.be x.data none] } } }) ∧
    (live → x.be = 0 → ∃ t, exec (.accessIssue .p) s = .next t ∧ EndsIn t
      { s with pp := { s.pp with pwq := rest } }) ∧
    (¬ live → ∃ t, exec (.accessIssue .p) s = .next t ∧ EndsIn t
      ((({ s with pp := { s.pp with pwq := rest } } : State).drop w).event w .protect))

/-- A processor write to an output window. At a non-live offset of a COMMITTED window it is dropped with
WRITE_AFTER_COMMIT. Otherwise its plan is: nothing, where no lane is left after TRANSPARENT or none was enabled; else
the demand copy of a marked word, unless the window is in FAULT, and then the write of the lanes left (SET) or the merge
of the alias (OR, CLEAR, TOGGLE), at the compose bank or, at a live offset, bank 0. -/
def Obligations.ProcessorWriteToAnOutput : Prop :=
  ∀ (s : State) (x : PWrite) (rest : List PWrite) (w : Win) (d : Descriptor), WriteAtIssue s x rest →
    InWindow s .p x.addr w d → Open (s.win w) → d.kind = .output →
    let n := wordsFrom d.pview x.addr
    let k := n % d.len
    let live := d.liveOff ≤ k ∧ k < d.liveOff + d.liveLen
    let y := s.win w
    let target := wordAt (if live ∨ y.role = false then d.bank0 else d.bank1) k
    let copy := if ¬ live ∧ k ∈ y.carry ∧ y.state ≠ .fault then
        [PItem.demand w k (wordAt (if y.role then d.bank0 else d.bank1) k) (wordAt (if y.role then d.bank1 else d.bank0) k)]
      else []
    let planned := fun (item : PItem) => { s with pp := { s.pp with
      pwq := rest, current := some { win := some w, bankWrite := decide (¬ live), items := copy ++ [item] } } }
    let nothing := { s with pp := { s.pp with pwq := rest } }
    (y.state = .committed ∧ ¬ live → ∃ t, exec (.accessIssue .p) s = .next t ∧ EndsIn t
      ((nothing.drop w).event w .writeAfterCommit)) ∧
    (¬ (y.state = .committed ∧ ¬ live) →
      (∀ be : Lanes, n / d.len = 0 →
        (∀ i < 4, be.getLsbD i = (x.be.getLsbD i && !(d.transparent && x.data.extractLsb' (8 * i) 8 == 0))) →
        (be ≠ 0 → ∃ t, exec (.accessIssue .p) s = .next t ∧ EndsIn t (planned (.plain .write target be x.data none))) ∧
        (be = 0 → ∃ t, exec (.accessIssue .p) s = .next t ∧ EndsIn t nothing)) ∧
      (∀ op : MergeOp, (n / d.len = 1 ∧ op = .or) ∨ (n / d.len = 2 ∧ op = .clear) ∨ (n / d.len = 3 ∧ op = .toggle) →
        (x.be ≠ 0 → ∃ t, exec (.accessIssue .p) s = .next t ∧ EndsIn t (planned (.merge w op x.be x.data target))) ∧
        (x.be = 0 → ∃ t, exec (.accessIssue .p) s = .next t ∧ EndsIn t nothing)))

/-! ## Commands -/

/-- Command words, and commands that are not accepted. The codes and the mask of a command word. A word with fewer than
four enables is UNKNOWN under code 0, and one whose code names no command is UNKNOWN under the code written (log 20, the
model's reading); a command that its controller state does not accept is BADSTATE, with a per-window command's mask refused.
Either takes a sequence number, fills the result record, records CMD_REFUSED and does nothing else; its own write is the
current access. The row ACCESS_ISSUE of a command word is the row of its command, UNKNOWN_COMMAND among them (log 4). -/
def Obligations.CommandsNotAccepted : Prop :=
  (∀ (code : BitVec 8) (c : Command), commandOf code = some c ↔
    (code = 0x01 ∧ c = .start) ∨ (code = 0x02 ∧ c = .stop) ∨ (code = 0x03 ∧ c = .reset) ∨ (code = 0x04 ∧ c = .clearerr) ∨
    (code = 0x10 ∧ c = .load) ∨ (code = 0x11 ∧ c = .switch) ∨ (code = 0x12 ∧ c = .cancel) ∨ (code = 0x20 ∧ c = .hold) ∨
    (code = 0x21 ∧ c = .release) ∨ (code = 0x22 ∧ c = .commit) ∨ (code = 0x23 ∧ c = .rearm)) ∧
  (∀ x : Word, (∃ ignored : BitVec 8, x = cmdMask x ++ ignored ++ cmdCode x) ∧
    ∀ w : Win, (cmdMask x).getLsbD w.val = x.getLsbD (16 + w.val)) ∧
  (∀ (s : State) (x : PWrite) (rest : List PWrite), WriteAtIssue s x rest → x.addr = s.cbBase →
    s.cbBase.toNat < s.memSize → x.be ≠ 0xF#4 ∨ commandOf (cmdCode x.data) = none →
    exec .unknownCommand s = exec (.accessIssue .p) s ∧ ∃ t, exec .unknownCommand s = .next t ∧
      RecName.global ∈ t.cba.dirty ∧ RecName.result ∈ t.cba.dirty ∧ EndsIn t
      { s with pp := wordIssued s.pp x rest
               cba := { s.cba with
                 result := resultRecord s (if x.be = 0xF#4 then x.data.extractLsb' 0 8 else 0) .unknown 0
                 causes := s.cba.causes ||| Cause.mask .cmdRefused } }) ∧
  (∀ (s : State) (x : PWrite) (rest : List PWrite) (c : Command), CommandAtIssue s x rest c →
    exec (rowOf c) s = exec (.accessIssue .p) s ∧
    ((c = .start ∧ s.cc.state ≠ .stopped) ∨ (c = .stop ∧ s.cc.state ≠ .loading ∧ ¬ Armed s.cc.state) →
      ∃ t, exec (rowOf c) s = .next t ∧ RecName.global ∈ t.cba.dirty ∧ RecName.result ∈ t.cba.dirty ∧ EndsIn t
        { s with pp := wordIssued s.pp x rest
                 cba := { s.cba with
                   result := resultRecord s (cmdCode x.data) .badstate 0
                   causes := s.cba.causes ||| Cause.mask .cmdRefused } }) ∧
    (c ≠ .start → c ≠ .stop → c ≠ .reset → c ≠ .clearerr → ¬ Armed s.cc.state →
      ∃ t, exec (rowOf c) s = .next t ∧ RecName.global ∈ t.cba.dirty ∧ RecName.result ∈ t.cba.dirty ∧ EndsIn t
        { s with pp := wordIssued s.pp x rest
                 cba := { s.cba with
                   result := resultRecord s (cmdCode x.data) .badstate (cmdMask x.data)
                   causes := s.cba.causes ||| Cause.mask .cmdRefused } }))

/-- START in STOPPED enters LOADING, zeroes the cycle counter and the group position, makes every slot INVALID with slot
A active, clears SWITCH PENDING, and begins the START load. Every window record becomes dirty, and GLOBAL. -/
def Obligations.StartBeginsTheLoad : Prop :=
  ∀ (s : State) (x : PWrite) (rest : List PWrite), CommandAtIssue s x rest .start → s.cc.state = .stopped →
    ∃ t, exec .start s = .next t ∧
      EndsIn t
        { s with
          pp := wordIssued s.pp x rest
          cc := { s.cc with
            state := .loading, cycle := 0, groupPos := 0, freezeReq := false, interval := false, watchdog := false }
          cba := { s.cba with
            load := some { count := 0, words := [], config := none, ending := none }
            result := resultRecord s (cmdCode x.data) .done 0 }
          windows := t.windows } ∧
      RecName.global ∈ t.cba.dirty ∧ RecName.result ∈ t.cba.dirty ∧ (∀ w, RecName.win w ∈ t.cba.dirty) ∧
      ∀ w, t.win w = { s.win w with slotA := none, slotB := none, active := .a, switchPending := false }

/-- STOP in LOADING and from ARMED to LOST enters DRAINING: timers stop, every window is IDLE with its swap abandoned,
the Copy and Load Queues, the reservations, a fetch and a START load end, K's read not granted is withdrawn, and the
drain set is the work in flight: the command word's own write, a field access, a copy pair, and a read of K. A field
access that was stalled at a window is retried, and passes through. -/
def Obligations.StopDrains : Prop :=
  ∀ (s : State) (x : PWrite) (rest : List PWrite), CommandAtIssue s x rest .stop →
    (s.cc.state = .loading ∨ Armed s.cc.state) →
    ∃ t, exec .stop s = .next t ∧
      (∀ w, t.win w = { s.win w with
        state := .idle, swapPending := false, switchPending := false, miss := 0, carry := [], waitSet := []
        coalesced := false }) ∧
      (∃ drains : List DrainMember, drains.Nodup ∧
        (.p ∈ drains) ∧ (.f ∈ drains ↔ s.fp.inFlight ≠ none) ∧
        (.pair ∈ drains ↔ s.mp.grant.holder = some .c) ∧
        (.read ∈ drains ↔ ∃ g, s.mp.grant = .single g ∧ (g.work = .loadRead ∨ g.work = .fetchRead)) ∧
        EndsIn t
          { s with
            pp := wordIssued s.pp x rest
            cc := { s.cc with
              state := .draining, lowSeen := false, freezeReq := false, interval := false, watchdog := false
              drainSet := drains }
            ce := { jobs := [], running := false, request := false }
            nu := { s.nu with reservations := [] }
            cba := { s.cba with
              load := none, loadQueue := [], fetch := none
              result := resultRecord s (cmdCode x.data) .done 0 }
            windows := t.windows
            fp := match s.fp.held, s.fp.inFlight with
              | some a, none =>
                if s.stalls .f a.write a.addr then
                  { held := none, inFlight := some {
                      win := none, bankWrite := false, dir := if a.write then .write else .read, addr := a.addr
                      be := a.be, data := a.data } }
                else s.fp
              | _, _ => s.fp }) ∧
      (s.mp.grant.holder ≠ some .k → t.cba.request ≠ some .load ∧ t.cba.request ≠ some .fetch)

/-- RESET enters RESETTING from every controller state, to wait for what is in flight; the timers stop. -/
def Obligations.ResetEntersResetting : Prop :=
  ∀ (s : State) (x : PWrite) (rest : List PWrite), CommandAtIssue s x rest .reset →
    ∃ t, exec .reset s = .next t ∧ EndsIn t
      { s with
        pp := wordIssued s.pp x rest
        cc := { s.cc with
          state := .resetting, phase := .waiting, freezeReq := false, interval := false, watchdog := false
          drainSet := [] }
        cba := { s.cba with result := resultRecord s (cmdCode x.data) .done 0 } }

/-- CLEARERR empties the error latch in every controller state in which a command is taken, whatever its mask and
whether or not the latch held an error, and ERR falls; the cause flags, MEMERR among them, are as they were, and the
result is DONE. -/
def Obligations.ClearerrEmptiesTheLatch : Prop :=
  ∀ (s : State) (x : PWrite) (rest : List PWrite), CommandAtIssue s x rest .clearerr →
    ∃ t, exec .clearerr s = .next t ∧ t.errLine = false ∧ t.cba.causes = s.cba.causes ∧ EndsIn t
      { s with
        pp := wordIssued s.pp x rest
        mp := { s.mp with latch := { valid := false, addr := 0, source := none, dir := .read, multiple := false } }
        cba := { s.cba with result := resultRecord s (cmdCode x.data) .done 0 } }

/-- HOLD, RELEASE and COMMIT from ARMED to LOST, window by window. HOLD and RELEASE set and clear HELD on each named
input window in use; COMMIT makes each named output window COMMITTED unless it is TRIPPED or in FAULT. Other named
windows are refused with their reason. -/
def Obligations.HoldReleaseAndCommit : Prop :=
  ∀ (s : State) (x : PWrite) (rest : List PWrite), Armed s.cc.state →
    let notInput : Win → Reason := fun w => match (s.win w).inUse with
      | none => .idle
      | some d => if d.kind = .input then .none else .badkind
    let notOpen : Win → Reason := fun w => match (s.win w).inUse with
      | none => .idle
      | some d => if d.kind = .input then .badkind
        else if (s.win w).state = .tripped ∨ (s.win w).state = .fault then .badstate else .none
    let done : State → (Win → Reason) → (Window → Window) → Prop := fun t why f =>
      WindowedResult s t x why ∧ (∀ w, t.win w = afterCommand x why f w (s.win w)) ∧
      EndsIn t
        { s with
          pp := wordIssued s.pp x rest
          windows := t.windows
          cba := { s.cba with result := t.cba.result, causes := t.cba.causes } }
    (CommandAtIssue s x rest .hold →
      ∃ t, exec .hold s = .next t ∧ done t notInput fun y => { y with held := true }) ∧
    (CommandAtIssue s x rest .release →
      ∃ t, exec .release s = .next t ∧ done t notInput fun y => { y with held := false }) ∧
    (CommandAtIssue s x rest .commit →
      ∃ t, exec .commit s = .next t ∧ done t notOpen fun y => { y with state := .committed })

/-- SWITCH and CANCEL from ARMED to LOST, window by window. SWITCH sets SWITCH PENDING unless a load of the window is
queued or fetching (BUSY) or its other slot is INVALID (INVALID); CANCEL clears it, and refuses no window. -/
def Obligations.SwitchAndCancel : Prop :=
  ∀ (s : State) (x : PWrite) (rest : List PWrite), Armed s.cc.state →
    let why : Win → Reason := fun w =>
      if w ∈ s.cba.loadQueue then .busy
      else if (if (s.win w).active = .a then (s.win w).slotB else (s.win w).slotA) = none then .invalid else .none
    (CommandAtIssue s x rest .switch → ∃ t, exec .switch s = .next t ∧ WindowedResult s t x why ∧
      (∀ w, t.win w = afterCommand x why (fun y => { y with switchPending := true }) w (s.win w)) ∧
      EndsIn t
        { s with
          pp := wordIssued s.pp x rest
          windows := t.windows
          cba := { s.cba with result := t.cba.result, causes := t.cba.causes } }) ∧
    (CommandAtIssue s x rest .cancel → ∃ t, exec .cancel s = .next t ∧
      (∀ w, t.win w = if named x w then { s.win w with switchPending := false } else s.win w) ∧
      EndsIn t
        { s with
          pp := wordIssued s.pp x rest
          windows := t.windows
          cba := { s.cba with result := resultRecord s (cmdCode x.data) .done 0 } })

/-- REARM from ARMED to LOST primes each named window in its active slot and ends its copy job. It refuses an IDLE
window (IDLE), and a window with a swap pending or a write into the bank being primed away in flight (BUSY). -/
def Obligations.RearmPrimes : Prop :=
  ∀ (s : State) (x : PWrite) (rest : List PWrite), Armed s.cc.state → CommandAtIssue s x rest .rearm →
    let writes : Win → Prop := fun w => (∃ a, s.fp.inFlight = some a ∧ a.win = some w ∧ a.bankWrite = true) ∨
      s.mp.grant.copyDest = some w
    ∀ why : Win → Reason,
      (∀ w, ((s.win w).inUse = none → why w = .idle) ∧
        ((s.win w).inUse ≠ none → (s.win w).swapPending = true ∨ writes w → why w = .busy) ∧
        ((s.win w).inUse ≠ none → (s.win w).swapPending = false → ¬ writes w → why w = .none)) →
      let primed : Win → Bool := fun w => named x w && why w == .none
      ∃ t, exec .rearm s = .next t ∧ WindowedResult s t x why ∧ (∀ w, primed w = true → RecName.win w ∈ t.cba.dirty) ∧
        (∀ w, t.win w = { afterCommand x why (fun y =>
            { y with
              state := if y.desc.any (fun d => d.kind == .input) then .filling else .composing
              fill := if y.desc.any (fun d => d.kind == .input) then (y.desc.map Descriptor.expect).getD 0 else 0
              role := false, valid := false, held := false, safe := false, miss := 0, carry := [] }) w (s.win w) with
          waitSet := jobsLeave (allWindows.filter fun v => primed v && s.hasJob v) (s.win w).waitSet }) ∧
        EndsIn t
          { s with
            pp := wordIssued s.pp x rest
            windows := t.windows
            ce := withoutJobs s.ce primed
            cba := { s.cba with result := t.cba.result, causes := t.cba.causes } }

/-- LOAD from ARMED to LOST queues a fetch for each named window, in ascending number, unless one is queued or in
progress or its switch is pending (BUSY). With no fetch in progress the head's starts: its target is the window's other
slot, which becomes INVALID. -/
def Obligations.LoadQueuesFetches : Prop :=
  ∀ (s : State) (x : PWrite) (rest : List PWrite), Armed s.cc.state → CommandAtIssue s x rest .load →
    let why : Win → Reason := fun w => if w ∈ s.cba.loadQueue ∨ (s.win w).switchPending = true then .busy else .none
    let queue := s.cba.loadQueue ++ allWindows.filter fun w => named x w && why w == .none
    let starts : Option Win := if s.cba.fetch = none then queue.head? else none
    ∃ t, exec .load s = .next t ∧ WindowedResult s t x why ∧
      (∀ w, let y := afterCommand x why id w (s.win w)
        t.win w = if starts = some w then
          (if y.active = .a then { y with slotB := none } else { y with slotA := none }) else y) ∧
      EndsIn t
        { s with
          pp := wordIssued s.pp x rest
          windows := t.windows
          cba := { s.cba with
            result := t.cba.result
            causes := t.cba.causes
            loadQueue := queue
            fetch := match starts with
              | some w => some { win := w, slot := if (s.win w).active = .a then .b else .a, words := [] }
              | none => s.cba.fetch } }

/-! ## The Memory Port -/

/-- What the arbiter picks and what is then granted. Nobody is picked while a transaction is granted. FIXED picks the
first request waiting in the order F, P, K, C, or F, C, P, K while the Copy Engine is urgent; ROTATING the first from the
one after the pointer, which then moves to it, and does not move in FIXED. MP_GRANT grants the request picked, and has no
effect with no request waiting (log 2). A copy job that finds nothing to do at its grant ends, and a demand copy of a
window in FAULT is passed over, with nothing granted in that event (log 33). A read-clear read is granted with the answer
memory will give (log 9). That the end of a loop job at its grant makes its window's record dirty is the model's choice
(log 40). -/
def Obligations.GrantGoesToTheWinner : Prop :=
  ∀ (s : State) (answer : Resp), s.lines.rst = false →
    let pointer := fun (q : Requester) => if s.cba.config.arbMode = .rotating then q else s.mp.pointer
    let granted := fun (q : Requester) (g : Grant) =>
      ({ s with mp := { s.mp with grant := g, pointer := pointer q } } : State)
    let single := fun (work : SingleWork) (dir : Dir) (a : Addr) (be : Lanes) (d : Word) =>
      Grant.single { work := work, dir := dir, addr := a, be := be, data := d, foretold := none }
    let ends := fun (u : State) => ∃ t, exec (.mpGrant answer) s = .next t ∧ EndsIn t u
    (∀ g : Grant, (g = .free → g.holder = none ∧ g.copyDest = none) ∧
      (∀ x, g = .single x →
        (x.work = .pPlain → g.holder = some .p ∧ g.copyDest = none) ∧
        (x.work = .fAccess → g.holder = some .f ∧ g.copyDest = none) ∧
        (x.work = .loadRead ∨ x.work = .fetchRead ∨ (∃ r i, x.work = .writebackWord r i) →
          g.holder = some .k ∧ g.copyDest = none) ∧
        (∀ w, x.work = .loopFill w → g.holder = some .c ∧ g.copyDest = some w)) ∧
      (∀ p d, g = .pairRead p ∨ g = .pairWrite p d →
        (∀ w op be y, p.work = .merge w op be y → g.holder = some .p ∧ g.copyDest = none) ∧
        (∀ w k, p.work = .demand w k → g.holder = some .p ∧ g.copyDest = none) ∧
        (∀ w k, p.work = .carry w k → g.holder = some .c ∧ g.copyDest = some w) ∧
        (∀ w, p.work = .loop w → g.holder = some .c ∧ g.copyDest = some w))) ∧
    (s.waits .f = s.fp.inFlight.isSome ∧ s.waits .p = s.pp.current.isSome ∧ s.waits .k = s.cba.request.isSome ∧
      s.waits .c = s.ce.request) ∧
    (s.mp.grant ≠ .free → s.winner = none) ∧
    (s.mp.grant = .free →
      (s.cba.config.arbMode = .fixed → s.ce.jobs.any Job.urgent = false → s.winner = [.f, .p, .k, .c].find? s.waits) ∧
      (s.cba.config.arbMode = .fixed → s.ce.jobs.any Job.urgent = true → s.winner = [.f, .c, .p, .k].find? s.waits) ∧
      (s.cba.config.arbMode = .rotating → s.mp.pointer = .f → s.winner = [.p, .k, .c, .f].find? s.waits) ∧
      (s.cba.config.arbMode = .rotating → s.mp.pointer = .p → s.winner = [.k, .c, .f, .p].find? s.waits) ∧
      (s.cba.config.arbMode = .rotating → s.mp.pointer = .k → s.winner = [.c, .f, .p, .k].find? s.waits) ∧
      (s.cba.config.arbMode = .rotating → s.mp.pointer = .c → s.winner = [.f, .p, .k, .c].find? s.waits)) ∧
    (s.winner = none → ends s) ∧
    (∀ a, s.winner = some .f → s.fp.inFlight = some a →
      ends (granted .f (single .fAccess a.dir a.addr a.be a.data))) ∧
    (∀ c i items, s.winner = some .p → s.pp.current = some c → c.items = i :: items →
      match i with
      | .plain dir a be d none => ends (granted .p (single .pPlain dir a be d))
      | .plain dir a be d (some r) => ends
          (let u := granted .p (.single
            { work := .pPlain, dir := dir, addr := a, be := be, data := d, foretold := some answer })
          if answer = .ok then u.clearPublished r else u)
      | .merge w op be d target => ends (granted .p (.pairRead { work := .merge w op be d, src := target, dst := target }))
      | .demand w k src dst =>
        if (s.win w).state = .fault then ends { s with pp := { s.pp with current := some { c with items := items } } }
        else ends (granted .p (.pairRead { work := .demand w k, src := src, dst := dst }))) ∧
    (∀ l, s.winner = some .k → s.cba.request = some .load → s.cba.load = some l →
      ends (granted .k (single .loadRead .read
        (s.cbBase + BitVec.ofNat 24 (if l.count < 8 then 0x040 + 4 * l.count
          else if l.count < 136 then 0x400 + 4 * (l.count - 8) else 0x600 + 4 * (l.count - 136))) 0xF 0))) ∧
    (∀ f, s.winner = some .k → s.cba.request = some .fetch → s.cba.fetch = some f →
      ends (granted .k (single .fetchRead .read
        (s.cbBase + BitVec.ofNat 24 ((if f.slot = .a then 0x400 else 0x600) + 32 * f.win.val + 4 * f.words.length)) 0xF 0))) ∧
    (∀ b, s.winner = some .k → s.cba.request = some .writeback → s.cba.writeback = some b →
      ends (granted .k (single (.writebackWord b.name b.word) .write
        (s.cbBase + BitVec.ofNat 24 (b.name.offset + 4 * b.word)) 0xF (s.recordWord b.name b.word)))) ∧
    (∀ j d k marks, s.winner = some .c → s.job = some j → j.kind = .carry → (s.win j.dest).inUse = some d →
      (s.win j.dest).carry = k :: marks → d.live k = false →
      let x := s.win j.dest
      ends { granted .c (.pairRead { work := .carry j.dest k
                                     src := wordAt (if x.role then d.bank0 else d.bank1) k
                                     dst := wordAt (if x.role then d.bank1 else d.bank0) k }) with
        ce := { s.ce with request := false } }) ∧
    (∀ j, s.winner = some .c → s.job = some j → j.kind = .carry → (s.win j.dest).carry = [] → ends (s.endJob j.dest)) ∧
    (∀ j src k d e, s.winner = some .c → s.job = some j → j.kind = .loop src k → (s.win j.dest).inUse = some d →
      (s.win j.dest).state = .filling → (s.win src).inUse = some e → e.kind = .output → k < min d.len e.len →
      d.live k = false →
      let x := s.win j.dest
      let y := s.win src
      let fill := wordAt (if x.role then d.bank0 else d.bank1) k
      ends { granted .c
          (if y.valid = false ∨ y.safe = true ∨ y.state = .tripped ∨ y.state = .fault then
            single (.loopFill j.dest) .write fill 0xF e.safepat
          else .pairRead { work := .loop j.dest
                           src := wordAt (if e.live k = true ∨ y.role = true then e.bank0 else e.bank1) k
                           dst := fill }) with
        ce := { s.ce with request := false } }) ∧
    (∀ j src k, s.winner = some .c → s.job = some j → j.kind = .loop src k → (s.win j.dest).state ≠ .filling →
      ends (s.endJob j.dest)) ∧
    (∀ j src k d e, s.winner = some .c → s.job = some j → j.kind = .loop src k → (s.win j.dest).inUse = some d →
      (s.win j.dest).state = .filling → (s.win src).inUse = some e → e.kind = .output → min d.len e.len ≤ k →
      ends (s.endJob j.dest)) ∧
    (∀ j src k d, s.winner = some .c → s.job = some j → j.kind = .loop src k → (s.win j.dest).inUse = some d →
      (s.win j.dest).state = .filling → (∀ e, (s.win src).inUse = some e → e.kind = .input) →
      ends ((s.endJob j.dest).event j.dest .loopNosrc))

/-- READ_CLEAR is the grant of a read-clear read that the arbiter picks: the same as MP_GRANT then. Where memory will
answer normally, every flag of the word's published set is cleared and the set is emptied, in that event; flags not in
the set stay. Where memory will answer with an error, no flag is cleared, the set is kept and no record becomes dirty.
That the answer is fixed at the grant is log 9. -/
def Obligations.ReadClearClearsThePublishedFlags : Prop :=
  ∀ (s : State) (c : PAccess) (a : Addr) (be : Lanes) (r : RecName) (items : List PItem) (answer : Resp),
    s.lines.rst = false → s.winner = some .p → s.pp.current = some c →
    c.items = .plain .read a be 0 (some r) :: items →
    exec (.readClear answer) s = exec (.mpGrant answer) s ∧
    ∃ t, exec (.readClear answer) s = .next t ∧
      (∀ w, t.win w = if answer = .ok ∧ r = .win w then
        { s.win w with events := (s.win w).events &&& ~~~(s.win w).published, published := 0 } else s.win w) ∧
      EndsIn t
        { s with
          mp := { s.mp with
            grant := .single { work := .pPlain, dir := .read, addr := a, be := be, data := 0, foretold := some answer }
            pointer := if s.cba.config.arbMode = .rotating then .p else s.mp.pointer }
          cba := if answer = .ok ∧ r = .global then
              { s.cba with causes := s.cba.causes &&& ~~~s.cba.published, published := 0 }
            else s.cba
          windows := t.windows } ∧
      (answer = .ok → r ≠ .result → r ∈ t.cba.dirty) ∧ (answer = .err → t.cba.dirty = s.cba.dirty)

/-- The transactions of the two masters complete. A read answers its master with memory's word or an error response; a
write reaches memory, and a field write is answered with memory's response. The word read is whole whatever the enables
(log 27). The access ends, leaving every wait set and the drain set. A read-clear read completes with the answer it was
granted with, and another answer to it has no effect (log 9). A counted field write stays counted. An error is latched
with source P or F. -/
def Obligations.AccessesComplete : Prop :=
  (∀ (s : State) (r : Resp) (g : Single), s.lines.rst = false → s.mp.grant = .single g → g.work = .pPlain →
     g.foretold = none ∨ g.foretold = some r →
     ∃ t, exec (.pAccessComplete r) s = .next t ∧
       (∀ w, t.win w = { s.win w with waitSet := (s.win w).waitSet.erase .p }) ∧
       EndsIn t (State.latchAnswer r
         { s with
           mp := { s.mp with grant := .free }
           mem := if g.dir = .write then (State.memAnswered r s g.addr g.be g.data).mem else s.mem
           free := if g.dir = .write then (State.memAnswered r s g.addr g.be g.data).free else s.free
           pp := { s.pp with current := none, readSlot := if g.dir = .read then none else s.pp.readSlot }
           lines := { s.lines with pBus :=
             if g.dir = .write then s.lines.pBus else if r = .ok then .data (s.mem.readWord g.addr.toNat) else .readError }
           cc := { s.cc with drainSet := s.cc.drainSet.erase .p }
           windows := t.windows } .p g.dir g.addr)) ∧
  (∀ (s : State) (r : Resp) (g : Single), s.lines.rst = false → s.mp.grant = .single g → g.work = .pPlain →
    g.foretold ≠ none → g.foretold ≠ some r → ∃ t, exec (.pAccessComplete r) s = .next t ∧ EndsIn t s) ∧
  (∀ (s : State) (r : Resp) (g : Single), s.lines.rst = false → s.mp.grant = .single g → g.work = .fAccess →
     ∃ t, exec (.fAccessComplete r) s = .next t ∧
       (∀ w, t.win w = { s.win w with waitSet := (s.win w).waitSet.erase .f }) ∧
       EndsIn t (State.latchAnswer r
         { s with
           mp := { s.mp with grant := .free }
           mem := if g.dir = .write then (State.memAnswered r s g.addr g.be g.data).mem else s.mem
           free := if g.dir = .write then (State.memAnswered r s g.addr g.be g.data).free else s.free
           fp := { s.fp with inFlight := none }
           lines := { s.lines with fBus :=
             match g.dir, r with
             | .read, .ok => .data (s.mem.readWord g.addr.toNat)
             | .read, .err => .readError
             | .write, .ok => .writeOk
             | .write, .err => .writeError }
           cc := { s.cc with drainSet := s.cc.drainSet.erase .f }
           windows := t.windows } .f g.dir g.addr))

/-- A locked pair. A normal response to the read half (READ_HALF_RESPONSE) grants the write half at once, with the word
read, or for a merge the bitwise result of its operation on it. A merge pair then completes with its write half, and the
access with it; an error on its read half ends both, counts a drop and records MERGE_FAULT. Errors are latched with
source MU. -/
def Obligations.MergePairsAreLocked : Prop :=
  (∀ (s : State) (p : Pair), s.lines.rst = false → s.mp.grant = .pairRead p →
    ∃ t, exec .readHalfResponse s = .next t ∧ EndsIn t
      (let old := s.mem.readWord p.src.toNat
      let data := match p.work with
        | .merge _ .or _ x => old ||| x
        | .merge _ .clear _ x => old &&& ~~~x
        | .merge _ .toggle _ x => old ^^^ x
        | _ => old
      { s with mp := { s.mp with grant := .pairWrite p data } })) ∧
  (∀ (s : State) (p : Pair) (w : Win) (op : MergeOp) (be : Lanes) (x : Word), s.lines.rst = false →
    p.work = .merge w op be x →
    (∀ (d : Word) (r : Resp), s.mp.grant = .pairWrite p d →
      ∃ t, exec (.mergePairComplete r) s = .next t ∧
        (∀ v, t.win v = { s.win v with waitSet := (s.win v).waitSet.erase .p }) ∧
        EndsIn t (State.latchAnswer r
          { s with
            mp := { s.mp with grant := .free }
            mem := (State.memAnswered r s p.dst be d).mem
            free := (State.memAnswered r s p.dst be d).free
            pp := { s.pp with current := none }
            cc := { s.cc with drainSet := s.cc.drainSet.erase .p }
            windows := t.windows } .mu .write p.dst)) ∧
    (s.mp.grant = .pairRead p →
      ∃ t, exec (.mergePairComplete .err) s = .next t ∧ RecName.win w ∈ t.cba.dirty ∧
        (∀ v, t.win v = { s.win v with
          waitSet := (s.win v).waitSet.erase .p
          drops := if v ≠ w then (s.win v).drops else if (s.win v).drops = 255 then 255 else (s.win v).drops + 1
          events := if v ≠ w then (s.win v).events else (s.win v).events ||| WEvent.mask .mergeFault }) ∧
        EndsIn t (State.latchError
          { s with
            mp := { s.mp with grant := .free }
            pp := { s.pp with current := none }
            cc := { s.cc with drainSet := s.cc.drainSet.erase .p }
            windows := t.windows } .mu .read p.src)))

/-! ## Copies, demand copies and swaps -/

/-- A demand copy. When its write half completes its mark is cleared, whatever the answer, its window's record is dirty,
and the access goes on with the rest of its plan. An error on its read half puts an output window in use in FAULT, and
accesses stalled on its swap are retried; a window IDLE or in FAULT stays as it is. The access goes on. Errors are latched
with source MU. -/
def Obligations.DemandCopyCompletes : Prop :=
  ∀ (s : State) (p : Pair) (w : Win) (k : Nat) (c : PAccess) (i : PItem) (items : List PItem), s.lines.rst = false →
    p.work = .demand w k → s.pp.current = some c → c.items = i :: items →
    let goesOn : PPort := { s.pp with current := some { c with items := items } }
    (∀ (d : Word) (r : Resp), s.mp.grant = .pairWrite p d →
      ∃ t, exec (.demandCopyComplete r) s = .next t ∧ RecName.win w ∈ t.cba.dirty ∧ EndsIn t (State.latchAnswer r
        { s.setWin w { s.win w with carry := (s.win w).carry.erase k } with
          mp := { s.mp with grant := .free }
          mem := (State.memAnswered r s p.dst 0xF d).mem
          free := (State.memAnswered r s p.dst 0xF d).free
          pp := goesOn } .mu .write p.dst)) ∧
    (s.mp.grant = .pairRead p →
      let failed := State.latchError { s with mp := { s.mp with grant := .free }, pp := goesOn } .mu .read p.src
      ∃ t u, exec (.demandCopyComplete .err) s = .next t ∧ EndsIn t (retryStalled s u) ∧
        ((s.win w).state = .composing ∨ (s.win w).state = .committed ∨ (s.win w).state = .tripped → Faulted failed u w) ∧
        ((s.win w).state = .idle ∨ (s.win w).state = .fault → u = failed))

/-- COPY_JOB_START. With no job in progress, no copy pair in flight and a job queued, the head becomes the job in
progress and makes its first test: a carry job asks for a pair if a mark is set; a loop job, past the live offsets, asks
for the next word if its destination is FILLING, its source is an output window in use, and an offset is left. The job
ends at once otherwise, with LOOP_NOSRC where the source is gone. A job that ends leaves the queue and every wait set, and
its window's record is dirty: for a loop job that its own tests end, that is the model's choice (log 40). Where no job can
start nothing changes (log 2, the model's choice). -/
def Obligations.CopyJobStarts : Prop :=
  (∀ (s : State) (w : Win), JobEnded s (s.endJob w) w) ∧
  (∀ (s : State) (j : Job) (js : List Job), s.lines.rst = false → s.ce.running = false → s.ce.jobs = j :: js →
    s.mp.grant.holder ≠ some .c → s.cc.state ≠ .resetting →
    let started : State := { s with ce := { s.ce with running := true } }
    let asks := fun (jobs : List Job) => ({ s with ce := { jobs := jobs, running := true, request := true } } : State)
    (j.kind = .carry →
      ((s.win j.dest).carry ≠ [] → ∃ t, exec .copyJobStart s = .next t ∧ EndsIn t (asks (j :: js))) ∧
      ((s.win j.dest).carry = [] → ∃ t, exec .copyJobStart s = .next t ∧ ∃ u, JobEnded started u j.dest ∧ EndsIn t u)) ∧
    (∀ src k, j.kind = .loop src k →
      ((s.win j.dest).state ≠ .filling →
        ∃ t, exec .copyJobStart s = .next t ∧ ∃ u, JobEnded started u j.dest ∧ EndsIn t u) ∧
      (∀ d, (s.win j.dest).inUse = some d → (s.win j.dest).state = .filling →
        let at_ := if d.liveOff ≤ k ∧ k < d.liveOff + d.liveLen then d.liveOff + d.liveLen else k
        ((∀ e, (s.win src).inUse = some e → e.kind = .input) →
          ∃ t, exec .copyJobStart s = .next t ∧ ∃ u, JobEnded started u j.dest ∧ EndsIn t (u.event j.dest .loopNosrc)) ∧
        (∀ e, (s.win src).inUse = some e → e.kind = .output →
          (at_ < min d.len e.len → ∃ t, exec .copyJobStart s = .next t ∧
            EndsIn t (asks ({ j with kind := .loop src at_ } :: js))) ∧
          (min d.len e.len ≤ at_ →
            ∃ t, exec .copyJobStart s = .next t ∧ ∃ u, JobEnded started u j.dest ∧ EndsIn t u))))) ∧
  (∀ s : State, s.ce.running = true ∨ s.ce.jobs = [] ∨ s.mp.grant.holder = some .c ∨ s.cc.state = .resetting →
    ∃ t, exec .copyJobStart s = .next t ∧ EndsIn t s)

/-- A carry pair. When its write half completes its mark is cleared, whatever the answer, and the job asks for the next
pair, or ends with the last mark, and the record is then dirty; a job that has been ended asks for nothing. An error on its
read half puts the window in FAULT and retries accesses stalled on its swap; after the job has been ended it changes no
window. The pair leaves the drain set, and errors are latched with source CE. -/
def Obligations.CarryPairCompletes : Prop :=
  ∀ (s : State) (p : Pair) (w : Win) (k : Nat), s.lines.rst = false → p.work = .carry w k →
    let left : CycleController := { s.cc with drainSet := s.cc.drainSet.erase .pair }
    (∀ (d : Word) (r : Resp), s.mp.grant = .pairWrite p d →
      let done := State.latchAnswer r
        { s.setWin w { s.win w with carry := (s.win w).carry.erase k } with
          mp := { s.mp with grant := .free }
          mem := (State.memAnswered r s p.dst 0xF d).mem
          free := (State.memAnswered r s p.dst 0xF d).free
          cc := left } .ce .write p.dst
      (s.ce.running = false → ∃ t, exec (.carryPairComplete r) s = .next t ∧ EndsIn t done) ∧
      (∀ j, s.job = some j → j.kind = .carry → j.dest = w →
        ((s.win w).carry.erase k ≠ [] → s.cc.state ≠ .resetting →
          ∃ t, exec (.carryPairComplete r) s = .next t ∧ EndsIn t { done with ce := { s.ce with request := true } }) ∧
        ((s.win w).carry.erase k ≠ [] → s.cc.state = .resetting →
          ∃ t, exec (.carryPairComplete r) s = .next t ∧ EndsIn t done) ∧
        ((s.win w).carry.erase k = [] →
          ∃ t u, exec (.carryPairComplete r) s = .next t ∧ JobEnded done u w ∧ EndsIn t u))) ∧
    (s.mp.grant = .pairRead p →
      let failed := State.latchError { s with mp := { s.mp with grant := .free }, cc := left } .ce .read p.src
      ∃ t u, exec (.carryPairComplete .err) s = .next t ∧ EndsIn t (retryStalled s u) ∧
        (s.ce.running = true →
          ((s.win w).state = .composing ∨ (s.win w).state = .committed ∨ (s.win w).state = .tripped) →
          Faulted failed u w) ∧
        (s.ce.running = false → u = failed))

/-- A loop word: a pair, or a single write of SAFEPAT. When its write completes it is counted, whatever the answer, unless
its job has been ended: the terminal word makes the destination FILLED and ends the job; after another word the job asks
for the next offset that is not live, and ends past the last one or, with LOOP_NOSRC, without its source. An error on
its read half puts the destination in FAULT, its fill counter kept, and ends the job; after the job has been ended it
changes no window. The pair leaves the drain set, and errors are latched with source CE. That a job which its own tests
end makes the destination's record dirty is the model's choice (log 40). -/
def Obligations.LoopWordCompletes : Prop :=
  ∀ (s : State) (w : Win), s.lines.rst = false →
    let left : CycleController := { s.cc with drainSet := s.cc.drainSet.erase .pair }
    let x := s.win w
    (∀ (r : Resp) (a : Addr) (d : Word),
      (∃ p, s.mp.grant = .pairWrite p d ∧ p.work = .loop w ∧ p.dst = a) ∨
        (∃ g, s.mp.grant = .single g ∧ g.work = .loopFill w ∧ g.addr = a ∧ g.be = 0xF#4 ∧ g.data = d) →
      let written := fun (y : Window) => State.latchAnswer r
        { s.setWin w y with
          mp := { s.mp with grant := .free }
          mem := (State.memAnswered r s a 0xF d).mem
          free := (State.memAnswered r s a 0xF d).free
          cc := left } .ce .write a
      let ends := fun (u : State) => ∃ t, exec (.loopPairComplete r) s = .next t ∧ EndsIn t u
      (s.ce.running = false → ends (written x)) ∧
      (∀ (j : Job) (js : List Job) (src : Win) (k : Nat) (b : Descriptor), s.ce.running = true → s.ce.jobs = j :: js →
        j.kind = .loop src k → j.dest = w → x.inUse = some b →
        let next := if b.liveOff ≤ k + 1 ∧ k + 1 < b.liveOff + b.liveLen then b.liveOff + b.liveLen else k + 1
        (x.state ≠ .filling → ∃ u, JobEnded (written x) u w ∧ ends u) ∧
        (x.state = .filling → x.fill = 0 → ∃ u, JobEnded (written { x with state := .filled }) u w ∧ ends u) ∧
        (x.state = .filling → x.fill ≠ 0 →
          ((∀ e, (s.win src).inUse = some e → e.kind = .input) →
            ∃ u, JobEnded (written { x with fill := x.fill - 1 }) u w ∧ ends (u.event w .loopNosrc)) ∧
          (∀ e, (s.win src).inUse = some e → e.kind = .output →
            (min b.len e.len ≤ next → ∃ u, JobEnded (written { x with fill := x.fill - 1 }) u w ∧ ends u) ∧
            (next < min b.len e.len → ends { written { x with fill := x.fill - 1 } with
              ce := { jobs := { j with kind := .loop src next } :: js
                      running := true
                      request := s.ce.request || s.cc.state != .resetting } }))))) ∧
    (∀ p, s.mp.grant = .pairRead p → p.work = .loop w →
      let failed := fun (y : Window) => State.latchError
        { s.setWin w y with mp := { s.mp with grant := .free }, cc := left } .ce .read p.src
      (s.ce.running = false → ∃ t, exec (.loopPairComplete .err) s = .next t ∧ EndsIn t (failed x)) ∧
      (s.ce.running = true → x.state = .filling →
        ∃ t u, exec (.loopPairComplete .err) s = .next t ∧ JobEnded (failed { x with state := .fault }) u w ∧ EndsIn t u))

/-- SWAP_PERFORM, of a pending swap whose wait set is empty. The role bit flips, VALID is set, the last-swap cycle is the
cycle counter, and misses end. A reserved place becomes a notice, and FENCE is set, as it is where the notice coalesced
with is still queued. An input window reloads its fill counter and is FILLING, a loop window queueing its job or
recording LOOP_NOSRC; an output window marks every word that is not live, queues its carry job, clears SAFE and is
COMPOSING. Accesses stalled on the swap are retried. While the wait set holds a member, or no swap is pending, nothing
changes. -/
def Obligations.SwapIsPerformed : Prop :=
  (∀ (s : State) (w : Win) (d : Descriptor), s.lines.rst = false → s.cc.state ≠ .resetting →
    (s.win w).swapPending = true → (s.win w).waitSet = [] → (s.win w).inUse = some d →
    let x := s.win w
    let reserved := decide (w ∈ s.nu.reservations)
    let loops := decide (d.kind = .input) && d.loop && !s.hasJob w
    let source := (s.loopSource d.loopSrc).isSome
    let u : State := { s.setWin w
        { x with
          role := !x.role, lastSwap := s.cc.cycle, valid := true, miss := 0, swapPending := false, coalesced := false
          fence := x.fence || reserved || (x.coalesced && s.hasNotice w)
          fill := if d.kind = .input then d.expect else x.fill
          state := if d.kind = .input then .filling else .composing
          safe := x.safe && d.kind == .input
          carry := if d.kind = .input then x.carry else
            (List.range d.len).filter fun k => !(decide (d.liveOff ≤ k ∧ k < d.liveOff + d.liveLen))
          events := if loops && !source then x.events ||| WEvent.mask .loopNosrc else x.events } with
      nu := { s.nu with
        queue := if reserved then s.nu.queue ++ [{ win := w, base := d.pview, len := noticeLen d }]
          else s.nu.queue
        reservations := s.nu.reservations.filter fun v => v != w }
      ce := { s.ce with jobs :=
        if d.kind = .output ∧ ¬ s.hasJob w then s.ce.jobs ++ [{ kind := .carry, dest := w, urgent := false }]
        else if loops && source then s.ce.jobs ++ [{ kind := .loop d.loopSrc 0, dest := w, urgent := false }]
        else s.ce.jobs } }
    ∃ t v, exec (.swapPerform w) s = .next t ∧ RecName.win w ∈ v.cba.dirty ∧ v = { u with cba := { u.cba with dirty := v.cba.dirty } } ∧
      EndsIn t (retryStalled s v)) ∧
  (∀ (s : State) (w : Win), (s.win w).swapPending = false ∨ (s.win w).waitSet ≠ [] ∨ s.cc.state = .resetting →
    ∃ t, exec (.swapPerform w) s = .next t ∧ EndsIn t s)

/-! ## Loads, fetches and notices -/

/-- The START load, and the fields of the configuration record. A read's word joins its record; a configuration record in
full is held, or ends the load if FREEZEMODE or ARBMODE names no mode; a descriptor in full fills its slot if it is valid,
slot A clearing the items its kind does not use (log 38), and otherwise records LOAD_FAIL at its window; after the last
descriptor the load has succeeded. An error ends it. After STOP the word is discarded. START_LOAD_END then enters ARMED with every window primed
in its slot A or IDLE, all 16 taking START's values, the record's values in use and LOAD_DONE recorded, or STOPPED with
LOAD_FAIL and the records left as they are (log 22); while the load goes on it has no effect (log 2). -/
def Obligations.StartLoadRuns : Prop :=
  (∀ x0 x1 x2 x3 x4 x5 x6 x7 : Word,
    let freeze := x1.toNat % 4
    let arb := x2.toNat % 4
    (decodeConfig [x0, x1, x2, x3, x4, x5, x6, x7] = none ↔ freeze = 3 ∨ 2 ≤ arb) ∧
    ∀ c, decodeConfig [x0, x1, x2, x3, x4, x5, x6, x7] = some c →
      c.groupLen.toNat = x0.toNat % 256 ∧
      ((freeze = 0 ∧ c.freezeMode = .ignore) ∨ (freeze = 1 ∧ c.freezeMode = .all) ∨
        (freeze = 2 ∧ c.freezeMode = .inputs)) ∧
      ((arb = 0 ∧ c.arbMode = .fixed) ∨ (arb = 1 ∧ c.arbMode = .rotating)) ∧
      c.cycTimeout.toNat = x3.toNat % 2 ^ 24 ∧ c.minInt.toNat = x4.toNat % 2 ^ 16 ∧
      c.noticeTimeout.toNat = x5.toNat % 2 ^ 16 ∧ c.irqMask.toNat = x6.toNat % 2 ^ 15) ∧
  (∀ (s : State) (g : Single) (r : Resp), s.lines.rst = false → s.mp.grant = .single g → g.work = .loadRead →
    let done := State.latchAnswer r
      { s with
        mp := { s.mp with grant := .free }
        cba := { s.cba with turn := .writeback }
        cc := { s.cc with drainSet := s.cc.drainSet.erase .read } } .k .read g.addr
    let loads := fun (u : State) (l : StartLoad) => ({ u with cba := { u.cba with load := some l } } : State)
    let ends := fun (u : State) => ∃ t, exec (.loadReadComplete r) s = .next t ∧ EndsIn t u
    let fills := fun (w : Win) (u : State) =>
      ∃ t, exec (.loadReadComplete r) s = .next t ∧ RecName.win w ∈ t.cba.dirty ∧ EndsIn t u
    (s.cba.load = none ∨ s.cc.state = .resetting → ends done) ∧
    (∀ l, s.cba.load = some l → s.cc.state ≠ .resetting →
      let ws := l.words ++ [s.mem.readWord g.addr.toNat]
      let n := l.count + 1
      let i := n / 8 - 2
      let w : Win := Fin.ofNat 16 i
      let next : StartLoad := { l with count := n, words := [], ending := if n = 264 then some true else none }
      (r = .err → ends (loads done { l with ending := some false })) ∧
      (r = .ok → ws.length ≠ 8 → ends (loads done { l with count := n, words := ws })) ∧
      (r = .ok → ws.length = 8 → n = 8 →
        (∀ c, decodeConfig ws = some c → ends (loads done { l with count := n, words := [], config := some c })) ∧
        (decodeConfig ws = none → ends (loads done { l with count := n, words := [], ending := some false }))) ∧
      (r = .ok → ws.length = 8 → n ≠ 8 →
        (s.validate w (decodeDescriptor ws) = true →
          let d := decodeDescriptor ws
          fills w ((loads done next).setWin w (if i < 16 then
            { s.win w with
              slotA := some d
              held := if d.kind = .output then false else (s.win w).held
              fill := if d.kind = .output then 0 else (s.win w).fill
              safe := if d.kind = .input then false else (s.win w).safe }
            else { s.win w with slotB := some d }))) ∧
        (s.validate w (decodeDescriptor ws) = false → ends ((loads done next).event w .loadFail))))) ∧
  (∀ (s : State) (l : StartLoad), s.lines.rst = false → s.cc.state = .loading → s.cba.load = some l →
    (∀ c, l.ending = some true → l.config = some c → ∃ t, exec .startLoadEnd s = .next t ∧ RecName.global ∈ t.cba.dirty ∧
      (∀ w, let x := s.win w
        let y : Window := { x with
          state := .idle, valid := false, held := false, safe := false, swapPending := false, fence := false
          switchPending := false, role := false, fill := 0, miss := 0, lost := 0, blocked := 0, drops := 0
          lastSwap := 0, carry := [], waitSet := [], coalesced := false }
        t.win w = match x.slotA with
          | none => y
          | some d => if d.enable = true then
              { y with state := if d.kind = .input then .filling else .composing
                       fill := if d.kind = .input then d.expect else 0 }
            else y) ∧
      EndsIn t
        { s with
          cc := { s.cc with
            state := .armed, lowSeen := !s.lines.cyc, freezeReq := false, interval := false, watchdog := false }
          mp := { s.mp with pointer := .c }
          cba := { s.cba with config := c, load := none, causes := s.cba.causes ||| Cause.mask .loadDone }
          windows := t.windows }) ∧
    (l.ending = some false → ∃ t, exec .startLoadEnd s = .next t ∧ RecName.global ∈ t.cba.dirty ∧ EndsIn t
      { s with cc := { s.cc with state := .stopped }
               cba := { s.cba with load := none, causes := s.cba.causes ||| Cause.mask .loadFail } }) ∧
    (l.ending = none → ∃ t, exec .startLoadEnd s = .next t ∧ EndsIn t s))

/-- A descriptor fetch, and the fields of a descriptor. The eighth word fills the target slot if the descriptor is valid,
and otherwise, or at an error on any read, LOAD_FAIL is recorded at the window. The fetch then ends: its window leaves the
Load Queue, and the next head's fetch starts, its other slot becoming INVALID, or with the queue empty LOAD_DONE is
recorded. After STOP the word is discarded. -/
def Obligations.FetchFillsTheSlot : Prop :=
  (∀ x0 x1 x2 x3 x4 x5 x6 x7 : Word,
    let d := decodeDescriptor [x0, x1, x2, x3, x4, x5, x6, x7]
    d.enable = x0.getLsbD 0 ∧ (d.kind = .output ↔ x0.getLsbD 1 = true) ∧ d.cached = x0.getLsbD 2 ∧
    (d.policy = .safe ↔ x0.getLsbD 3 = true) ∧ d.transparent = x0.getLsbD 4 ∧ d.loop = x0.getLsbD 5 ∧
    d.loopSrc.val = x0.toNat / 2 ^ 8 % 16 ∧ d.missLimit.toNat = x0.toNat / 2 ^ 12 % 16 ∧
    d.expect.toNat = x0.toNat / 2 ^ 16 % 1024 ∧ d.len = x1.toNat % 512 ∧ d.liveOff = x1.toNat / 2 ^ 10 % 512 ∧
    d.liveLen = x1.toNat / 2 ^ 20 % 512 ∧ d.pview.toNat = x2.toNat % 2 ^ 24 ∧ d.fview.toNat = x3.toNat % 2 ^ 24 ∧
    d.bank0.toNat = x4.toNat % 2 ^ 24 ∧ d.bank1.toNat = x5.toNat % 2 ^ 24 ∧ d.safepat = x6) ∧
  ∀ (s : State) (g : Single) (r : Resp), s.lines.rst = false → s.mp.grant = .single g → g.work = .fetchRead →
    let done := State.latchAnswer r
      { s with
        mp := { s.mp with grant := .free }
        cba := { s.cba with turn := .writeback }
        cc := { s.cc with drainSet := s.cc.drainSet.erase .read } } .k .read g.addr
    let ends := fun (u : State) => ∃ t, exec (.fetchReadComplete r) s = .next t ∧ EndsIn t u
    let fills := fun (w : Win) (u : State) =>
      ∃ t, exec (.fetchReadComplete r) s = .next t ∧ RecName.win w ∈ t.cba.dirty ∧ EndsIn t u
    let fetchEnds := fun (u : State) => match s.cba.loadQueue.tail with
      | [] => ({ u with cba := { u.cba with fetch := none, loadQueue := [] } } : State).record .loadDone
      | v :: rest =>
        ({ u with cba := { u.cba with
            loadQueue := v :: rest
            fetch := some { win := v, slot := if (s.win v).active = .a then .b else .a, words := [] } } } : State).setWin v
          (if (s.win v).active = .a then { u.win v with slotB := none } else { u.win v with slotA := none })
    (s.cba.fetch = none ∨ s.cc.state = .resetting → ends done) ∧
    (∀ f, s.cba.fetch = some f → s.cc.state ≠ .resetting →
      let ws := f.words ++ [s.mem.readWord g.addr.toNat]
      (r = .err → ends (fetchEnds (done.event f.win .loadFail))) ∧
      (r = .ok → ws.length ≠ 8 → ends { done with cba := { done.cba with fetch := some { f with words := ws } } }) ∧
      (r = .ok → ws.length = 8 →
        (s.validate f.win (decodeDescriptor ws) = true → fills f.win (fetchEnds (done.setWin f.win
          (if f.slot = .a then { s.win f.win with slotA := some (decodeDescriptor ws) }
           else { s.win f.win with slotB := some (decodeDescriptor ws) })))) ∧
        (s.validate f.win (decodeDescriptor ws) = false → ends (fetchEnds (done.event f.win .loadFail)))))

/-- The notice at the head of the queue is offered when none stands and the acceptance input is low, and the notice timer
starts unless NOTICETIMEOUT is 0. A rising edge of the acceptance input while an offer stands, and an expiry of the
running timer, take the notice from the queue, withdraw the offer and clear FENCE of its window; accesses stalled on it
are retried. An expiry records NOTICE_TIMEOUT. An edge with no offer standing is ignored, and an expiry has no effect then
(log 2). The rows give the level of the acceptance input: NOTICE_OFFER the level it is seen at, NOTICE_ACCEPT high
(log 12). -/
def Obligations.NoticesAreOfferedAndLeave : Prop :=
  (∀ (s : State) (n : Notice) (rest : List Notice), s.lines.rst = false → s.nu.queue = n :: rest → s.nu.offer = none →
    ∃ t, exec (.noticeOffer false) s = .next t ∧ EndsIn t
      { s with lines := { s.lines with accept := false }
               nu := { s.nu with offer := some n, timer := s.cba.config.noticeTimeout != 0 } }) ∧
  (∀ (s : State) (accept : Bool), s.lines.rst = false → s.nu.queue = [] ∨ s.nu.offer ≠ none ∨ accept = true →
    ∃ t, exec (.noticeOffer accept) s = .next t ∧ EndsIn t { s with lines := { s.lines with accept := accept } }) ∧
  (∀ (s : State) (n : Notice), s.lines.rst = false → s.nu.offer = some n →
    let high : State := { s with lines := { s.lines with accept := true } }
    let leaves := fun (u : State) => ({ u.setWin n.win { s.win n.win with fence := false } with
      nu := { s.nu with queue := s.nu.queue.tail, offer := none, timer := false } } : State)
    (∃ t v, exec .noticeAccept s = .next t ∧ RecName.win n.win ∈ v.cba.dirty ∧
      v = { leaves high with cba := { s.cba with dirty := v.cba.dirty } } ∧ EndsIn t (retryStalled high v)) ∧
    (s.nu.timer = true → ∃ t v, exec .noticeTimeout s = .next t ∧ RecName.win n.win ∈ v.cba.dirty ∧
      RecName.global ∈ v.cba.dirty ∧
      v = { leaves s with cba := { s.cba with
        causes := s.cba.causes ||| Cause.mask .noticeTimeout, dirty := v.cba.dirty } } ∧
      EndsIn t (retryStalled s v))) ∧
  (∀ s : State, s.lines.rst = false → s.nu.offer = none →
    (∃ t, exec .noticeAccept s = .next t ∧ EndsIn t { s with lines := { s.lines with accept := true } }) ∧
    ∃ t, exec .noticeTimeout s = .next t ∧ EndsIn t s)
end

