-- ==== Sys2Proof/Laws/State.lean ====
section
/-! SUPPORT. One lemma per field per update of State, each true by rfl, so that no later proof unfolds a
record update. -/

namespace Sys2Proof.Laws

open Sys2Proof.Machine
open Sys2Proof.Machine.State

/-! ### setWin -/

@[simp] theorem setWin_lines (s : State) (w : Win) (x : Window) : (s.setWin w x).lines = s.lines := rfl
@[simp] theorem setWin_cc (s : State) (w : Win) (x : Window) : (s.setWin w x).cc = s.cc := rfl
@[simp] theorem setWin_windows (s : State) (w : Win) (x : Window) : (s.setWin w x).windows = s.windows.set w x := rfl
@[simp] theorem setWin_pp (s : State) (w : Win) (x : Window) : (s.setWin w x).pp = s.pp := rfl
@[simp] theorem setWin_fp (s : State) (w : Win) (x : Window) : (s.setWin w x).fp = s.fp := rfl
@[simp] theorem setWin_ce (s : State) (w : Win) (x : Window) : (s.setWin w x).ce = s.ce := rfl
@[simp] theorem setWin_nu (s : State) (w : Win) (x : Window) : (s.setWin w x).nu = s.nu := rfl
@[simp] theorem setWin_cba (s : State) (w : Win) (x : Window) : (s.setWin w x).cba = s.cba := rfl
@[simp] theorem setWin_mp (s : State) (w : Win) (x : Window) : (s.setWin w x).mp = s.mp := rfl
@[simp] theorem setWin_mem (s : State) (w : Win) (x : Window) : (s.setWin w x).mem = s.mem := rfl
@[simp] theorem setWin_free (s : State) (w : Win) (x : Window) : (s.setWin w x).free = s.free := rfl
@[simp] theorem setWin_pending (s : State) (w : Win) (x : Window) : (s.setWin w x).pending = s.pending := rfl

/-! ### modWin -/

@[simp] theorem modWin_lines (s : State) (w : Win) (f : Window → Window) : (s.modWin w f).lines = s.lines := rfl
@[simp] theorem modWin_cc (s : State) (w : Win) (f : Window → Window) : (s.modWin w f).cc = s.cc := rfl
@[simp] theorem modWin_windows (s : State) (w : Win) (f : Window → Window) :
    (s.modWin w f).windows = s.windows.set w (f (s.win w)) := rfl
@[simp] theorem modWin_pp (s : State) (w : Win) (f : Window → Window) : (s.modWin w f).pp = s.pp := rfl
@[simp] theorem modWin_fp (s : State) (w : Win) (f : Window → Window) : (s.modWin w f).fp = s.fp := rfl
@[simp] theorem modWin_ce (s : State) (w : Win) (f : Window → Window) : (s.modWin w f).ce = s.ce := rfl
@[simp] theorem modWin_nu (s : State) (w : Win) (f : Window → Window) : (s.modWin w f).nu = s.nu := rfl
@[simp] theorem modWin_cba (s : State) (w : Win) (f : Window → Window) : (s.modWin w f).cba = s.cba := rfl
@[simp] theorem modWin_mp (s : State) (w : Win) (f : Window → Window) : (s.modWin w f).mp = s.mp := rfl
@[simp] theorem modWin_mem (s : State) (w : Win) (f : Window → Window) : (s.modWin w f).mem = s.mem := rfl
@[simp] theorem modWin_free (s : State) (w : Win) (f : Window → Window) : (s.modWin w f).free = s.free := rfl
@[simp] theorem modWin_pending (s : State) (w : Win) (f : Window → Window) : (s.modWin w f).pending = s.pending := rfl

/-! ### leaveDrain -/

@[simp] theorem leaveDrain_lines (s : State) (m : DrainMember) : (s.leaveDrain m).lines = s.lines := rfl
@[simp] theorem leaveDrain_cc (s : State) (m : DrainMember) :
    (s.leaveDrain m).cc = { s.cc with drainSet := s.cc.drainSet.erase m } := rfl
@[simp] theorem leaveDrain_windows (s : State) (m : DrainMember) : (s.leaveDrain m).windows = s.windows := rfl
@[simp] theorem leaveDrain_pp (s : State) (m : DrainMember) : (s.leaveDrain m).pp = s.pp := rfl
@[simp] theorem leaveDrain_fp (s : State) (m : DrainMember) : (s.leaveDrain m).fp = s.fp := rfl
@[simp] theorem leaveDrain_ce (s : State) (m : DrainMember) : (s.leaveDrain m).ce = s.ce := rfl
@[simp] theorem leaveDrain_nu (s : State) (m : DrainMember) : (s.leaveDrain m).nu = s.nu := rfl
@[simp] theorem leaveDrain_cba (s : State) (m : DrainMember) : (s.leaveDrain m).cba = s.cba := rfl
@[simp] theorem leaveDrain_mp (s : State) (m : DrainMember) : (s.leaveDrain m).mp = s.mp := rfl
@[simp] theorem leaveDrain_mem (s : State) (m : DrainMember) : (s.leaveDrain m).mem = s.mem := rfl
@[simp] theorem leaveDrain_free (s : State) (m : DrainMember) : (s.leaveDrain m).free = s.free := rfl
@[simp] theorem leaveDrain_pending (s : State) (m : DrainMember) : (s.leaveDrain m).pending = s.pending := rfl

/-! ### answerP -/

@[simp] theorem answerP_lines (s : State) (x : Answer) : (s.answerP x).lines = { s.lines with pBus := x } := rfl
@[simp] theorem answerP_cc (s : State) (x : Answer) : (s.answerP x).cc = s.cc := rfl
@[simp] theorem answerP_windows (s : State) (x : Answer) : (s.answerP x).windows = s.windows := rfl
@[simp] theorem answerP_pp (s : State) (x : Answer) : (s.answerP x).pp = { s.pp with readSlot := none } := rfl
@[simp] theorem answerP_fp (s : State) (x : Answer) : (s.answerP x).fp = s.fp := rfl
@[simp] theorem answerP_ce (s : State) (x : Answer) : (s.answerP x).ce = s.ce := rfl
@[simp] theorem answerP_nu (s : State) (x : Answer) : (s.answerP x).nu = s.nu := rfl
@[simp] theorem answerP_cba (s : State) (x : Answer) : (s.answerP x).cba = s.cba := rfl
@[simp] theorem answerP_mp (s : State) (x : Answer) : (s.answerP x).mp = s.mp := rfl
@[simp] theorem answerP_mem (s : State) (x : Answer) : (s.answerP x).mem = s.mem := rfl
@[simp] theorem answerP_free (s : State) (x : Answer) : (s.answerP x).free = s.free := rfl
@[simp] theorem answerP_pending (s : State) (x : Answer) : (s.answerP x).pending = s.pending := rfl

/-! ### answerF -/

@[simp] theorem answerF_lines (s : State) (x : Answer) : (s.answerF x).lines = { s.lines with fBus := x } := rfl
@[simp] theorem answerF_cc (s : State) (x : Answer) : (s.answerF x).cc = s.cc := rfl
@[simp] theorem answerF_windows (s : State) (x : Answer) : (s.answerF x).windows = s.windows := rfl
@[simp] theorem answerF_pp (s : State) (x : Answer) : (s.answerF x).pp = s.pp := rfl
@[simp] theorem answerF_fp (s : State) (x : Answer) : (s.answerF x).fp = s.fp := rfl
@[simp] theorem answerF_ce (s : State) (x : Answer) : (s.answerF x).ce = s.ce := rfl
@[simp] theorem answerF_nu (s : State) (x : Answer) : (s.answerF x).nu = s.nu := rfl
@[simp] theorem answerF_cba (s : State) (x : Answer) : (s.answerF x).cba = s.cba := rfl
@[simp] theorem answerF_mp (s : State) (x : Answer) : (s.answerF x).mp = s.mp := rfl
@[simp] theorem answerF_mem (s : State) (x : Answer) : (s.answerF x).mem = s.mem := rfl
@[simp] theorem answerF_free (s : State) (x : Answer) : (s.answerF x).free = s.free := rfl
@[simp] theorem answerF_pending (s : State) (x : Answer) : (s.answerF x).pending = s.pending := rfl

/-! ### issueAs -/

@[simp] theorem issueAs_lines (s : State) (w : Option Win) (b : Bool) (l : List PItem) :
    (s.issueAs w b l).lines = s.lines := rfl
@[simp] theorem issueAs_cc (s : State) (w : Option Win) (b : Bool) (l : List PItem) :
    (s.issueAs w b l).cc = s.cc := rfl
@[simp] theorem issueAs_windows (s : State) (w : Option Win) (b : Bool) (l : List PItem) :
    (s.issueAs w b l).windows = s.windows := rfl
@[simp] theorem issueAs_pp (s : State) (w : Option Win) (b : Bool) (l : List PItem) :
    (s.issueAs w b l).pp = { s.pp with current := some { win := w, bankWrite := b, items := l } } := rfl
@[simp] theorem issueAs_fp (s : State) (w : Option Win) (b : Bool) (l : List PItem) :
    (s.issueAs w b l).fp = s.fp := rfl
@[simp] theorem issueAs_ce (s : State) (w : Option Win) (b : Bool) (l : List PItem) :
    (s.issueAs w b l).ce = s.ce := rfl
@[simp] theorem issueAs_nu (s : State) (w : Option Win) (b : Bool) (l : List PItem) :
    (s.issueAs w b l).nu = s.nu := rfl
@[simp] theorem issueAs_cba (s : State) (w : Option Win) (b : Bool) (l : List PItem) :
    (s.issueAs w b l).cba = s.cba := rfl
@[simp] theorem issueAs_mp (s : State) (w : Option Win) (b : Bool) (l : List PItem) :
    (s.issueAs w b l).mp = s.mp := rfl
@[simp] theorem issueAs_mem (s : State) (w : Option Win) (b : Bool) (l : List PItem) :
    (s.issueAs w b l).mem = s.mem := rfl
@[simp] theorem issueAs_free (s : State) (w : Option Win) (b : Bool) (l : List PItem) :
    (s.issueAs w b l).free = s.free := rfl
@[simp] theorem issueAs_pending (s : State) (w : Option Win) (b : Bool) (l : List PItem) :
    (s.issueAs w b l).pending = s.pending := rfl

/-! ### flyF -/

@[simp] theorem flyF_lines (s : State) (w : Option Win) (b : Bool) (a : Access) (g : Addr) :
    (s.flyF w b a g).lines = s.lines := rfl
@[simp] theorem flyF_cc (s : State) (w : Option Win) (b : Bool) (a : Access) (g : Addr) :
    (s.flyF w b a g).cc = s.cc := rfl
@[simp] theorem flyF_windows (s : State) (w : Option Win) (b : Bool) (a : Access) (g : Addr) :
    (s.flyF w b a g).windows = s.windows := rfl
@[simp] theorem flyF_pp (s : State) (w : Option Win) (b : Bool) (a : Access) (g : Addr) :
    (s.flyF w b a g).pp = s.pp := rfl
@[simp] theorem flyF_fp (s : State) (w : Option Win) (b : Bool) (a : Access) (g : Addr) :
    (s.flyF w b a g).fp = { s.fp with inFlight := some { win := w, bankWrite := b, dir := if a.write then .write else .read, addr := g, be := a.be, data := a.data } } := rfl
@[simp] theorem flyF_ce (s : State) (w : Option Win) (b : Bool) (a : Access) (g : Addr) :
    (s.flyF w b a g).ce = s.ce := rfl
@[simp] theorem flyF_nu (s : State) (w : Option Win) (b : Bool) (a : Access) (g : Addr) :
    (s.flyF w b a g).nu = s.nu := rfl
@[simp] theorem flyF_cba (s : State) (w : Option Win) (b : Bool) (a : Access) (g : Addr) :
    (s.flyF w b a g).cba = s.cba := rfl
@[simp] theorem flyF_mp (s : State) (w : Option Win) (b : Bool) (a : Access) (g : Addr) :
    (s.flyF w b a g).mp = s.mp := rfl
@[simp] theorem flyF_mem (s : State) (w : Option Win) (b : Bool) (a : Access) (g : Addr) :
    (s.flyF w b a g).mem = s.mem := rfl
@[simp] theorem flyF_free (s : State) (w : Option Win) (b : Bool) (a : Access) (g : Addr) :
    (s.flyF w b a g).free = s.free := rfl
@[simp] theorem flyF_pending (s : State) (w : Option Win) (b : Bool) (a : Access) (g : Addr) :
    (s.flyF w b a g).pending = s.pending := rfl

/-! ### makeUrgent -/

@[simp] theorem makeUrgent_lines (s : State) (w : Win) : (s.makeUrgent w).lines = s.lines := rfl
@[simp] theorem makeUrgent_cc (s : State) (w : Win) : (s.makeUrgent w).cc = s.cc := rfl
@[simp] theorem makeUrgent_windows (s : State) (w : Win) : (s.makeUrgent w).windows = s.windows := rfl
@[simp] theorem makeUrgent_pp (s : State) (w : Win) : (s.makeUrgent w).pp = s.pp := rfl
@[simp] theorem makeUrgent_fp (s : State) (w : Win) : (s.makeUrgent w).fp = s.fp := rfl
@[simp] theorem makeUrgent_ce (s : State) (w : Win) :
    (s.makeUrgent w).ce = { s.ce with jobs := urgentOrder s.ce.running w s.ce.jobs } := rfl
@[simp] theorem makeUrgent_nu (s : State) (w : Win) : (s.makeUrgent w).nu = s.nu := rfl
@[simp] theorem makeUrgent_cba (s : State) (w : Win) : (s.makeUrgent w).cba = s.cba := rfl
@[simp] theorem makeUrgent_mp (s : State) (w : Win) : (s.makeUrgent w).mp = s.mp := rfl
@[simp] theorem makeUrgent_mem (s : State) (w : Win) : (s.makeUrgent w).mem = s.mem := rfl
@[simp] theorem makeUrgent_free (s : State) (w : Win) : (s.makeUrgent w).free = s.free := rfl
@[simp] theorem makeUrgent_pending (s : State) (w : Win) : (s.makeUrgent w).pending = s.pending := rfl

/-! ### reserve -/

@[simp] theorem reserve_lines (s : State) (w : Win) : (s.reserve w).lines = s.lines := rfl
@[simp] theorem reserve_cc (s : State) (w : Win) : (s.reserve w).cc = s.cc := rfl
@[simp] theorem reserve_windows (s : State) (w : Win) : (s.reserve w).windows = s.windows := rfl
@[simp] theorem reserve_pp (s : State) (w : Win) : (s.reserve w).pp = s.pp := rfl
@[simp] theorem reserve_fp (s : State) (w : Win) : (s.reserve w).fp = s.fp := rfl
@[simp] theorem reserve_ce (s : State) (w : Win) : (s.reserve w).ce = s.ce := rfl
@[simp] theorem reserve_nu (s : State) (w : Win) :
    (s.reserve w).nu = { s.nu with reservations := s.nu.reservations ++ [w] } := rfl
@[simp] theorem reserve_cba (s : State) (w : Win) : (s.reserve w).cba = s.cba := rfl
@[simp] theorem reserve_mp (s : State) (w : Win) : (s.reserve w).mp = s.mp := rfl
@[simp] theorem reserve_mem (s : State) (w : Win) : (s.reserve w).mem = s.mem := rfl
@[simp] theorem reserve_free (s : State) (w : Win) : (s.reserve w).free = s.free := rfl
@[simp] theorem reserve_pending (s : State) (w : Win) : (s.reserve w).pending = s.pending := rfl

/-! ### unreserve -/

@[simp] theorem unreserve_lines (s : State) (w : Win) : (s.unreserve w).lines = s.lines := rfl
@[simp] theorem unreserve_cc (s : State) (w : Win) : (s.unreserve w).cc = s.cc := rfl
@[simp] theorem unreserve_windows (s : State) (w : Win) : (s.unreserve w).windows = s.windows := rfl
@[simp] theorem unreserve_pp (s : State) (w : Win) : (s.unreserve w).pp = s.pp := rfl
@[simp] theorem unreserve_fp (s : State) (w : Win) : (s.unreserve w).fp = s.fp := rfl
@[simp] theorem unreserve_ce (s : State) (w : Win) : (s.unreserve w).ce = s.ce := rfl
@[simp] theorem unreserve_nu (s : State) (w : Win) :
    (s.unreserve w).nu = { s.nu with reservations := s.nu.reservations.filter fun v => v != w } := rfl
@[simp] theorem unreserve_cba (s : State) (w : Win) : (s.unreserve w).cba = s.cba := rfl
@[simp] theorem unreserve_mp (s : State) (w : Win) : (s.unreserve w).mp = s.mp := rfl
@[simp] theorem unreserve_mem (s : State) (w : Win) : (s.unreserve w).mem = s.mem := rfl
@[simp] theorem unreserve_free (s : State) (w : Win) : (s.unreserve w).free = s.free := rfl
@[simp] theorem unreserve_pending (s : State) (w : Win) : (s.unreserve w).pending = s.pending := rfl

/-! ### enqueueNotice -/

@[simp] theorem enqueueNotice_lines (s : State) (n : Notice) : (s.enqueueNotice n).lines = s.lines := rfl
@[simp] theorem enqueueNotice_cc (s : State) (n : Notice) : (s.enqueueNotice n).cc = s.cc := rfl
@[simp] theorem enqueueNotice_windows (s : State) (n : Notice) :
    (s.enqueueNotice n).windows = s.windows.set n.win { s.win n.win with fence := true } := rfl
@[simp] theorem enqueueNotice_pp (s : State) (n : Notice) : (s.enqueueNotice n).pp = s.pp := rfl
@[simp] theorem enqueueNotice_fp (s : State) (n : Notice) : (s.enqueueNotice n).fp = s.fp := rfl
@[simp] theorem enqueueNotice_ce (s : State) (n : Notice) : (s.enqueueNotice n).ce = s.ce := rfl
@[simp] theorem enqueueNotice_nu (s : State) (n : Notice) :
    (s.enqueueNotice n).nu = { s.nu with queue := s.nu.queue ++ [n] } := rfl
@[simp] theorem enqueueNotice_cba (s : State) (n : Notice) : (s.enqueueNotice n).cba = s.cba := rfl
@[simp] theorem enqueueNotice_mp (s : State) (n : Notice) : (s.enqueueNotice n).mp = s.mp := rfl
@[simp] theorem enqueueNotice_mem (s : State) (n : Notice) : (s.enqueueNotice n).mem = s.mem := rfl
@[simp] theorem enqueueNotice_free (s : State) (n : Notice) : (s.enqueueNotice n).free = s.free := rfl
@[simp] theorem enqueueNotice_pending (s : State) (n : Notice) : (s.enqueueNotice n).pending = s.pending := rfl

/-! ### withdrawC -/

@[simp] theorem withdrawC_lines (s : State) : (s.withdrawC).lines = s.lines := rfl
@[simp] theorem withdrawC_cc (s : State) : (s.withdrawC).cc = s.cc := rfl
@[simp] theorem withdrawC_windows (s : State) : (s.withdrawC).windows = s.windows := rfl
@[simp] theorem withdrawC_pp (s : State) : (s.withdrawC).pp = s.pp := rfl
@[simp] theorem withdrawC_fp (s : State) : (s.withdrawC).fp = s.fp := rfl
@[simp] theorem withdrawC_ce (s : State) : (s.withdrawC).ce = { s.ce with request := false } := rfl
@[simp] theorem withdrawC_nu (s : State) : (s.withdrawC).nu = s.nu := rfl
@[simp] theorem withdrawC_cba (s : State) : (s.withdrawC).cba = s.cba := rfl
@[simp] theorem withdrawC_mp (s : State) : (s.withdrawC).mp = s.mp := rfl
@[simp] theorem withdrawC_mem (s : State) : (s.withdrawC).mem = s.mem := rfl
@[simp] theorem withdrawC_free (s : State) : (s.withdrawC).free = s.free := rfl
@[simp] theorem withdrawC_pending (s : State) : (s.withdrawC).pending = s.pending := rfl

/-! ### setGrant -/

@[simp] theorem setGrant_lines (s : State) (g : Grant) : (s.setGrant g).lines = s.lines := rfl
@[simp] theorem setGrant_cc (s : State) (g : Grant) : (s.setGrant g).cc = s.cc := rfl
@[simp] theorem setGrant_windows (s : State) (g : Grant) : (s.setGrant g).windows = s.windows := rfl
@[simp] theorem setGrant_pp (s : State) (g : Grant) : (s.setGrant g).pp = s.pp := rfl
@[simp] theorem setGrant_fp (s : State) (g : Grant) : (s.setGrant g).fp = s.fp := rfl
@[simp] theorem setGrant_ce (s : State) (g : Grant) : (s.setGrant g).ce = s.ce := rfl
@[simp] theorem setGrant_nu (s : State) (g : Grant) : (s.setGrant g).nu = s.nu := rfl
@[simp] theorem setGrant_cba (s : State) (g : Grant) : (s.setGrant g).cba = s.cba := rfl
@[simp] theorem setGrant_mp (s : State) (g : Grant) : (s.setGrant g).mp = { s.mp with grant := g } := rfl
@[simp] theorem setGrant_mem (s : State) (g : Grant) : (s.setGrant g).mem = s.mem := rfl
@[simp] theorem setGrant_free (s : State) (g : Grant) : (s.setGrant g).free = s.free := rfl
@[simp] theorem setGrant_pending (s : State) (g : Grant) : (s.setGrant g).pending = s.pending := rfl

/-! ### grantTo -/

@[simp] theorem grantTo_lines (s : State) (q : Requester) (g : Grant) : (s.grantTo q g).lines = s.lines := rfl
@[simp] theorem grantTo_cc (s : State) (q : Requester) (g : Grant) : (s.grantTo q g).cc = s.cc := rfl
@[simp] theorem grantTo_windows (s : State) (q : Requester) (g : Grant) : (s.grantTo q g).windows = s.windows := rfl
@[simp] theorem grantTo_pp (s : State) (q : Requester) (g : Grant) : (s.grantTo q g).pp = s.pp := rfl
@[simp] theorem grantTo_fp (s : State) (q : Requester) (g : Grant) : (s.grantTo q g).fp = s.fp := rfl
@[simp] theorem grantTo_ce (s : State) (q : Requester) (g : Grant) : (s.grantTo q g).ce = s.ce := rfl
@[simp] theorem grantTo_nu (s : State) (q : Requester) (g : Grant) : (s.grantTo q g).nu = s.nu := rfl
@[simp] theorem grantTo_cba (s : State) (q : Requester) (g : Grant) : (s.grantTo q g).cba = s.cba := rfl
@[simp] theorem grantTo_mp (s : State) (q : Requester) (g : Grant) :
    (s.grantTo q g).mp = { s.mp with grant := g, pointer := match s.cba.config.arbMode with | .fixed => s.mp.pointer | .rotating => q } := rfl
@[simp] theorem grantTo_mem (s : State) (q : Requester) (g : Grant) : (s.grantTo q g).mem = s.mem := rfl
@[simp] theorem grantTo_free (s : State) (q : Requester) (g : Grant) : (s.grantTo q g).free = s.free := rfl
@[simp] theorem grantTo_pending (s : State) (q : Requester) (g : Grant) : (s.grantTo q g).pending = s.pending := rfl

/-! ### setLoad -/

@[simp] theorem setLoad_lines (s : State) (l : Option StartLoad) : (s.setLoad l).lines = s.lines := rfl
@[simp] theorem setLoad_cc (s : State) (l : Option StartLoad) : (s.setLoad l).cc = s.cc := rfl
@[simp] theorem setLoad_windows (s : State) (l : Option StartLoad) : (s.setLoad l).windows = s.windows := rfl
@[simp] theorem setLoad_pp (s : State) (l : Option StartLoad) : (s.setLoad l).pp = s.pp := rfl
@[simp] theorem setLoad_fp (s : State) (l : Option StartLoad) : (s.setLoad l).fp = s.fp := rfl
@[simp] theorem setLoad_ce (s : State) (l : Option StartLoad) : (s.setLoad l).ce = s.ce := rfl
@[simp] theorem setLoad_nu (s : State) (l : Option StartLoad) : (s.setLoad l).nu = s.nu := rfl
@[simp] theorem setLoad_cba (s : State) (l : Option StartLoad) : (s.setLoad l).cba = { s.cba with load := l } := rfl
@[simp] theorem setLoad_mp (s : State) (l : Option StartLoad) : (s.setLoad l).mp = s.mp := rfl
@[simp] theorem setLoad_mem (s : State) (l : Option StartLoad) : (s.setLoad l).mem = s.mem := rfl
@[simp] theorem setLoad_free (s : State) (l : Option StartLoad) : (s.setLoad l).free = s.free := rfl
@[simp] theorem setLoad_pending (s : State) (l : Option StartLoad) : (s.setLoad l).pending = s.pending := rfl

/-! ### setFetch -/

@[simp] theorem setFetch_lines (s : State) (f : Option Fetch) : (s.setFetch f).lines = s.lines := rfl
@[simp] theorem setFetch_cc (s : State) (f : Option Fetch) : (s.setFetch f).cc = s.cc := rfl
@[simp] theorem setFetch_windows (s : State) (f : Option Fetch) : (s.setFetch f).windows = s.windows := rfl
@[simp] theorem setFetch_pp (s : State) (f : Option Fetch) : (s.setFetch f).pp = s.pp := rfl
@[simp] theorem setFetch_fp (s : State) (f : Option Fetch) : (s.setFetch f).fp = s.fp := rfl
@[simp] theorem setFetch_ce (s : State) (f : Option Fetch) : (s.setFetch f).ce = s.ce := rfl
@[simp] theorem setFetch_nu (s : State) (f : Option Fetch) : (s.setFetch f).nu = s.nu := rfl
@[simp] theorem setFetch_cba (s : State) (f : Option Fetch) : (s.setFetch f).cba = { s.cba with fetch := f } := rfl
@[simp] theorem setFetch_mp (s : State) (f : Option Fetch) : (s.setFetch f).mp = s.mp := rfl
@[simp] theorem setFetch_mem (s : State) (f : Option Fetch) : (s.setFetch f).mem = s.mem := rfl
@[simp] theorem setFetch_free (s : State) (f : Option Fetch) : (s.setFetch f).free = s.free := rfl
@[simp] theorem setFetch_pending (s : State) (f : Option Fetch) : (s.setFetch f).pending = s.pending := rfl

/-! ### clearError -/

@[simp] theorem clearError_lines (s : State) : (s.clearError).lines = s.lines := rfl
@[simp] theorem clearError_cc (s : State) : (s.clearError).cc = s.cc := rfl
@[simp] theorem clearError_windows (s : State) : (s.clearError).windows = s.windows := rfl
@[simp] theorem clearError_pp (s : State) : (s.clearError).pp = s.pp := rfl
@[simp] theorem clearError_fp (s : State) : (s.clearError).fp = s.fp := rfl
@[simp] theorem clearError_ce (s : State) : (s.clearError).ce = s.ce := rfl
@[simp] theorem clearError_nu (s : State) : (s.clearError).nu = s.nu := rfl
@[simp] theorem clearError_cba (s : State) : (s.clearError).cba = s.cba := rfl
@[simp] theorem clearError_mp (s : State) : (s.clearError).mp = { s.mp with latch := ErrorLatch.empty } := rfl
@[simp] theorem clearError_mem (s : State) : (s.clearError).mem = s.mem := rfl
@[simp] theorem clearError_free (s : State) : (s.clearError).free = s.free := rfl
@[simp] theorem clearError_pending (s : State) : (s.clearError).pending = s.pending := rfl

/-! ### softReset -/

@[simp] theorem softReset_lines (s : State) : (s.softReset).lines = s.lines := rfl
@[simp] theorem softReset_cc (s : State) :
    (s.softReset).cc = { s.cc with state := .resetting, phase := .waiting, freezeReq := false, interval := false, watchdog := false, drainSet := [] } := rfl
@[simp] theorem softReset_windows (s : State) : (s.softReset).windows = s.windows := rfl
@[simp] theorem softReset_pp (s : State) : (s.softReset).pp = s.pp := rfl
@[simp] theorem softReset_fp (s : State) : (s.softReset).fp = s.fp := rfl
@[simp] theorem softReset_ce (s : State) : (s.softReset).ce = s.ce := rfl
@[simp] theorem softReset_nu (s : State) : (s.softReset).nu = s.nu := rfl
@[simp] theorem softReset_cba (s : State) : (s.softReset).cba = s.cba := rfl
@[simp] theorem softReset_mp (s : State) : (s.softReset).mp = s.mp := rfl
@[simp] theorem softReset_mem (s : State) : (s.softReset).mem = s.mem := rfl
@[simp] theorem softReset_free (s : State) : (s.softReset).free = s.free := rfl
@[simp] theorem softReset_pending (s : State) : (s.softReset).pending = s.pending := rfl

/-! ### enter -/

@[simp] theorem enter_lines (s : State) (c : CState) : (s.enter c).lines = s.lines := rfl
@[simp] theorem enter_cc (s : State) (c : CState) : (s.enter c).cc = { s.cc with state := c } := rfl
@[simp] theorem enter_windows (s : State) (c : CState) : (s.enter c).windows = s.windows := rfl
@[simp] theorem enter_pp (s : State) (c : CState) : (s.enter c).pp = s.pp := rfl
@[simp] theorem enter_fp (s : State) (c : CState) : (s.enter c).fp = s.fp := rfl
@[simp] theorem enter_ce (s : State) (c : CState) : (s.enter c).ce = s.ce := rfl
@[simp] theorem enter_nu (s : State) (c : CState) : (s.enter c).nu = s.nu := rfl
@[simp] theorem enter_cba (s : State) (c : CState) : (s.enter c).cba = s.cba := rfl
@[simp] theorem enter_mp (s : State) (c : CState) : (s.enter c).mp = s.mp := rfl
@[simp] theorem enter_mem (s : State) (c : CState) : (s.enter c).mem = s.mem := rfl
@[simp] theorem enter_free (s : State) (c : CState) : (s.enter c).free = s.free := rfl
@[simp] theorem enter_pending (s : State) (c : CState) : (s.enter c).pending = s.pending := rfl

/-! ### freeze -/

@[simp] theorem freeze_lines (s : State) : (s.freeze).lines = s.lines := rfl
@[simp] theorem freeze_cc (s : State) :
    (s.freeze).cc = { s.cc with state := .frozen, watchdog := false, freezeReq := false } := rfl
@[simp] theorem freeze_windows (s : State) : (s.freeze).windows = s.windows := rfl
@[simp] theorem freeze_pp (s : State) : (s.freeze).pp = s.pp := rfl
@[simp] theorem freeze_fp (s : State) : (s.freeze).fp = s.fp := rfl
@[simp] theorem freeze_ce (s : State) : (s.freeze).ce = s.ce := rfl
@[simp] theorem freeze_nu (s : State) : (s.freeze).nu = s.nu := rfl
@[simp] theorem freeze_cba (s : State) : (s.freeze).cba = s.cba := rfl
@[simp] theorem freeze_mp (s : State) : (s.freeze).mp = s.mp := rfl
@[simp] theorem freeze_mem (s : State) : (s.freeze).mem = s.mem := rfl
@[simp] theorem freeze_free (s : State) : (s.freeze).free = s.free := rfl
@[simp] theorem freeze_pending (s : State) : (s.freeze).pending = s.pending := rfl

/-! ### setCyc -/

@[simp] theorem setCyc_lines (s : State) (v : Bool) : (s.setCyc v).lines = { s.lines with cyc := v } := rfl
@[simp] theorem setCyc_cc (s : State) (v : Bool) : (s.setCyc v).cc = s.cc := rfl
@[simp] theorem setCyc_windows (s : State) (v : Bool) : (s.setCyc v).windows = s.windows := rfl
@[simp] theorem setCyc_pp (s : State) (v : Bool) : (s.setCyc v).pp = s.pp := rfl
@[simp] theorem setCyc_fp (s : State) (v : Bool) : (s.setCyc v).fp = s.fp := rfl
@[simp] theorem setCyc_ce (s : State) (v : Bool) : (s.setCyc v).ce = s.ce := rfl
@[simp] theorem setCyc_nu (s : State) (v : Bool) : (s.setCyc v).nu = s.nu := rfl
@[simp] theorem setCyc_cba (s : State) (v : Bool) : (s.setCyc v).cba = s.cba := rfl
@[simp] theorem setCyc_mp (s : State) (v : Bool) : (s.setCyc v).mp = s.mp := rfl
@[simp] theorem setCyc_mem (s : State) (v : Bool) : (s.setCyc v).mem = s.mem := rfl
@[simp] theorem setCyc_free (s : State) (v : Bool) : (s.setCyc v).free = s.free := rfl
@[simp] theorem setCyc_pending (s : State) (v : Bool) : (s.setCyc v).pending = s.pending := rfl

/-! ### setAccept -/

@[simp] theorem setAccept_lines (s : State) (v : Bool) : (s.setAccept v).lines = { s.lines with accept := v } := rfl
@[simp] theorem setAccept_cc (s : State) (v : Bool) : (s.setAccept v).cc = s.cc := rfl
@[simp] theorem setAccept_windows (s : State) (v : Bool) : (s.setAccept v).windows = s.windows := rfl
@[simp] theorem setAccept_pp (s : State) (v : Bool) : (s.setAccept v).pp = s.pp := rfl
@[simp] theorem setAccept_fp (s : State) (v : Bool) : (s.setAccept v).fp = s.fp := rfl
@[simp] theorem setAccept_ce (s : State) (v : Bool) : (s.setAccept v).ce = s.ce := rfl
@[simp] theorem setAccept_nu (s : State) (v : Bool) : (s.setAccept v).nu = s.nu := rfl
@[simp] theorem setAccept_cba (s : State) (v : Bool) : (s.setAccept v).cba = s.cba := rfl
@[simp] theorem setAccept_mp (s : State) (v : Bool) : (s.setAccept v).mp = s.mp := rfl
@[simp] theorem setAccept_mem (s : State) (v : Bool) : (s.setAccept v).mem = s.mem := rfl
@[simp] theorem setAccept_free (s : State) (v : Bool) : (s.setAccept v).free = s.free := rfl
@[simp] theorem setAccept_pending (s : State) (v : Bool) : (s.setAccept v).pending = s.pending := rfl

end Sys2Proof.Laws
end

