-- ==== Sys2Proof/Laws/Memory.lean ====
section
/-! SUPPORT. Image memory: what a read gives after a write, and that every memory operation keeps the
canonical form. -/

namespace Sys2Proof.Laws

open Sys2Proof.Machine
open Sys2Proof.Machine.State

/-! ## Bytes -/

/-- An address below every entry is not listed. -/
theorem readByte_below {lo : Nat} {m : Memory} (h : Memory.wfFrom lo m = true) {a : Nat} (ha : a < lo) :
    m.readByte a = Memory.blank := by
  induction m generalizing lo with
  | nil => rfl
  | cons e m ih =>
    obtain ⟨b, v⟩ := e
    simp only [Memory.wfFrom, Bool.and_eq_true, decide_eq_true_eq] at h
    have hb : a ≠ b := by omega
    simp only [Memory.readByte, if_neg hb]
    exact ih h.2 (by omega)

/-- The canonical form from a bound holds from every lower bound. -/
theorem wfFrom_mono {lo lo' : Nat} {m : Memory} (h : Memory.wfFrom lo m = true) (hl : lo' ≤ lo) :
    Memory.wfFrom lo' m = true := by
  cases m with
  | nil => rfl
  | cons e m =>
    obtain ⟨b, v⟩ := e
    simp only [Memory.wfFrom, Bool.and_eq_true, decide_eq_true_eq] at h ⊢
    exact ⟨⟨by omega, h.1.2⟩, h.2⟩

/-- A byte write keeps the canonical form. -/
theorem wfFrom_writeByte {lo : Nat} {m : Memory} (h : Memory.wfFrom lo m = true) {a : Nat} (v : Byte) (ha : lo ≤ a) :
    Memory.wfFrom lo (m.writeByte a v) = true := by
  induction m generalizing lo with
  | nil => unfold Memory.writeByte; split <;> simp_all [Memory.wfFrom]
  | cons e m ih =>
    obtain ⟨b, u⟩ := e
    simp only [Memory.wfFrom, Bool.and_eq_true, decide_eq_true_eq] at h
    unfold Memory.writeByte
    split
    · rename_i hab
      split
      · simp [Memory.wfFrom, h]
      · rename_i hv
        simp only [Memory.wfFrom, Bool.and_eq_true, decide_eq_true_eq, bne_iff_ne, ne_eq]
        exact ⟨⟨ha, hv⟩, ⟨by omega, by simpa using h.1.2⟩, h.2⟩
    · split
      · rename_i hab
        split
        · exact wfFrom_mono h.2 (by omega)
        · rename_i hv
          simp only [Memory.wfFrom, Bool.and_eq_true, decide_eq_true_eq, bne_iff_ne, ne_eq]
          exact ⟨⟨ha, hv⟩, by subst hab; exact h.2⟩
      · simp only [Memory.wfFrom, Bool.and_eq_true, decide_eq_true_eq]
        exact ⟨h.1, ih h.2 (by omega)⟩

/-- A byte write keeps the canonical form of a whole memory. -/
theorem wf_writeByte {m : Memory} (h : m.wf = true) (a : Nat) (v : Byte) : (m.writeByte a v).wf = true :=
  wfFrom_writeByte h v (Nat.zero_le a)

/-- What a byte read gives after a byte write. -/
theorem readByte_writeByteFrom {lo : Nat} {m : Memory} (h : Memory.wfFrom lo m = true) (a : Nat) (v : Byte) (b : Nat) :
    (m.writeByte a v).readByte b = if b = a then v else m.readByte b := by
  induction m generalizing lo with
  | nil =>
    unfold Memory.writeByte
    split <;> rename_i hv <;> by_cases hb : b = a <;> simp [Memory.readByte, hb, hv]
  | cons e m ih =>
    obtain ⟨c, u⟩ := e
    simp only [Memory.wfFrom, Bool.and_eq_true, decide_eq_true_eq] at h
    unfold Memory.writeByte
    split
    · rename_i hac
      have hn : Memory.readByte ((c, u) :: m) a = Memory.blank :=
        readByte_below (lo := c) (by
          simp only [Memory.wfFrom, Bool.and_eq_true, decide_eq_true_eq]
          exact ⟨⟨Nat.le_refl c, h.1.2⟩, h.2⟩) hac
      split
      · rename_i hv
        by_cases hb : b = a
        · subst hb; simp [hn, hv]
        · simp [hb]
      · by_cases hb : b = a <;> simp [Memory.readByte, hb]
    · split
      · rename_i hac
        subst hac
        split
        · rename_i hv
          by_cases hb : b = a
          · subst hb
            simp only [if_true, hv]
            exact readByte_below h.2 (Nat.lt_succ_self _)
          · simp [Memory.readByte, hb]
        · by_cases hb : b = a <;> simp [Memory.readByte, hb]
      · rename_i h1 h2
        simp only [Memory.readByte]
        by_cases hb : b = c
        · subst hb; simp [Ne.symm h2]
        · simp only [if_neg hb]; exact ih h.2

/-- What a byte read gives after a byte write. -/
theorem readByte_writeByte {m : Memory} (h : m.wf = true) (a : Nat) (v : Byte) (b : Nat) :
    (m.writeByte a v).readByte b = if b = a then v else m.readByte b := readByte_writeByteFrom h a v b

/-! ## Words -/

/-- A lane write keeps the canonical form. -/
theorem wf_writeLane {m : Memory} (h : m.wf = true) (a : Nat) (be : Lanes) (d : Word) (i : Nat) :
    (Memory.writeLane a be d m i).wf = true := by
  unfold Memory.writeLane; split
  · exact wf_writeByte h _ _
  · exact h

/-- A word write keeps the canonical form. -/
theorem wf_writeWord {m : Memory} (h : m.wf = true) (a : Nat) (be : Lanes) (d : Word) : (m.writeWord a be d).wf = true := by
  simp only [Memory.writeWord, List.foldl]
  exact wf_writeLane (wf_writeLane (wf_writeLane (wf_writeLane h ..) ..) ..) ..

/-- What a byte read gives after a lane write. -/
theorem readByte_writeLane {m : Memory} (h : m.wf = true) (a : Nat) (be : Lanes) (d : Word) (i b : Nat) :
    (Memory.writeLane a be d m i).readByte b = if be.getLsbD i ∧ b = a + i then lane d i else m.readByte b := by
  unfold Memory.writeLane
  split
  · rename_i hb; simp [readByte_writeByte h, hb]
  · rename_i hb; simp [hb]

/-- A byte outside the word written reads as before. -/
theorem readByte_writeWord_outside {m : Memory} (h : m.wf = true) (a : Nat) (be : Lanes) (d : Word) {b : Nat}
    (hb : b < a ∨ a + 4 ≤ b) : (m.writeWord a be d).readByte b = m.readByte b := by
  simp only [Memory.writeWord, List.foldl]
  have w0 := wf_writeLane h a be d 0
  have w1 := wf_writeLane w0 a be d 1
  have w2 := wf_writeLane w1 a be d 2
  rw [readByte_writeLane w2, readByte_writeLane w1, readByte_writeLane w0, readByte_writeLane h]
  have h0 : b ≠ a + 0 := by omega
  have h1 : b ≠ a + 1 := by omega
  have h2 : b ≠ a + 2 := by omega
  have h3 : b ≠ a + 3 := by omega
  simp [h1, h2, h3, show b ≠ a by omega]

/-- Lane `i` of the word written reads as the lane written where enabled, and as before elsewhere. -/
theorem readByte_writeWord_lane {m : Memory} (h : m.wf = true) (a : Nat) (be : Lanes) (d : Word) {i : Nat} (hi : i < 4) :
    (m.writeWord a be d).readByte (a + i) = if be.getLsbD i then lane d i else m.readByte (a + i) := by
  simp only [Memory.writeWord, List.foldl]
  have w0 := wf_writeLane h a be d 0
  have w1 := wf_writeLane w0 a be d 1
  have w2 := wf_writeLane w1 a be d 2
  rw [readByte_writeLane w2, readByte_writeLane w1, readByte_writeLane w0, readByte_writeLane h]
  have : i = 0 ∨ i = 1 ∨ i = 2 ∨ i = 3 := by omega
  rcases this with rfl | rfl | rfl | rfl <;> simp

/-- The four lanes of a word make it up. -/
theorem lanes_join (d : Word) : lane d 3 ++ lane d 2 ++ lane d 1 ++ lane d 0 = d := by
  apply BitVec.eq_of_getLsbD_eq
  intro i hi
  simp only [BitVec.getLsbD_append, lane, BitVec.getLsbD_extractLsb']
  by_cases h0 : i < 8
  · simp [h0]
  · by_cases h1 : i < 16
    · simp [h0, show i - 8 < 8 by omega, show 8 + (i - 8) = i by omega]
    · by_cases h2 : i < 24
      · simp [h0, show ¬i - 8 < 8 by omega, show i - 16 < 8 by omega, show 16 + (i - 16) = i by omega, Nat.sub_sub]
      · simp [h0, show ¬i - 8 < 8 by omega, show ¬i - 16 < 8 by omega, show i - 24 < 8 by omega,
          show 24 + (i - 24) = i by omega, Nat.sub_sub]

/-- A word written with all four enables reads back. -/
theorem readWord_writeWord {m : Memory} (h : m.wf = true) (a : Nat) (d : Word) : (m.writeWord a 0xF d).readWord a = d := by
  have e0 : (m.writeWord a 0xF d).readByte a = lane d 0 := by
    simpa using readByte_writeWord_lane h a 0xF d (i := 0) (by omega)
  have e1 : (m.writeWord a 0xF d).readByte (a + 1) = lane d 1 := by
    simpa using readByte_writeWord_lane h a 0xF d (i := 1) (by omega)
  have e2 : (m.writeWord a 0xF d).readByte (a + 2) = lane d 2 := by
    simpa using readByte_writeWord_lane h a 0xF d (i := 2) (by omega)
  have e3 : (m.writeWord a 0xF d).readByte (a + 3) = lane d 3 := by
    simpa using readByte_writeWord_lane h a 0xF d (i := 3) (by omega)
  rw [Memory.readWord, e0, e1, e2, e3, lanes_join]

/-! ## The M port -/

/-- A normal write changes memory alone. -/
@[simp] theorem memWrite_keeps (s : State) (a : Addr) (be : Lanes) (d : Word) :
    (s.memWrite a be d).lines = s.lines ∧ (s.memWrite a be d).cc = s.cc ∧ (s.memWrite a be d).windows = s.windows ∧
    (s.memWrite a be d).pp = s.pp ∧ (s.memWrite a be d).fp = s.fp ∧ (s.memWrite a be d).ce = s.ce ∧
    (s.memWrite a be d).nu = s.nu ∧ (s.memWrite a be d).cba = s.cba ∧ (s.memWrite a be d).mp = s.mp ∧
    (s.memWrite a be d).free = s.free ∧ (s.memWrite a be d).pending = s.pending := by
  unfold State.memWrite; split <;> simp

/-- A failed write changes memory and the counter of free values alone. -/
@[simp] theorem memFail_keeps (s : State) (a : Addr) (be : Lanes) :
    (s.memFail a be).lines = s.lines ∧ (s.memFail a be).cc = s.cc ∧ (s.memFail a be).windows = s.windows ∧
    (s.memFail a be).pp = s.pp ∧ (s.memFail a be).fp = s.fp ∧ (s.memFail a be).ce = s.ce ∧
    (s.memFail a be).nu = s.nu ∧ (s.memFail a be).cba = s.cba ∧ (s.memFail a be).mp = s.mp ∧
    (s.memFail a be).free = s.free + 1 ∧ (s.memFail a be).pending = s.pending := by
  simp [State.memFail]

/-- A failed write writes some word, of which nothing is known. -/
@[simp] theorem memFail_mem (s : State) (a : Addr) (be : Lanes) :
    (s.memFail a be).mem = (s.memWrite a be (Config.failedWrite s.free)).mem := rfl

/-- An answered write changes memory and the counter of free values alone. -/
@[simp] theorem memAnswered_keeps (r : Resp) (s : State) (a : Addr) (be : Lanes) (d : Word) :
    (State.memAnswered r s a be d).lines = s.lines ∧ (State.memAnswered r s a be d).cc = s.cc ∧
    (State.memAnswered r s a be d).windows = s.windows ∧ (State.memAnswered r s a be d).pp = s.pp ∧
    (State.memAnswered r s a be d).fp = s.fp ∧ (State.memAnswered r s a be d).ce = s.ce ∧
    (State.memAnswered r s a be d).nu = s.nu ∧ (State.memAnswered r s a be d).cba = s.cba ∧
    (State.memAnswered r s a be d).mp = s.mp ∧ (State.memAnswered r s a be d).pending = s.pending := by
  cases r <;> simp [State.memAnswered]

/-- A normal write keeps the canonical form. -/
theorem wf_memWrite {s : State} (h : s.mem.wf = true) (a : Addr) (be : Lanes) (d : Word) : (s.memWrite a be d).mem.wf = true := by
  unfold State.memWrite; split
  · exact wf_writeWord h _ _ _
  · exact h

/-- A failed write keeps the canonical form. -/
theorem wf_memFail {s : State} (h : s.mem.wf = true) (a : Addr) (be : Lanes) : (s.memFail a be).mem.wf = true := by
  rw [memFail_mem]; exact wf_memWrite h _ _ _

/-- An answered write keeps the canonical form. -/
theorem wf_memAnswered {s : State} (r : Resp) (h : s.mem.wf = true) (a : Addr) (be : Lanes) (d : Word) :
    (State.memAnswered r s a be d).mem.wf = true := by
  cases r
  · exact wf_memWrite h _ _ _
  · exact wf_memFail h _ _

/-- A byte outside the word reads as before a normal write. -/
theorem readByte_memWrite_outside {s : State} (h : s.mem.wf = true) (a : Addr) (be : Lanes) (d : Word) {b : Nat}
    (hb : b < a.toNat ∨ a.toNat + 4 ≤ b) : (s.memWrite a be d).mem.readByte b = s.mem.readByte b := by
  unfold State.memWrite; split
  · exact readByte_writeWord_outside h _ _ _ hb
  · rfl

/-- A byte outside the word reads as before an answered write. -/
theorem readByte_memAnswered_outside {s : State} (r : Resp) (h : s.mem.wf = true) (a : Addr) (be : Lanes) (d : Word) {b : Nat}
    (hb : b < a.toNat ∨ a.toNat + 4 ≤ b) : (State.memAnswered r s a be d).mem.readByte b = s.mem.readByte b := by
  cases r
  · exact readByte_memWrite_outside h _ _ _ hb
  · exact readByte_memWrite_outside h _ _ _ hb

end Sys2Proof.Laws
end

