-- ==== Sys2Proof/Laws/Ops.lean ====
section
/-! SUPPORT. What the shared operations of Machine/Flags.lean and Machine/Ops.lean change and what they keep:
for each, one lemma lists every part of the state it leaves as it was, and one gives every window's record
after it. -/

namespace Sys2Proof.Laws

open Sys2Proof.Machine
open Sys2Proof.Machine.State

/-! ## Window records -/

/-- The records after one is replaced. -/
@[simp] theorem win_setWin (s : State) (w : Win) (x : Window) (v : Win) :
    (s.setWin w x).win v = if v = w then x else s.win v := by
  simp only [State.win, State.setWin]
  by_cases h : v = w
  · subst h; simp
  · have h' : w.val ≠ v.val := fun e => h (Fin.ext e.symm)
    simp [h, h']

/-- The records after one is changed. -/
@[simp] theorem win_modWin (s : State) (w : Win) (f : Window → Window) (v : Win) :
    (s.modWin w f).win v = if v = w then f (s.win w) else s.win v := by
  simp only [State.modWin, win_setWin]

/-- A record depends on the vector of windows alone. -/
theorem win_congr {s t : State} (h : t.windows = s.windows) (v : Win) : t.win v = s.win v := by
  simp only [State.win, h]

/-- Equal records are equal vectors. -/
theorem windows_ext {s t : State} (h : ∀ v, t.win v = s.win v) : t.windows = s.windows := by
  apply Vector.ext
  intro i hi
  exact h ⟨i, hi⟩

/-- What a fold keeps, step by step. -/
theorem foldl_keeps {α : Type} (p : State → α) (f : State → Win → State) (h : ∀ s w, p (f s w) = p s) (l : List Win) (s : State) :
    p (l.foldl f s) = p s := by
  induction l generalizing s with
  | nil => rfl
  | cons w l ih => rw [List.foldl_cons, ih, h]

/-- A property that every step of a fold keeps. -/
theorem foldl_induct {P : State → Prop} (f : State → Win → State) (h : ∀ s w, P s → P (f s w)) (l : List Win) {s : State}
    (hs : P s) : P (l.foldl f s) := by
  induction l generalizing s with
  | nil => exact hs
  | cons w l ih => exact ih (h s w hs)

/-- The records after all of a list have been changed alike. -/
theorem win_foldl_list (g : Window → Window) (l : List Win) (hl : l.Nodup) (s : State) (v : Win) :
    (l.foldl (fun t w => t.modWin w g) s).win v = if v ∈ l then g (s.win v) else s.win v := by
  induction l generalizing s with
  | nil => rfl
  | cons w l ih =>
    rw [List.nodup_cons] at hl
    rw [List.foldl_cons, ih hl.2]
    by_cases hv : v ∈ l
    · have : v ≠ w := fun e => hl.1 (e ▸ hv)
      simp [hv, this]
    · by_cases hw : v = w
      · subst hw; simp [hv]
      · simp [hv, hw]

/-- Every window is listed. -/
theorem mem_allWindows (v : Win) : v ∈ allWindows := by revert v; decide

/-- No window is listed twice. -/
theorem nodup_allWindows : allWindows.Nodup := by decide

/-- The records after all sixteen have been changed alike. -/
@[simp] theorem win_foldl_modWin (g : Window → Window) (s : State) (v : Win) :
    (allWindows.foldl (fun t w => t.modWin w g) s).win v = g (s.win v) := by
  rw [win_foldl_list g _ nodup_allWindows, if_pos (mem_allWindows v)]

/-- Changing records one by one changes nothing else. -/
theorem foldl_list_keeps (g : Window → Window) (l : List Win) (s : State) :
    (l.foldl (fun t w => t.modWin w g) s).lines = s.lines ∧
    (l.foldl (fun t w => t.modWin w g) s).cc = s.cc ∧
    (l.foldl (fun t w => t.modWin w g) s).pp = s.pp ∧
    (l.foldl (fun t w => t.modWin w g) s).fp = s.fp ∧
    (l.foldl (fun t w => t.modWin w g) s).ce = s.ce ∧
    (l.foldl (fun t w => t.modWin w g) s).nu = s.nu ∧
    (l.foldl (fun t w => t.modWin w g) s).cba = s.cba ∧
    (l.foldl (fun t w => t.modWin w g) s).mp = s.mp ∧
    (l.foldl (fun t w => t.modWin w g) s).mem = s.mem ∧
    (l.foldl (fun t w => t.modWin w g) s).free = s.free ∧
    (l.foldl (fun t w => t.modWin w g) s).pending = s.pending := by
  induction l generalizing s with
  | nil => simp
  | cons w l ih => simpa using ih (s.modWin w g)

/-- Changing all sixteen records changes nothing else. -/
@[simp] theorem foldl_modWin_keeps (g : Window → Window) (s : State) :
    (allWindows.foldl (fun t w => t.modWin w g) s).lines = s.lines ∧
    (allWindows.foldl (fun t w => t.modWin w g) s).cc = s.cc ∧
    (allWindows.foldl (fun t w => t.modWin w g) s).pp = s.pp ∧
    (allWindows.foldl (fun t w => t.modWin w g) s).fp = s.fp ∧
    (allWindows.foldl (fun t w => t.modWin w g) s).ce = s.ce ∧
    (allWindows.foldl (fun t w => t.modWin w g) s).nu = s.nu ∧
    (allWindows.foldl (fun t w => t.modWin w g) s).cba = s.cba ∧
    (allWindows.foldl (fun t w => t.modWin w g) s).mp = s.mp ∧
    (allWindows.foldl (fun t w => t.modWin w g) s).mem = s.mem ∧
    (allWindows.foldl (fun t w => t.modWin w g) s).free = s.free ∧
    (allWindows.foldl (fun t w => t.modWin w g) s).pending = s.pending :=
  foldl_list_keeps g allWindows s

/-! ## Flags -/

/-- A record that becomes dirty changes the dirty set alone. -/
@[simp] theorem touch_keeps (s : State) (r : RecName) :
    (s.touch r).lines = s.lines ∧ (s.touch r).cc = s.cc ∧ (s.touch r).windows = s.windows ∧ (s.touch r).pp = s.pp ∧
    (s.touch r).fp = s.fp ∧ (s.touch r).ce = s.ce ∧ (s.touch r).nu = s.nu ∧ (s.touch r).mp = s.mp ∧
    (s.touch r).mem = s.mem ∧ (s.touch r).free = s.free ∧ (s.touch r).pending = s.pending ∧
    (s.touch r).cba.result = s.cba.result ∧ (s.touch r).cba.writeback = s.cba.writeback ∧
    (s.touch r).cba.request = s.cba.request ∧ (s.touch r).cba.turn = s.cba.turn ∧
    (s.touch r).cba.causes = s.cba.causes ∧ (s.touch r).cba.published = s.cba.published ∧
    (s.touch r).cba.config = s.cba.config ∧ (s.touch r).cba.load = s.cba.load ∧
    (s.touch r).cba.loadQueue = s.cba.loadQueue ∧ (s.touch r).cba.fetch = s.cba.fetch := by
  unfold State.touch; split <;> simp

/-- Records are not changed by becoming dirty. -/
@[simp] theorem win_touch (s : State) (r : RecName) (v : Win) :
    (s.touch r).win v = s.win v := win_congr (by simp) v

/-- Recording a cause flag changes the flags and the dirty set. -/
@[simp] theorem record_keeps (s : State) (c : Cause) :
    (s.record c).lines = s.lines ∧ (s.record c).cc = s.cc ∧ (s.record c).windows = s.windows ∧
    (s.record c).pp = s.pp ∧ (s.record c).fp = s.fp ∧ (s.record c).ce = s.ce ∧ (s.record c).nu = s.nu ∧
    (s.record c).mp = s.mp ∧ (s.record c).mem = s.mem ∧ (s.record c).free = s.free ∧
    (s.record c).pending = s.pending ∧ (s.record c).cba.result = s.cba.result ∧
    (s.record c).cba.writeback = s.cba.writeback ∧ (s.record c).cba.request = s.cba.request ∧
    (s.record c).cba.turn = s.cba.turn ∧ (s.record c).cba.published = s.cba.published ∧
    (s.record c).cba.config = s.cba.config ∧ (s.record c).cba.load = s.cba.load ∧
    (s.record c).cba.loadQueue = s.cba.loadQueue ∧ (s.record c).cba.fetch = s.cba.fetch := by
  simp [State.record]

/-- The flag is set, and no other changes (R157). -/
@[simp] theorem record_causes (s : State) (c : Cause) : (s.record c).cba.causes = s.cba.causes ||| c.mask := by
  simp [State.record]

/-- Recording a cause flag changes no record. -/
@[simp] theorem win_record (s : State) (c : Cause) (v : Win) :
    (s.record c).win v = s.win v := win_congr (by simp) v

/-- As recording a cause flag. -/
@[simp] theorem recordCauseOf_keeps (s : State) (e : WEvent) :
    (s.recordCauseOf e).lines = s.lines ∧ (s.recordCauseOf e).cc = s.cc ∧ (s.recordCauseOf e).windows = s.windows ∧
    (s.recordCauseOf e).pp = s.pp ∧ (s.recordCauseOf e).fp = s.fp ∧ (s.recordCauseOf e).ce = s.ce ∧
    (s.recordCauseOf e).nu = s.nu ∧ (s.recordCauseOf e).mp = s.mp ∧ (s.recordCauseOf e).mem = s.mem ∧
    (s.recordCauseOf e).free = s.free ∧ (s.recordCauseOf e).pending = s.pending ∧
    (s.recordCauseOf e).cba.result = s.cba.result ∧ (s.recordCauseOf e).cba.writeback = s.cba.writeback ∧
    (s.recordCauseOf e).cba.request = s.cba.request ∧ (s.recordCauseOf e).cba.turn = s.cba.turn ∧
    (s.recordCauseOf e).cba.published = s.cba.published ∧ (s.recordCauseOf e).cba.config = s.cba.config ∧
    (s.recordCauseOf e).cba.load = s.cba.load ∧ (s.recordCauseOf e).cba.loadQueue = s.cba.loadQueue ∧
    (s.recordCauseOf e).cba.fetch = s.cba.fetch := by
  unfold State.recordCauseOf; split <;> simp

/-- As recording a cause flag. -/
@[simp] theorem win_recordCauseOf (s : State) (e : WEvent) (v : Win) :
    (s.recordCauseOf e).win v = s.win v := win_congr (by simp) v

/-- Recording a window event changes records, flags and the dirty set. -/
@[simp] theorem event_keeps (s : State) (w : Win) (e : WEvent) :
    (s.event w e).lines = s.lines ∧ (s.event w e).cc = s.cc ∧ (s.event w e).pp = s.pp ∧ (s.event w e).fp = s.fp ∧
    (s.event w e).ce = s.ce ∧ (s.event w e).nu = s.nu ∧ (s.event w e).mp = s.mp ∧ (s.event w e).mem = s.mem ∧
    (s.event w e).free = s.free ∧ (s.event w e).pending = s.pending ∧ (s.event w e).cba.result = s.cba.result ∧
    (s.event w e).cba.writeback = s.cba.writeback ∧ (s.event w e).cba.request = s.cba.request ∧
    (s.event w e).cba.turn = s.cba.turn ∧ (s.event w e).cba.published = s.cba.published ∧
    (s.event w e).cba.config = s.cba.config ∧ (s.event w e).cba.load = s.cba.load ∧
    (s.event w e).cba.loadQueue = s.cba.loadQueue ∧ (s.event w e).cba.fetch = s.cba.fetch := by
  simp [State.event]

/-- The event flag is set in its window (R157). -/
@[simp] theorem win_event (s : State) (w : Win) (e : WEvent) (v : Win) :
    (s.event w e).win v = if v = w then { s.win w with events := (s.win w).events ||| e.mask } else s.win v := by simp [State.event]

/-- The cause flag of the same name is set, where there is one (R157). -/
theorem event_causes (s : State) (w : Win) (e : WEvent) :
    (s.event w e).cba.causes = match e.cause with
      | some c => s.cba.causes ||| c.mask
      | none => s.cba.causes := by
  simp only [State.event, State.recordCauseOf]
  cases e.cause <;> simp

/-- A memory error changes the latch, the flags and the dirty set. -/
@[simp] theorem latchError_keeps (s : State) (q : ErrSource) (d : Dir) (a : Addr) :
    (s.latchError q d a).lines = s.lines ∧ (s.latchError q d a).cc = s.cc ∧
    (s.latchError q d a).windows = s.windows ∧ (s.latchError q d a).pp = s.pp ∧ (s.latchError q d a).fp = s.fp ∧
    (s.latchError q d a).ce = s.ce ∧ (s.latchError q d a).nu = s.nu ∧ (s.latchError q d a).mem = s.mem ∧
    (s.latchError q d a).free = s.free ∧ (s.latchError q d a).pending = s.pending ∧
    (s.latchError q d a).cba.result = s.cba.result ∧ (s.latchError q d a).cba.writeback = s.cba.writeback ∧
    (s.latchError q d a).cba.request = s.cba.request ∧ (s.latchError q d a).cba.turn = s.cba.turn ∧
    (s.latchError q d a).cba.published = s.cba.published ∧ (s.latchError q d a).cba.config = s.cba.config ∧
    (s.latchError q d a).cba.load = s.cba.load ∧ (s.latchError q d a).cba.loadQueue = s.cba.loadQueue ∧
    (s.latchError q d a).cba.fetch = s.cba.fetch ∧ (s.latchError q d a).mp.grant = s.mp.grant ∧
    (s.latchError q d a).mp.pointer = s.mp.pointer := by
  simp [State.latchError]

/-- The latch after a memory error: filled, or MULTIPLE set (R148). -/
theorem latchError_latch (s : State) (q : ErrSource) (d : Dir) (a : Addr) :
    (s.latchError q d a).mp.latch =
      if s.mp.latch.valid then { s.mp.latch with multiple := true }
      else { valid := true, addr := a, source := some q, dir := d, multiple := false } := by
  simp [State.latchError]

/-- MEMERR is recorded by every memory error (R147). -/
@[simp] theorem latchError_causes (s : State) (q : ErrSource) (d : Dir) (a : Addr) :
    (s.latchError q d a).cba.causes = s.cba.causes ||| Cause.memerr.mask := by
  simp [State.latchError]

/-- A memory error changes no record by itself. -/
@[simp] theorem win_latchError (s : State) (q : ErrSource) (d : Dir) (a : Addr) (v : Win) :
    (s.latchError q d a).win v = s.win v := win_congr (by simp) v

/-- As a memory error, or nothing. -/
@[simp] theorem latchAnswer_keeps (r : Resp) (s : State) (q : ErrSource) (d : Dir) (a : Addr) :
    (State.latchAnswer r s q d a).lines = s.lines ∧ (State.latchAnswer r s q d a).cc = s.cc ∧
    (State.latchAnswer r s q d a).windows = s.windows ∧ (State.latchAnswer r s q d a).pp = s.pp ∧
    (State.latchAnswer r s q d a).fp = s.fp ∧ (State.latchAnswer r s q d a).ce = s.ce ∧
    (State.latchAnswer r s q d a).nu = s.nu ∧ (State.latchAnswer r s q d a).mem = s.mem ∧
    (State.latchAnswer r s q d a).free = s.free ∧ (State.latchAnswer r s q d a).pending = s.pending ∧
    (State.latchAnswer r s q d a).cba.result = s.cba.result ∧
    (State.latchAnswer r s q d a).cba.writeback = s.cba.writeback ∧
    (State.latchAnswer r s q d a).cba.request = s.cba.request ∧
    (State.latchAnswer r s q d a).cba.turn = s.cba.turn ∧
    (State.latchAnswer r s q d a).cba.published = s.cba.published ∧
    (State.latchAnswer r s q d a).cba.config = s.cba.config ∧ (State.latchAnswer r s q d a).cba.load = s.cba.load ∧
    (State.latchAnswer r s q d a).cba.loadQueue = s.cba.loadQueue ∧
    (State.latchAnswer r s q d a).cba.fetch = s.cba.fetch ∧ (State.latchAnswer r s q d a).mp.grant = s.mp.grant ∧
    (State.latchAnswer r s q d a).mp.pointer = s.mp.pointer := by
  cases r <;> simp [State.latchAnswer]

/-- The answer to a transaction changes no record by itself. -/
@[simp] theorem win_latchAnswer (r : Resp) (s : State) (q : ErrSource) (d : Dir) (a : Addr) (v : Win) :
    (State.latchAnswer r s q d a).win v = s.win v := win_congr (by simp) v

/-- A read-clear changes flags, published sets and the dirty set. -/
@[simp] theorem clearPublished_keeps (s : State) (r : RecName) :
    (s.clearPublished r).lines = s.lines ∧ (s.clearPublished r).cc = s.cc ∧ (s.clearPublished r).pp = s.pp ∧
    (s.clearPublished r).fp = s.fp ∧ (s.clearPublished r).ce = s.ce ∧ (s.clearPublished r).nu = s.nu ∧
    (s.clearPublished r).mp = s.mp ∧ (s.clearPublished r).mem = s.mem ∧ (s.clearPublished r).free = s.free ∧
    (s.clearPublished r).pending = s.pending ∧ (s.clearPublished r).cba.result = s.cba.result ∧
    (s.clearPublished r).cba.writeback = s.cba.writeback ∧ (s.clearPublished r).cba.request = s.cba.request ∧
    (s.clearPublished r).cba.turn = s.cba.turn ∧ (s.clearPublished r).cba.config = s.cba.config ∧
    (s.clearPublished r).cba.load = s.cba.load ∧ (s.clearPublished r).cba.loadQueue = s.cba.loadQueue ∧
    (s.clearPublished r).cba.fetch = s.cba.fetch := by
  cases r <;> simp [State.clearPublished]

/-- A read-clear of a window's word 3 clears its published flags (R158). -/
theorem win_clearPublished (s : State) (r : RecName) (v : Win) :
    (s.clearPublished r).win v =
      if r = .win v then { s.win v with events := (s.win v).events &&& ~~~(s.win v).published, published := 0 } else s.win v := by
  cases r with
  | global => simp only [State.clearPublished, win_touch, reduceCtorEq, if_false]; rfl
  | result => simp [State.clearPublished]
  | win w =>
    by_cases h : v = w
    · subst h; simp [State.clearPublished]
    · simp [State.clearPublished, h, Ne.symm h]

/-! ## Drops, wait sets, the drain set -/

/-- A drop changes its window's record and the dirty set. -/
@[simp] theorem drop_keeps (s : State) (w : Win) :
    (s.drop w).lines = s.lines ∧ (s.drop w).cc = s.cc ∧ (s.drop w).pp = s.pp ∧ (s.drop w).fp = s.fp ∧
    (s.drop w).ce = s.ce ∧ (s.drop w).nu = s.nu ∧ (s.drop w).mp = s.mp ∧ (s.drop w).mem = s.mem ∧
    (s.drop w).free = s.free ∧ (s.drop w).pending = s.pending ∧ (s.drop w).cba.result = s.cba.result ∧
    (s.drop w).cba.writeback = s.cba.writeback ∧ (s.drop w).cba.request = s.cba.request ∧
    (s.drop w).cba.turn = s.cba.turn ∧ (s.drop w).cba.causes = s.cba.causes ∧
    (s.drop w).cba.published = s.cba.published ∧ (s.drop w).cba.config = s.cba.config ∧
    (s.drop w).cba.load = s.cba.load ∧ (s.drop w).cba.loadQueue = s.cba.loadQueue ∧
    (s.drop w).cba.fetch = s.cba.fetch := by
  simp [State.drop]

/-- A drop increments DROPS. -/
@[simp] theorem win_drop (s : State) (w : Win) (v : Win) :
    (s.drop w).win v = if v = w then { s.win w with drops := satInc8 (s.win w).drops } else s.win v := by simp [State.drop]

/-- A drop with its event changes its window's record, flags and the dirty set. -/
@[simp] theorem dropEvent_keeps (s : State) (w : Win) (e : WEvent) :
    (s.dropEvent w e).lines = s.lines ∧ (s.dropEvent w e).cc = s.cc ∧ (s.dropEvent w e).pp = s.pp ∧
    (s.dropEvent w e).fp = s.fp ∧ (s.dropEvent w e).ce = s.ce ∧ (s.dropEvent w e).nu = s.nu ∧
    (s.dropEvent w e).mp = s.mp ∧ (s.dropEvent w e).mem = s.mem ∧ (s.dropEvent w e).free = s.free ∧
    (s.dropEvent w e).pending = s.pending ∧ (s.dropEvent w e).cba.result = s.cba.result ∧
    (s.dropEvent w e).cba.writeback = s.cba.writeback ∧ (s.dropEvent w e).cba.request = s.cba.request ∧
    (s.dropEvent w e).cba.turn = s.cba.turn ∧ (s.dropEvent w e).cba.published = s.cba.published ∧
    (s.dropEvent w e).cba.config = s.cba.config ∧ (s.dropEvent w e).cba.load = s.cba.load ∧
    (s.dropEvent w e).cba.loadQueue = s.cba.loadQueue ∧ (s.dropEvent w e).cba.fetch = s.cba.fetch := by
  simp [State.dropEvent]

/-- A drop with its event increments DROPS and sets the event flag. -/
@[simp] theorem win_dropEvent (s : State) (w : Win) (e : WEvent) (v : Win) :
    (s.dropEvent w e).win v = if v = w then { s.win w with drops := satInc8 (s.win w).drops, events := (s.win w).events ||| e.mask } else s.win v := by
  by_cases h : v = w <;> simp [State.dropEvent, h]

/-- A member leaving the wait sets changes records alone. -/
@[simp] theorem leaveWait_keeps (s : State) (m : WaitMember) :
    (s.leaveWait m).lines = s.lines ∧ (s.leaveWait m).cc = s.cc ∧ (s.leaveWait m).pp = s.pp ∧
    (s.leaveWait m).fp = s.fp ∧ (s.leaveWait m).ce = s.ce ∧ (s.leaveWait m).nu = s.nu ∧ (s.leaveWait m).mp = s.mp ∧
    (s.leaveWait m).mem = s.mem ∧ (s.leaveWait m).free = s.free ∧ (s.leaveWait m).pending = s.pending ∧
    (s.leaveWait m).cba = s.cba := by
  simp [State.leaveWait]

/-- The member leaves every wait set (R14). -/
@[simp] theorem win_leaveWait (s : State) (m : WaitMember) (v : Win) :
    (s.leaveWait m).win v = { s.win v with waitSet := (s.win v).waitSet.erase m } := by simp [State.leaveWait]

/-- `leaveDrain` changes no record. -/
@[simp] theorem win_leaveDrain (s : State) (m : DrainMember) (v : Win) : (s.leaveDrain m).win v = s.win v := rfl

/-- The end of a P access empties the current access, and changes wait sets and the drain set. -/
@[simp] theorem endP_keeps (s : State) :
    (s.endP).lines = s.lines ∧ (s.endP).fp = s.fp ∧ (s.endP).ce = s.ce ∧ (s.endP).nu = s.nu ∧ (s.endP).mp = s.mp ∧
    (s.endP).mem = s.mem ∧ (s.endP).free = s.free ∧ (s.endP).pending = s.pending ∧ (s.endP).cba = s.cba ∧
    (s.endP).pp.pwq = s.pp.pwq ∧ (s.endP).pp.readSlot = s.pp.readSlot ∧ (s.endP).cc.state = s.cc.state ∧
    (s.endP).cc.phase = s.cc.phase ∧ (s.endP).cc.cycle = s.cc.cycle ∧ (s.endP).cc.groupPos = s.cc.groupPos ∧
    (s.endP).cc.lowSeen = s.cc.lowSeen ∧ (s.endP).cc.frz = s.cc.frz ∧ (s.endP).cc.freezeReq = s.cc.freezeReq ∧
    (s.endP).cc.interval = s.cc.interval ∧ (s.endP).cc.watchdog = s.cc.watchdog := by
  simp [State.endP]

/-- The current access is empty after its end (R111). -/
@[simp] theorem endP_current (s : State) : s.endP.pp.current = none := by simp [State.endP]

/-- The access leaves every wait set. -/
@[simp] theorem win_endP (s : State) (v : Win) :
    (s.endP).win v = { s.win v with waitSet := (s.win v).waitSet.erase .p } := by
  simp only [State.endP, win_leaveDrain, win_leaveWait]; rfl

/-- The end of an F access empties the port, and changes wait sets and the drain set. -/
@[simp] theorem endF_keeps (s : State) :
    (s.endF).lines = s.lines ∧ (s.endF).pp = s.pp ∧ (s.endF).ce = s.ce ∧ (s.endF).nu = s.nu ∧ (s.endF).mp = s.mp ∧
    (s.endF).mem = s.mem ∧ (s.endF).free = s.free ∧ (s.endF).pending = s.pending ∧ (s.endF).cba = s.cba ∧
    (s.endF).fp.held = s.fp.held ∧ (s.endF).cc.state = s.cc.state ∧ (s.endF).cc.phase = s.cc.phase ∧
    (s.endF).cc.cycle = s.cc.cycle ∧ (s.endF).cc.groupPos = s.cc.groupPos ∧ (s.endF).cc.lowSeen = s.cc.lowSeen ∧
    (s.endF).cc.frz = s.cc.frz ∧ (s.endF).cc.freezeReq = s.cc.freezeReq ∧ (s.endF).cc.interval = s.cc.interval ∧
    (s.endF).cc.watchdog = s.cc.watchdog := by
  simp [State.endF]

/-- No access is in flight after the end. -/
@[simp] theorem endF_inFlight (s : State) : s.endF.fp.inFlight = none := by simp [State.endF]

/-- The access leaves every wait set. -/
@[simp] theorem win_endF (s : State) (v : Win) :
    (s.endF).win v = { s.win v with waitSet := (s.win v).waitSet.erase .f } := by
  simp only [State.endF, win_leaveDrain, win_leaveWait]; rfl

/-! ## Copy jobs -/

/-- Joining the Copy Queue changes the queue alone. -/
@[simp] theorem enqueueJob_keeps (s : State) (j : Job) :
    (s.enqueueJob j).lines = s.lines ∧ (s.enqueueJob j).cc = s.cc ∧ (s.enqueueJob j).windows = s.windows ∧
    (s.enqueueJob j).pp = s.pp ∧ (s.enqueueJob j).fp = s.fp ∧ (s.enqueueJob j).nu = s.nu ∧
    (s.enqueueJob j).mp = s.mp ∧ (s.enqueueJob j).mem = s.mem ∧ (s.enqueueJob j).free = s.free ∧
    (s.enqueueJob j).pending = s.pending ∧ (s.enqueueJob j).cba = s.cba ∧
    (s.enqueueJob j).ce.running = s.ce.running ∧ (s.enqueueJob j).ce.request = s.ce.request := by
  unfold State.enqueueJob; split <;> simp

/-- Joining the Copy Queue changes no record (R78). -/
@[simp] theorem win_enqueueJob (s : State) (j : Job) (v : Win) :
    (s.enqueueJob j).win v = s.win v := win_congr (by simp) v

/-- The Copy Queue after a job joins: at the tail, unless its destination has one (R77, R78). -/
theorem enqueueJob_jobs (s : State) (j : Job) :
    (s.enqueueJob j).ce.jobs = if s.hasJob j.dest then s.ce.jobs else s.ce.jobs ++ [j] := by
  unfold State.enqueueJob; split <;> rfl

/-- The end of a job changes the Copy Engine, wait sets and the dirty set. -/
@[simp] theorem endJob_keeps (s : State) (d : Win) :
    (s.endJob d).lines = s.lines ∧ (s.endJob d).cc = s.cc ∧ (s.endJob d).pp = s.pp ∧ (s.endJob d).fp = s.fp ∧
    (s.endJob d).nu = s.nu ∧ (s.endJob d).mp = s.mp ∧ (s.endJob d).mem = s.mem ∧ (s.endJob d).free = s.free ∧
    (s.endJob d).pending = s.pending ∧ (s.endJob d).cba.result = s.cba.result ∧
    (s.endJob d).cba.writeback = s.cba.writeback ∧ (s.endJob d).cba.request = s.cba.request ∧
    (s.endJob d).cba.turn = s.cba.turn ∧ (s.endJob d).cba.causes = s.cba.causes ∧
    (s.endJob d).cba.published = s.cba.published ∧ (s.endJob d).cba.config = s.cba.config ∧
    (s.endJob d).cba.load = s.cba.load ∧ (s.endJob d).cba.loadQueue = s.cba.loadQueue ∧
    (s.endJob d).cba.fetch = s.cba.fetch := by
  unfold State.endJob; split <;> simp

/-- The job leaves every wait set (R14). -/
@[simp] theorem win_endJob (s : State) (d : Win) (v : Win) :
    (s.endJob d).win v = if s.hasJob d then { s.win v with waitSet := (s.win v).waitSet.erase (.job d) } else s.win v := by
  unfold State.endJob; split
  · simp only [win_touch, win_leaveWait]; rfl
  · rfl

/-- The queue after a job is removed or ended (R87). -/
theorem endJob_jobs (s : State) (d : Win) : (s.endJob d).ce.jobs = s.ce.jobs.filter fun j => j.dest != d := by
  unfold State.endJob
  split
  · simp
  · rename_i h
    symm
    rw [List.filter_eq_self]
    intro j hj
    simp only [State.hasJob, List.any_eq_true, not_exists, not_and, Bool.not_eq_true] at h
    simpa using h j hj

/-- Making a job urgent changes no record. -/
@[simp] theorem win_makeUrgent (s : State) (w v : Win) : (s.makeUrgent w).win v = s.win v := rfl

/-- A loop window's enqueue changes the Copy Queue, its event flags and the dirty set. -/
@[simp] theorem enqueueLoop_keeps (s : State) (w : Win) :
    (s.enqueueLoop w).lines = s.lines ∧ (s.enqueueLoop w).cc = s.cc ∧ (s.enqueueLoop w).pp = s.pp ∧
    (s.enqueueLoop w).fp = s.fp ∧ (s.enqueueLoop w).nu = s.nu ∧ (s.enqueueLoop w).mp = s.mp ∧
    (s.enqueueLoop w).mem = s.mem ∧ (s.enqueueLoop w).free = s.free ∧ (s.enqueueLoop w).pending = s.pending ∧
    (s.enqueueLoop w).cba.result = s.cba.result ∧ (s.enqueueLoop w).cba.writeback = s.cba.writeback ∧
    (s.enqueueLoop w).cba.request = s.cba.request ∧ (s.enqueueLoop w).cba.turn = s.cba.turn ∧
    (s.enqueueLoop w).cba.published = s.cba.published ∧ (s.enqueueLoop w).cba.config = s.cba.config ∧
    (s.enqueueLoop w).cba.load = s.cba.load ∧ (s.enqueueLoop w).cba.loadQueue = s.cba.loadQueue ∧
    (s.enqueueLoop w).cba.fetch = s.cba.fetch ∧ (s.enqueueLoop w).ce.running = s.ce.running ∧
    (s.enqueueLoop w).ce.request = s.ce.request := by
  unfold State.enqueueLoop
  split
  · simp
  · split
    · split <;> simp
    · simp

/-- A record after a loop window's enqueue: event flags may differ (R56). -/
theorem win_enqueueLoop (s : State) (w v : Win) : ∃ e, (s.enqueueLoop w).win v = { s.win v with events := e } := by
  unfold State.enqueueLoop
  split
  · exact ⟨_, rfl⟩
  · split
    · split
      · exact ⟨(s.win v).events, by simp⟩
      · simp only [win_event]
        split
        · rename_i h; subst h; exact ⟨_, rfl⟩
        · exact ⟨_, rfl⟩
    · exact ⟨_, rfl⟩

/-! ## Notices -/

/-- `reserve` changes no record. -/
@[simp] theorem win_reserve (s : State) (w v : Win) : (s.reserve w).win v = s.win v := rfl

/-- `unreserve` changes no record. -/
@[simp] theorem win_unreserve (s : State) (w v : Win) : (s.unreserve w).win v = s.win v := rfl

/-- FENCE of the notice's window is set (R122, R126). -/
@[simp] theorem win_enqueueNotice (s : State) (n : Notice) (v : Win) :
    (s.enqueueNotice n).win v = if v = n.win then { s.win n.win with fence := true } else s.win v := by
  simp only [State.enqueueNotice, win_modWin]; rfl

/-- Filling a place changes the Notice Unit and FENCE. -/
@[simp] theorem fillPlace_keeps (s : State) (w : Win) (d : Descriptor) :
    (s.fillPlace w d).lines = s.lines ∧ (s.fillPlace w d).cc = s.cc ∧ (s.fillPlace w d).pp = s.pp ∧
    (s.fillPlace w d).fp = s.fp ∧ (s.fillPlace w d).ce = s.ce ∧ (s.fillPlace w d).mp = s.mp ∧
    (s.fillPlace w d).mem = s.mem ∧ (s.fillPlace w d).free = s.free ∧ (s.fillPlace w d).pending = s.pending ∧
    (s.fillPlace w d).cba = s.cba ∧ (s.fillPlace w d).nu.offer = s.nu.offer ∧
    (s.fillPlace w d).nu.timer = s.nu.timer := by
  unfold State.fillPlace
  split
  · simp
  · split <;> simp

/-- A record after a place is filled: FENCE of the window itself may be set (R122). -/
theorem win_fillPlace (s : State) (w : Win) (d : Descriptor) (v : Win) :
    (s.fillPlace w d).win v = s.win v ∨ (v = w ∧ (s.fillPlace w d).win v = { s.win v with fence := true }) := by
  unfold State.fillPlace
  split
  · by_cases h : v = w <;> simp [h, noticeOf]
  · split
    · by_cases h : v = w <;> simp [h]
    · exact .inl rfl

/-- A notice leaving changes the Notice Unit, FENCE and the dirty set. -/
@[simp] theorem noticeLeaves_keeps (s : State) (n : Notice) :
    (s.noticeLeaves n).lines = s.lines ∧ (s.noticeLeaves n).cc = s.cc ∧ (s.noticeLeaves n).pp = s.pp ∧
    (s.noticeLeaves n).fp = s.fp ∧ (s.noticeLeaves n).ce = s.ce ∧ (s.noticeLeaves n).mp = s.mp ∧
    (s.noticeLeaves n).mem = s.mem ∧ (s.noticeLeaves n).free = s.free ∧ (s.noticeLeaves n).pending = s.pending ∧
    (s.noticeLeaves n).cba.result = s.cba.result ∧ (s.noticeLeaves n).cba.writeback = s.cba.writeback ∧
    (s.noticeLeaves n).cba.request = s.cba.request ∧ (s.noticeLeaves n).cba.turn = s.cba.turn ∧
    (s.noticeLeaves n).cba.causes = s.cba.causes ∧ (s.noticeLeaves n).cba.published = s.cba.published ∧
    (s.noticeLeaves n).cba.config = s.cba.config ∧ (s.noticeLeaves n).cba.load = s.cba.load ∧
    (s.noticeLeaves n).cba.loadQueue = s.cba.loadQueue ∧ (s.noticeLeaves n).cba.fetch = s.cba.fetch ∧
    (s.noticeLeaves n).nu.reservations = s.nu.reservations := by
  simp [State.noticeLeaves]

/-- FENCE of the notice's window is cleared (R126). -/
@[simp] theorem win_noticeLeaves (s : State) (n : Notice) (v : Win) :
    (s.noticeLeaves n).win v = if v = n.win then { s.win n.win with fence := false } else s.win v := by
  simp only [State.noticeLeaves, win_touch, win_modWin]; rfl

/-- The queue, the offer and the timer after a notice leaves (R124, R125). -/
@[simp] theorem noticeLeaves_nu (s : State) (n : Notice) : (s.noticeLeaves n).nu = { s.nu with queue := s.nu.queue.tail, offer := none, timer := false } := by
  simp [State.noticeLeaves]

/-! ## Swaps -/

/-- A performance changes records, the Notice Unit, the Copy Queue and the dirty set. -/
@[simp] theorem performSwap_keeps (s : State) (w : Win) :
    (s.performSwap w).lines = s.lines ∧ (s.performSwap w).cc = s.cc ∧ (s.performSwap w).pp = s.pp ∧
    (s.performSwap w).fp = s.fp ∧ (s.performSwap w).mp = s.mp ∧ (s.performSwap w).mem = s.mem ∧
    (s.performSwap w).free = s.free ∧ (s.performSwap w).pending = s.pending ∧
    (s.performSwap w).cba.result = s.cba.result ∧ (s.performSwap w).cba.writeback = s.cba.writeback ∧
    (s.performSwap w).cba.request = s.cba.request ∧ (s.performSwap w).cba.turn = s.cba.turn ∧
    (s.performSwap w).cba.causes = s.cba.causes ∧ (s.performSwap w).cba.published = s.cba.published ∧
    (s.performSwap w).cba.config = s.cba.config ∧ (s.performSwap w).cba.load = s.cba.load ∧
    (s.performSwap w).cba.loadQueue = s.cba.loadQueue ∧ (s.performSwap w).cba.fetch = s.cba.fetch ∧
    (s.performSwap w).nu.offer = s.nu.offer ∧ (s.performSwap w).nu.timer = s.nu.timer ∧
    (s.performSwap w).ce.running = s.ce.running ∧ (s.performSwap w).ce.request = s.ce.request := by
  unfold State.performSwap
  split
  · simp
  · split <;> simp

/-- A decision changes records, the Notice Unit, the Copy Queue and the dirty set. -/
@[simp] theorem decideSwap_keeps (s : State) (w : Win) (d : Descriptor) (a : PlaceAnswer) :
    (s.decideSwap w d a).lines = s.lines ∧ (s.decideSwap w d a).cc = s.cc ∧ (s.decideSwap w d a).pp = s.pp ∧
    (s.decideSwap w d a).fp = s.fp ∧ (s.decideSwap w d a).mp = s.mp ∧ (s.decideSwap w d a).mem = s.mem ∧
    (s.decideSwap w d a).free = s.free ∧ (s.decideSwap w d a).pending = s.pending ∧
    (s.decideSwap w d a).cba.result = s.cba.result ∧ (s.decideSwap w d a).cba.writeback = s.cba.writeback ∧
    (s.decideSwap w d a).cba.request = s.cba.request ∧ (s.decideSwap w d a).cba.turn = s.cba.turn ∧
    (s.decideSwap w d a).cba.causes = s.cba.causes ∧ (s.decideSwap w d a).cba.published = s.cba.published ∧
    (s.decideSwap w d a).cba.config = s.cba.config ∧ (s.decideSwap w d a).cba.load = s.cba.load ∧
    (s.decideSwap w d a).cba.loadQueue = s.cba.loadQueue ∧ (s.decideSwap w d a).cba.fetch = s.cba.fetch ∧
    (s.decideSwap w d a).nu.offer = s.nu.offer ∧ (s.decideSwap w d a).nu.timer = s.nu.timer ∧
    (s.decideSwap w d a).ce.running = s.ce.running ∧ (s.decideSwap w d a).ce.request = s.ce.request := by
  unfold State.decideSwap
  simp only
  split <;> split <;> split <;> simp

/-- Abandonment changes the record, the reservations and the dirty set. -/
@[simp] theorem abandonSwap_keeps (s : State) (w : Win) :
    (s.abandonSwap w).lines = s.lines ∧ (s.abandonSwap w).cc = s.cc ∧ (s.abandonSwap w).pp = s.pp ∧
    (s.abandonSwap w).fp = s.fp ∧ (s.abandonSwap w).ce = s.ce ∧ (s.abandonSwap w).mp = s.mp ∧
    (s.abandonSwap w).mem = s.mem ∧ (s.abandonSwap w).free = s.free ∧ (s.abandonSwap w).pending = s.pending ∧
    (s.abandonSwap w).cba.result = s.cba.result ∧ (s.abandonSwap w).cba.writeback = s.cba.writeback ∧
    (s.abandonSwap w).cba.request = s.cba.request ∧ (s.abandonSwap w).cba.turn = s.cba.turn ∧
    (s.abandonSwap w).cba.causes = s.cba.causes ∧ (s.abandonSwap w).cba.published = s.cba.published ∧
    (s.abandonSwap w).cba.config = s.cba.config ∧ (s.abandonSwap w).cba.load = s.cba.load ∧
    (s.abandonSwap w).cba.loadQueue = s.cba.loadQueue ∧ (s.abandonSwap w).cba.fetch = s.cba.fetch ∧
    (s.abandonSwap w).nu.queue = s.nu.queue ∧ (s.abandonSwap w).nu.offer = s.nu.offer ∧
    (s.abandonSwap w).nu.timer = s.nu.timer := by
  unfold State.abandonSwap; split <;> simp

/-- Entry to FAULT changes records, the Copy Engine, the reservations and the dirty set. -/
@[simp] theorem faultOutput_keeps (s : State) (w : Win) :
    (s.faultOutput w).lines = s.lines ∧ (s.faultOutput w).cc = s.cc ∧ (s.faultOutput w).pp = s.pp ∧
    (s.faultOutput w).fp = s.fp ∧ (s.faultOutput w).mp = s.mp ∧ (s.faultOutput w).mem = s.mem ∧
    (s.faultOutput w).free = s.free ∧ (s.faultOutput w).pending = s.pending ∧
    (s.faultOutput w).cba.result = s.cba.result ∧ (s.faultOutput w).cba.writeback = s.cba.writeback ∧
    (s.faultOutput w).cba.request = s.cba.request ∧ (s.faultOutput w).cba.turn = s.cba.turn ∧
    (s.faultOutput w).cba.causes = s.cba.causes ∧ (s.faultOutput w).cba.published = s.cba.published ∧
    (s.faultOutput w).cba.config = s.cba.config ∧ (s.faultOutput w).cba.load = s.cba.load ∧
    (s.faultOutput w).cba.loadQueue = s.cba.loadQueue ∧ (s.faultOutput w).cba.fetch = s.cba.fetch ∧
    (s.faultOutput w).nu.queue = s.nu.queue ∧ (s.faultOutput w).nu.offer = s.nu.offer ∧
    (s.faultOutput w).nu.timer = s.nu.timer := by
  unfold State.faultOutput; split <;> simp

/-- Entry to FAULT changes records, the Copy Engine and the dirty set. -/
@[simp] theorem faultInput_keeps (s : State) (w : Win) :
    (s.faultInput w).lines = s.lines ∧ (s.faultInput w).cc = s.cc ∧ (s.faultInput w).pp = s.pp ∧
    (s.faultInput w).fp = s.fp ∧ (s.faultInput w).nu = s.nu ∧ (s.faultInput w).mp = s.mp ∧
    (s.faultInput w).mem = s.mem ∧ (s.faultInput w).free = s.free ∧ (s.faultInput w).pending = s.pending ∧
    (s.faultInput w).cba.result = s.cba.result ∧ (s.faultInput w).cba.writeback = s.cba.writeback ∧
    (s.faultInput w).cba.request = s.cba.request ∧ (s.faultInput w).cba.turn = s.cba.turn ∧
    (s.faultInput w).cba.causes = s.cba.causes ∧ (s.faultInput w).cba.published = s.cba.published ∧
    (s.faultInput w).cba.config = s.cba.config ∧ (s.faultInput w).cba.load = s.cba.load ∧
    (s.faultInput w).cba.loadQueue = s.cba.loadQueue ∧ (s.faultInput w).cba.fetch = s.cba.fetch := by
  simp [State.faultInput]

/-- Priming changes records, the Copy Engine and the dirty set. -/
@[simp] theorem prime_keeps (s : State) (w : Win) (d : Descriptor) :
    (s.prime w d).lines = s.lines ∧ (s.prime w d).cc = s.cc ∧ (s.prime w d).pp = s.pp ∧ (s.prime w d).fp = s.fp ∧
    (s.prime w d).nu = s.nu ∧ (s.prime w d).mp = s.mp ∧ (s.prime w d).mem = s.mem ∧ (s.prime w d).free = s.free ∧
    (s.prime w d).pending = s.pending ∧ (s.prime w d).cba.result = s.cba.result ∧
    (s.prime w d).cba.writeback = s.cba.writeback ∧ (s.prime w d).cba.request = s.cba.request ∧
    (s.prime w d).cba.turn = s.cba.turn ∧ (s.prime w d).cba.causes = s.cba.causes ∧
    (s.prime w d).cba.published = s.cba.published ∧ (s.prime w d).cba.config = s.cba.config ∧
    (s.prime w d).cba.load = s.cba.load ∧ (s.prime w d).cba.loadQueue = s.cba.loadQueue ∧
    (s.prime w d).cba.fetch = s.cba.fetch := by
  simp [State.prime]

end Sys2Proof.Laws
end

