-- ==== Sys2Proof/Laws/Access.lean ====
section
/-! SUPPORT. What the operations of accesses, commands and retries change and what they keep (Machine/Access.lean,
Machine/Commands.lean, Machine/Issue.lean). -/

namespace Sys2Proof.Laws

open Sys2Proof.Machine
open Sys2Proof.Machine.State

/-! ## Accesses -/

/-- A processor write to an input window changes records, the current access, flags and the dirty set. -/
@[simp] theorem pWriteInput_keeps (s : State) (w : Win) (d : Descriptor) (x : PWrite) :
    (s.pWriteInput w d x).lines = s.lines ∧ (s.pWriteInput w d x).cc = s.cc ∧ (s.pWriteInput w d x).fp = s.fp ∧
    (s.pWriteInput w d x).ce = s.ce ∧ (s.pWriteInput w d x).nu = s.nu ∧ (s.pWriteInput w d x).mp = s.mp ∧
    (s.pWriteInput w d x).mem = s.mem ∧ (s.pWriteInput w d x).free = s.free ∧
    (s.pWriteInput w d x).pending = s.pending ∧ (s.pWriteInput w d x).cba.result = s.cba.result ∧
    (s.pWriteInput w d x).cba.writeback = s.cba.writeback ∧ (s.pWriteInput w d x).cba.request = s.cba.request ∧
    (s.pWriteInput w d x).cba.turn = s.cba.turn ∧ (s.pWriteInput w d x).cba.published = s.cba.published ∧
    (s.pWriteInput w d x).cba.config = s.cba.config ∧ (s.pWriteInput w d x).cba.load = s.cba.load ∧
    (s.pWriteInput w d x).cba.loadQueue = s.cba.loadQueue ∧ (s.pWriteInput w d x).cba.fetch = s.cba.fetch ∧
    (s.pWriteInput w d x).pp.pwq = s.pp.pwq ∧ (s.pWriteInput w d x).pp.readSlot = s.pp.readSlot := by
  unfold State.pWriteInput
  simp only
  split
  · split <;> simp
  · simp

/-- A processor write to an output window changes records, the current access, flags and the dirty set. -/
@[simp] theorem pWriteOutput_keeps (s : State) (w : Win) (d : Descriptor) (x : PWrite) :
    (s.pWriteOutput w d x).lines = s.lines ∧ (s.pWriteOutput w d x).cc = s.cc ∧ (s.pWriteOutput w d x).fp = s.fp ∧
    (s.pWriteOutput w d x).ce = s.ce ∧ (s.pWriteOutput w d x).nu = s.nu ∧ (s.pWriteOutput w d x).mp = s.mp ∧
    (s.pWriteOutput w d x).mem = s.mem ∧ (s.pWriteOutput w d x).free = s.free ∧
    (s.pWriteOutput w d x).pending = s.pending ∧ (s.pWriteOutput w d x).cba.result = s.cba.result ∧
    (s.pWriteOutput w d x).cba.writeback = s.cba.writeback ∧ (s.pWriteOutput w d x).cba.request = s.cba.request ∧
    (s.pWriteOutput w d x).cba.turn = s.cba.turn ∧ (s.pWriteOutput w d x).cba.published = s.cba.published ∧
    (s.pWriteOutput w d x).cba.config = s.cba.config ∧ (s.pWriteOutput w d x).cba.load = s.cba.load ∧
    (s.pWriteOutput w d x).cba.loadQueue = s.cba.loadQueue ∧ (s.pWriteOutput w d x).cba.fetch = s.cba.fetch ∧
    (s.pWriteOutput w d x).pp.pwq = s.pp.pwq ∧ (s.pWriteOutput w d x).pp.readSlot = s.pp.readSlot := by
  unfold State.pWriteOutput
  simp only
  split
  · simp
  · split <;> split <;> simp

/-- A processor window write changes records, the current access, flags and the dirty set. -/
@[simp] theorem pWriteWindow_keeps (s : State) (w : Win) (x : PWrite) :
    (s.pWriteWindow w x).lines = s.lines ∧ (s.pWriteWindow w x).cc = s.cc ∧ (s.pWriteWindow w x).fp = s.fp ∧
    (s.pWriteWindow w x).ce = s.ce ∧ (s.pWriteWindow w x).nu = s.nu ∧ (s.pWriteWindow w x).mp = s.mp ∧
    (s.pWriteWindow w x).mem = s.mem ∧ (s.pWriteWindow w x).free = s.free ∧
    (s.pWriteWindow w x).pending = s.pending ∧ (s.pWriteWindow w x).cba.result = s.cba.result ∧
    (s.pWriteWindow w x).cba.writeback = s.cba.writeback ∧ (s.pWriteWindow w x).cba.request = s.cba.request ∧
    (s.pWriteWindow w x).cba.turn = s.cba.turn ∧ (s.pWriteWindow w x).cba.published = s.cba.published ∧
    (s.pWriteWindow w x).cba.config = s.cba.config ∧ (s.pWriteWindow w x).cba.load = s.cba.load ∧
    (s.pWriteWindow w x).cba.loadQueue = s.cba.loadQueue ∧ (s.pWriteWindow w x).cba.fetch = s.cba.fetch ∧
    (s.pWriteWindow w x).pp.pwq = s.pp.pwq ∧ (s.pWriteWindow w x).pp.readSlot = s.pp.readSlot := by
  unfold State.pWriteWindow
  split
  · simp
  · split <;> simp

/-- A processor window read changes the P port and its bus. -/
@[simp] theorem pReadWindow_keeps (s : State) (w : Win) (r : PRead) :
    (s.pReadWindow w r).cc = s.cc ∧ (s.pReadWindow w r).windows = s.windows ∧ (s.pReadWindow w r).fp = s.fp ∧
    (s.pReadWindow w r).ce = s.ce ∧ (s.pReadWindow w r).nu = s.nu ∧ (s.pReadWindow w r).mp = s.mp ∧
    (s.pReadWindow w r).mem = s.mem ∧ (s.pReadWindow w r).free = s.free ∧ (s.pReadWindow w r).pending = s.pending ∧
    (s.pReadWindow w r).cba = s.cba ∧ (s.pReadWindow w r).pp.pwq = s.pp.pwq ∧
    (s.pReadWindow w r).lines.cyc = s.lines.cyc ∧ (s.pReadWindow w r).lines.rst = s.lines.rst ∧
    (s.pReadWindow w r).lines.accept = s.lines.accept ∧ (s.pReadWindow w r).lines.memsz = s.lines.memsz ∧
    (s.pReadWindow w r).lines.cbsel = s.lines.cbsel ∧ (s.pReadWindow w r).lines.fBus = s.lines.fBus := by
  unfold State.pReadWindow
  split
  · simp
  · split
    · split <;> simp
    · simp

/-- The issue of a processor read changes the P port and its bus, flags and the dirty set. -/
@[simp] theorem issueRead_keeps (s : State) (r : PRead) :
    (s.issueRead r).cc = s.cc ∧ (s.issueRead r).windows = s.windows ∧ (s.issueRead r).fp = s.fp ∧
    (s.issueRead r).ce = s.ce ∧ (s.issueRead r).nu = s.nu ∧ (s.issueRead r).mp = s.mp ∧
    (s.issueRead r).mem = s.mem ∧ (s.issueRead r).free = s.free ∧ (s.issueRead r).pending = s.pending ∧
    (s.issueRead r).cba.result = s.cba.result ∧ (s.issueRead r).cba.writeback = s.cba.writeback ∧
    (s.issueRead r).cba.request = s.cba.request ∧ (s.issueRead r).cba.turn = s.cba.turn ∧
    (s.issueRead r).cba.published = s.cba.published ∧ (s.issueRead r).cba.config = s.cba.config ∧
    (s.issueRead r).cba.load = s.cba.load ∧ (s.issueRead r).cba.loadQueue = s.cba.loadQueue ∧
    (s.issueRead r).cba.fetch = s.cba.fetch ∧ (s.issueRead r).pp.pwq = s.pp.pwq ∧
    (s.issueRead r).lines.cyc = s.lines.cyc ∧ (s.issueRead r).lines.rst = s.lines.rst ∧
    (s.issueRead r).lines.accept = s.lines.accept ∧ (s.issueRead r).lines.memsz = s.lines.memsz ∧
    (s.issueRead r).lines.cbsel = s.lines.cbsel ∧ (s.issueRead r).lines.fBus = s.lines.fBus := by
  unfold State.issueRead
  split <;> try simp
  split <;> simp

/-- A field write made at a bank changes the F port and its bus. -/
@[simp] theorem writeF_keeps (s : State) (w : Win) (b : Bool) (a : Access) (g : Addr) :
    (s.writeF w b a g).cc = s.cc ∧ (s.writeF w b a g).windows = s.windows ∧ (s.writeF w b a g).pp = s.pp ∧
    (s.writeF w b a g).ce = s.ce ∧ (s.writeF w b a g).nu = s.nu ∧ (s.writeF w b a g).cba = s.cba ∧
    (s.writeF w b a g).mp = s.mp ∧ (s.writeF w b a g).mem = s.mem ∧ (s.writeF w b a g).free = s.free ∧
    (s.writeF w b a g).pending = s.pending ∧ (s.writeF w b a g).fp.held = s.fp.held ∧
    (s.writeF w b a g).lines.cyc = s.lines.cyc ∧ (s.writeF w b a g).lines.rst = s.lines.rst ∧
    (s.writeF w b a g).lines.accept = s.lines.accept ∧ (s.writeF w b a g).lines.memsz = s.lines.memsz ∧
    (s.writeF w b a g).lines.cbsel = s.lines.cbsel ∧ (s.writeF w b a g).lines.pBus = s.lines.pBus := by
  unfold State.writeF; split <;> simp

/-- A field write made at a bank changes no record by itself. -/
@[simp] theorem win_writeF (s : State) (w : Win) (b : Bool) (a : Access) (g : Addr) (v : Win) :
    (s.writeF w b a g).win v = s.win v := win_congr (by simp) v

/-- A field access changes records, the F port and its bus, flags and the dirty set. -/
@[simp] theorem fInput_keeps (s : State) (w : Win) (d : Descriptor) (a : Access) :
    (s.fInput w d a).cc = s.cc ∧ (s.fInput w d a).pp = s.pp ∧ (s.fInput w d a).ce = s.ce ∧
    (s.fInput w d a).nu = s.nu ∧ (s.fInput w d a).mp = s.mp ∧ (s.fInput w d a).mem = s.mem ∧
    (s.fInput w d a).free = s.free ∧ (s.fInput w d a).pending = s.pending ∧
    (s.fInput w d a).cba.result = s.cba.result ∧ (s.fInput w d a).cba.writeback = s.cba.writeback ∧
    (s.fInput w d a).cba.request = s.cba.request ∧ (s.fInput w d a).cba.turn = s.cba.turn ∧
    (s.fInput w d a).cba.published = s.cba.published ∧ (s.fInput w d a).cba.config = s.cba.config ∧
    (s.fInput w d a).cba.load = s.cba.load ∧ (s.fInput w d a).cba.loadQueue = s.cba.loadQueue ∧
    (s.fInput w d a).cba.fetch = s.cba.fetch ∧ (s.fInput w d a).fp.held = s.fp.held ∧
    (s.fInput w d a).lines.cyc = s.lines.cyc ∧ (s.fInput w d a).lines.rst = s.lines.rst ∧
    (s.fInput w d a).lines.accept = s.lines.accept ∧ (s.fInput w d a).lines.memsz = s.lines.memsz ∧
    (s.fInput w d a).lines.cbsel = s.lines.cbsel ∧ (s.fInput w d a).lines.pBus = s.lines.pBus := by
  unfold State.fInput
  simp only
  split
  · simp
  · split
    · simp
    · split
      · simp
      · split <;> simp

/-- A field access changes records, the F port and its bus, flags and the dirty set. -/
@[simp] theorem fOutput_keeps (s : State) (w : Win) (d : Descriptor) (a : Access) :
    (s.fOutput w d a).cc = s.cc ∧ (s.fOutput w d a).pp = s.pp ∧ (s.fOutput w d a).ce = s.ce ∧
    (s.fOutput w d a).nu = s.nu ∧ (s.fOutput w d a).mp = s.mp ∧ (s.fOutput w d a).mem = s.mem ∧
    (s.fOutput w d a).free = s.free ∧ (s.fOutput w d a).pending = s.pending ∧
    (s.fOutput w d a).cba.result = s.cba.result ∧ (s.fOutput w d a).cba.writeback = s.cba.writeback ∧
    (s.fOutput w d a).cba.request = s.cba.request ∧ (s.fOutput w d a).cba.turn = s.cba.turn ∧
    (s.fOutput w d a).cba.published = s.cba.published ∧ (s.fOutput w d a).cba.config = s.cba.config ∧
    (s.fOutput w d a).cba.load = s.cba.load ∧ (s.fOutput w d a).cba.loadQueue = s.cba.loadQueue ∧
    (s.fOutput w d a).cba.fetch = s.cba.fetch ∧ (s.fOutput w d a).fp.held = s.fp.held ∧
    (s.fOutput w d a).lines.cyc = s.lines.cyc ∧ (s.fOutput w d a).lines.rst = s.lines.rst ∧
    (s.fOutput w d a).lines.accept = s.lines.accept ∧ (s.fOutput w d a).lines.memsz = s.lines.memsz ∧
    (s.fOutput w d a).lines.cbsel = s.lines.cbsel ∧ (s.fOutput w d a).lines.pBus = s.lines.pBus := by
  unfold State.fOutput
  simp only
  split
  · split <;> simp
  · split <;> simp

/-- A field access changes records, the F port and its bus, flags and the dirty set. -/
@[simp] theorem fWindow_keeps (s : State) (w : Win) (a : Access) :
    (s.fWindow w a).cc = s.cc ∧ (s.fWindow w a).pp = s.pp ∧ (s.fWindow w a).ce = s.ce ∧ (s.fWindow w a).nu = s.nu ∧
    (s.fWindow w a).mp = s.mp ∧ (s.fWindow w a).mem = s.mem ∧ (s.fWindow w a).free = s.free ∧
    (s.fWindow w a).pending = s.pending ∧ (s.fWindow w a).cba.result = s.cba.result ∧
    (s.fWindow w a).cba.writeback = s.cba.writeback ∧ (s.fWindow w a).cba.request = s.cba.request ∧
    (s.fWindow w a).cba.turn = s.cba.turn ∧ (s.fWindow w a).cba.published = s.cba.published ∧
    (s.fWindow w a).cba.config = s.cba.config ∧ (s.fWindow w a).cba.load = s.cba.load ∧
    (s.fWindow w a).cba.loadQueue = s.cba.loadQueue ∧ (s.fWindow w a).cba.fetch = s.cba.fetch ∧
    (s.fWindow w a).fp.held = s.fp.held ∧ (s.fWindow w a).lines.cyc = s.lines.cyc ∧
    (s.fWindow w a).lines.rst = s.lines.rst ∧ (s.fWindow w a).lines.accept = s.lines.accept ∧
    (s.fWindow w a).lines.memsz = s.lines.memsz ∧ (s.fWindow w a).lines.cbsel = s.lines.cbsel ∧
    (s.fWindow w a).lines.pBus = s.lines.pBus := by
  unfold State.fWindow
  split
  · simp
  · split <;> simp

/-- A field access changes records, the F port and its bus, flags and the dirty set. -/
@[simp] theorem issueF_keeps (s : State) (a : Access) :
    (s.issueF a).cc = s.cc ∧ (s.issueF a).pp = s.pp ∧ (s.issueF a).ce = s.ce ∧ (s.issueF a).nu = s.nu ∧
    (s.issueF a).mp = s.mp ∧ (s.issueF a).mem = s.mem ∧ (s.issueF a).free = s.free ∧
    (s.issueF a).pending = s.pending ∧ (s.issueF a).cba.result = s.cba.result ∧
    (s.issueF a).cba.writeback = s.cba.writeback ∧ (s.issueF a).cba.request = s.cba.request ∧
    (s.issueF a).cba.turn = s.cba.turn ∧ (s.issueF a).cba.published = s.cba.published ∧
    (s.issueF a).cba.config = s.cba.config ∧ (s.issueF a).cba.load = s.cba.load ∧
    (s.issueF a).cba.loadQueue = s.cba.loadQueue ∧ (s.issueF a).cba.fetch = s.cba.fetch ∧
    (s.issueF a).fp.held = s.fp.held ∧ (s.issueF a).lines.cyc = s.lines.cyc ∧ (s.issueF a).lines.rst = s.lines.rst ∧
    (s.issueF a).lines.accept = s.lines.accept ∧ (s.issueF a).lines.memsz = s.lines.memsz ∧
    (s.issueF a).lines.cbsel = s.lines.cbsel ∧ (s.issueF a).lines.pBus = s.lines.pBus := by
  unfold State.issueF
  split <;> try simp
  split <;> simp

/-- A field access at issue changes records, the F port and its bus, flags and the dirty set. -/
@[simp] theorem reachF_keeps (s : State) (a : Access) :
    (s.reachF a).cc = s.cc ∧ (s.reachF a).pp = s.pp ∧ (s.reachF a).ce = s.ce ∧ (s.reachF a).nu = s.nu ∧
    (s.reachF a).mp = s.mp ∧ (s.reachF a).mem = s.mem ∧ (s.reachF a).free = s.free ∧
    (s.reachF a).pending = s.pending ∧ (s.reachF a).cba.result = s.cba.result ∧
    (s.reachF a).cba.writeback = s.cba.writeback ∧ (s.reachF a).cba.request = s.cba.request ∧
    (s.reachF a).cba.turn = s.cba.turn ∧ (s.reachF a).cba.published = s.cba.published ∧
    (s.reachF a).cba.config = s.cba.config ∧ (s.reachF a).cba.load = s.cba.load ∧
    (s.reachF a).cba.loadQueue = s.cba.loadQueue ∧ (s.reachF a).cba.fetch = s.cba.fetch ∧
    (s.reachF a).lines.cyc = s.lines.cyc ∧ (s.reachF a).lines.rst = s.lines.rst ∧
    (s.reachF a).lines.accept = s.lines.accept ∧ (s.reachF a).lines.memsz = s.lines.memsz ∧
    (s.reachF a).lines.cbsel = s.lines.cbsel ∧ (s.reachF a).lines.pBus = s.lines.pBus := by
  unfold State.reachF; split <;> simp

/-- The retry of a field access changes records, the F port and its bus, flags and the dirty set. -/
@[simp] theorem retryF_keeps (s t : State) :
    (retryF s t).cc = t.cc ∧ (retryF s t).pp = t.pp ∧ (retryF s t).ce = t.ce ∧ (retryF s t).nu = t.nu ∧
    (retryF s t).mp = t.mp ∧ (retryF s t).mem = t.mem ∧ (retryF s t).free = t.free ∧
    (retryF s t).pending = t.pending ∧ (retryF s t).cba.result = t.cba.result ∧
    (retryF s t).cba.writeback = t.cba.writeback ∧ (retryF s t).cba.request = t.cba.request ∧
    (retryF s t).cba.turn = t.cba.turn ∧ (retryF s t).cba.published = t.cba.published ∧
    (retryF s t).cba.config = t.cba.config ∧ (retryF s t).cba.load = t.cba.load ∧
    (retryF s t).cba.loadQueue = t.cba.loadQueue ∧ (retryF s t).cba.fetch = t.cba.fetch ∧
    (retryF s t).lines.cyc = t.lines.cyc ∧ (retryF s t).lines.rst = t.lines.rst ∧
    (retryF s t).lines.accept = t.lines.accept ∧ (retryF s t).lines.memsz = t.lines.memsz ∧
    (retryF s t).lines.cbsel = t.lines.cbsel ∧ (retryF s t).lines.pBus = t.lines.pBus := by
  unfold retryF
  split
  · split <;> simp
  · simp

/-! ## Commands -/

/-- A result overwrites the result record, and may record CMD_REFUSED. -/
@[simp] theorem setResult_keeps (s : State) (c : BitVec 8) (r : ResultCode) (m : BitVec 16) :
    (s.setResult c r m).lines = s.lines ∧ (s.setResult c r m).cc = s.cc ∧ (s.setResult c r m).windows = s.windows ∧
    (s.setResult c r m).pp = s.pp ∧ (s.setResult c r m).fp = s.fp ∧ (s.setResult c r m).ce = s.ce ∧
    (s.setResult c r m).nu = s.nu ∧ (s.setResult c r m).mp = s.mp ∧ (s.setResult c r m).mem = s.mem ∧
    (s.setResult c r m).free = s.free ∧ (s.setResult c r m).pending = s.pending ∧
    (s.setResult c r m).cba.writeback = s.cba.writeback ∧ (s.setResult c r m).cba.request = s.cba.request ∧
    (s.setResult c r m).cba.turn = s.cba.turn ∧ (s.setResult c r m).cba.published = s.cba.published ∧
    (s.setResult c r m).cba.config = s.cba.config ∧ (s.setResult c r m).cba.load = s.cba.load ∧
    (s.setResult c r m).cba.loadQueue = s.cba.loadQueue ∧ (s.setResult c r m).cba.fetch = s.cba.fetch := by
  unfold State.setResult; simp only; split <;> simp

/-- A result changes no window record. -/
@[simp] theorem win_setResult (s : State) (c : BitVec 8) (r : ResultCode) (m : BitVec 16) (v : Win) :
    (s.setResult c r m).win v = s.win v := win_congr (by simp) v

/-- The result record after a command (R151, R154). -/
@[simp] theorem setResult_result (s : State) (c : BitVec 8) (r : ResultCode) (m : BitVec 16) :
    (s.setResult c r m).cba.result = { code := c, result := r, refused := m, seq := s.cba.result.seq + 1 } := by
  unfold State.setResult; simp only; split <;> simp

/-- CMD_REFUSED is recorded by every result but DONE (R151 to R153). -/
@[simp] theorem setResult_causes (s : State) (c : BitVec 8) (r : ResultCode) (m : BitVec 16) :
    (s.setResult c r m).cba.causes = if r = .done then s.cba.causes else s.cba.causes ||| Cause.cmdRefused.mask := by
  unfold State.setResult; simp only; split <;> simp

/-- The start of a fetch changes the fetch and its target slot. -/
@[simp] theorem startFetch_keeps (s : State) :
    (s.startFetch).lines = s.lines ∧ (s.startFetch).cc = s.cc ∧ (s.startFetch).pp = s.pp ∧
    (s.startFetch).fp = s.fp ∧ (s.startFetch).ce = s.ce ∧ (s.startFetch).nu = s.nu ∧ (s.startFetch).mp = s.mp ∧
    (s.startFetch).mem = s.mem ∧ (s.startFetch).free = s.free ∧ (s.startFetch).pending = s.pending ∧
    (s.startFetch).cba.result = s.cba.result ∧ (s.startFetch).cba.dirty = s.cba.dirty ∧
    (s.startFetch).cba.writeback = s.cba.writeback ∧ (s.startFetch).cba.request = s.cba.request ∧
    (s.startFetch).cba.turn = s.cba.turn ∧ (s.startFetch).cba.causes = s.cba.causes ∧
    (s.startFetch).cba.published = s.cba.published ∧ (s.startFetch).cba.config = s.cba.config ∧
    (s.startFetch).cba.load = s.cba.load ∧ (s.startFetch).cba.loadQueue = s.cba.loadQueue := by
  unfold State.startFetch; split <;> simp

/-- A refusal changes the window's record and the dirty set. -/
@[simp] theorem refuse_keeps (s : State) (w : Win) (r : Reason) :
    (s.refuse w r).lines = s.lines ∧ (s.refuse w r).cc = s.cc ∧ (s.refuse w r).pp = s.pp ∧
    (s.refuse w r).fp = s.fp ∧ (s.refuse w r).ce = s.ce ∧ (s.refuse w r).nu = s.nu ∧ (s.refuse w r).mp = s.mp ∧
    (s.refuse w r).mem = s.mem ∧ (s.refuse w r).free = s.free ∧ (s.refuse w r).pending = s.pending ∧
    (s.refuse w r).cba.result = s.cba.result ∧ (s.refuse w r).cba.writeback = s.cba.writeback ∧
    (s.refuse w r).cba.request = s.cba.request ∧ (s.refuse w r).cba.turn = s.cba.turn ∧
    (s.refuse w r).cba.causes = s.cba.causes ∧ (s.refuse w r).cba.published = s.cba.published ∧
    (s.refuse w r).cba.config = s.cba.config ∧ (s.refuse w r).cba.load = s.cba.load ∧
    (s.refuse w r).cba.loadQueue = s.cba.loadQueue ∧ (s.refuse w r).cba.fetch = s.cba.fetch := by
  simp [State.refuse]

/-- The reason is the last refusal reason (R153). -/
@[simp] theorem win_refuse (s : State) (w : Win) (r : Reason) (v : Win) :
    (s.refuse w r).win v = if v = w then { s.win w with refusal := r } else s.win v := by simp [State.refuse]

/-- What the windows of a command keep, effect by effect. -/
theorem takeWindows_keeps {α : Type} (p : State → α) (test : State → Win → Reason) (effect : State → Win → State) (mask : BitVec 16)
    (h : ∀ s w, p (effect s w) = p s) (hr : ∀ s w r, p (State.refuse s w r) = p s) (s : State) :
    p (takeWindows test effect mask s).s = p s := by
  have : ∀ (l : List Win) (acc : Taking), p (l.foldl (takeWindow test effect mask) acc).s = p acc.s := by
    intro l
    induction l with
    | nil => intro acc; rfl
    | cons w l ih =>
      intro acc
      rw [List.foldl_cons, ih]
      unfold takeWindow
      split
      · split
        · exact h _ _
        · exact hr _ _ _
      · rfl
  exact this _ _

/-- A property that every refusal and every accepted window of a command keeps. -/
theorem takeWindows_induct {P : State → Prop} (test : State → Win → Reason) (effect : State → Win → State) (mask : BitVec 16)
    (h : ∀ s w, P s → test s w = .none → P (effect s w)) (hr : ∀ s w r, P s → P (State.refuse s w r)) {s : State} (hs : P s) :
    P (takeWindows test effect mask s).s := by
  have : ∀ (l : List Win) (acc : Taking), P acc.s → P (l.foldl (takeWindow test effect mask) acc).s := by
    intro l
    induction l with
    | nil => intro acc ha; exact ha
    | cons w l ih =>
      intro acc ha
      rw [List.foldl_cons]
      apply ih
      unfold takeWindow
      split
      · split
        · exact h _ _ ha (by assumption)
        · exact hr _ _ _ ha
      · exact ha
  exact this _ _ hs

/-- A property that a per-window command keeps. -/
theorem perWindow_induct {P : State → Prop} (test : State → Win → Reason) (effect : State → Win → State) (x : Word)
    (h : ∀ s w, P s → test s w = .none → P (effect s w)) (hr : ∀ s w r, P s → P (State.refuse s w r))
    (hres : ∀ s c r m, P s → P (State.setResult s c r m)) {s : State} (hs : P s) : P (s.perWindow test effect x) :=
  hres _ _ _ _ (takeWindows_induct test effect _ h hr hs)

/-- `loadEffect` joins the Load Queue and changes nothing else. -/
@[simp] theorem loadEffect_eq (s : State) (w : Win) :
    loadEffect s w = { s with cba := { s.cba with loadQueue := s.cba.loadQueue ++ [w] } } := rfl

/-- `rearmEffect` primes the window. -/
theorem rearmEffect_eq (s : State) (w : Win) (d : Descriptor) (h : (s.win w).inUse = some d) : rearmEffect s w = s.prime w d := by
  simp [rearmEffect, h]

/-- REARM on a window changes records, the Copy Engine and the dirty set. -/
@[simp] theorem rearmEffect_keeps (s : State) (w : Win) :
    (rearmEffect s w).lines = s.lines ∧ (rearmEffect s w).cc = s.cc ∧ (rearmEffect s w).pp = s.pp ∧
    (rearmEffect s w).fp = s.fp ∧ (rearmEffect s w).nu = s.nu ∧ (rearmEffect s w).mp = s.mp ∧
    (rearmEffect s w).mem = s.mem ∧ (rearmEffect s w).free = s.free ∧ (rearmEffect s w).pending = s.pending ∧
    (rearmEffect s w).cba.result = s.cba.result ∧ (rearmEffect s w).cba.writeback = s.cba.writeback ∧
    (rearmEffect s w).cba.request = s.cba.request ∧ (rearmEffect s w).cba.turn = s.cba.turn ∧
    (rearmEffect s w).cba.causes = s.cba.causes ∧ (rearmEffect s w).cba.published = s.cba.published ∧
    (rearmEffect s w).cba.config = s.cba.config ∧ (rearmEffect s w).cba.load = s.cba.load ∧
    (rearmEffect s w).cba.loadQueue = s.cba.loadQueue ∧ (rearmEffect s w).cba.fetch = s.cba.fetch := by
  unfold rearmEffect; split <;> simp

/-- A per-window command keeps what its effect keeps and is not the result, the records, flags or the dirty set. -/
theorem perWindow_keep {α : Type} (p : State → α) (test : State → Win → Reason) (effect : State → Win → State) (x : Word)
    (h : ∀ s w, p (effect s w) = p s) (hr : ∀ s w r, p (State.refuse s w r) = p s) (hres : ∀ s c r m, p (State.setResult s c r m) = p s)
    (s : State) : p (s.perWindow test effect x) = p s := by
  unfold State.perWindow; simp only; rw [hres, takeWindows_keeps p test effect _ h hr]

/-- What LOAD keeps. -/
@[simp] theorem loadCommand_keeps (s : State) (x : Word) :
    (s.perWindow loadTest loadEffect x).lines = s.lines ∧
    (s.perWindow loadTest loadEffect x).cc = s.cc ∧
    (s.perWindow loadTest loadEffect x).pp = s.pp ∧
    (s.perWindow loadTest loadEffect x).fp = s.fp ∧
    (s.perWindow loadTest loadEffect x).nu = s.nu ∧
    (s.perWindow loadTest loadEffect x).mp = s.mp ∧
    (s.perWindow loadTest loadEffect x).mem = s.mem ∧
    (s.perWindow loadTest loadEffect x).free = s.free ∧
    (s.perWindow loadTest loadEffect x).pending = s.pending ∧
    (s.perWindow loadTest loadEffect x).cba.writeback = s.cba.writeback ∧
    (s.perWindow loadTest loadEffect x).cba.request = s.cba.request ∧
    (s.perWindow loadTest loadEffect x).cba.turn = s.cba.turn ∧
    (s.perWindow loadTest loadEffect x).cba.published = s.cba.published ∧
    (s.perWindow loadTest loadEffect x).cba.config = s.cba.config ∧
    (s.perWindow loadTest loadEffect x).cba.load = s.cba.load ∧
    (s.perWindow loadTest loadEffect x).cba.fetch = s.cba.fetch ∧
    (s.perWindow loadTest loadEffect x).ce = s.ce :=
  ⟨perWindow_keep (fun s => s.lines) _ _ _ (by simp) (by simp) (by simp) s,
   perWindow_keep (fun s => s.cc) _ _ _ (by simp) (by simp) (by simp) s,
   perWindow_keep (fun s => s.pp) _ _ _ (by simp) (by simp) (by simp) s,
   perWindow_keep (fun s => s.fp) _ _ _ (by simp) (by simp) (by simp) s,
   perWindow_keep (fun s => s.nu) _ _ _ (by simp) (by simp) (by simp) s,
   perWindow_keep (fun s => s.mp) _ _ _ (by simp) (by simp) (by simp) s,
   perWindow_keep (fun s => s.mem) _ _ _ (by simp) (by simp) (by simp) s,
   perWindow_keep (fun s => s.free) _ _ _ (by simp) (by simp) (by simp) s,
   perWindow_keep (fun s => s.pending) _ _ _ (by simp) (by simp) (by simp) s,
   perWindow_keep (fun s => s.cba.writeback) _ _ _ (by simp) (by simp) (by simp) s,
   perWindow_keep (fun s => s.cba.request) _ _ _ (by simp) (by simp) (by simp) s,
   perWindow_keep (fun s => s.cba.turn) _ _ _ (by simp) (by simp) (by simp) s,
   perWindow_keep (fun s => s.cba.published) _ _ _ (by simp) (by simp) (by simp) s,
   perWindow_keep (fun s => s.cba.config) _ _ _ (by simp) (by simp) (by simp) s,
   perWindow_keep (fun s => s.cba.load) _ _ _ (by simp) (by simp) (by simp) s,
   perWindow_keep (fun s => s.cba.fetch) _ _ _ (by simp) (by simp) (by simp) s,
   perWindow_keep (fun s => s.ce) _ _ _ (by simp) (by simp) (by simp) s⟩

/-- What SWITCH keeps. -/
@[simp] theorem switchCommand_keeps (s : State) (x : Word) :
    (s.perWindow switchTest switchEffect x).lines = s.lines ∧
    (s.perWindow switchTest switchEffect x).cc = s.cc ∧
    (s.perWindow switchTest switchEffect x).pp = s.pp ∧
    (s.perWindow switchTest switchEffect x).fp = s.fp ∧
    (s.perWindow switchTest switchEffect x).nu = s.nu ∧
    (s.perWindow switchTest switchEffect x).mp = s.mp ∧
    (s.perWindow switchTest switchEffect x).mem = s.mem ∧
    (s.perWindow switchTest switchEffect x).free = s.free ∧
    (s.perWindow switchTest switchEffect x).pending = s.pending ∧
    (s.perWindow switchTest switchEffect x).cba.writeback = s.cba.writeback ∧
    (s.perWindow switchTest switchEffect x).cba.request = s.cba.request ∧
    (s.perWindow switchTest switchEffect x).cba.turn = s.cba.turn ∧
    (s.perWindow switchTest switchEffect x).cba.published = s.cba.published ∧
    (s.perWindow switchTest switchEffect x).cba.config = s.cba.config ∧
    (s.perWindow switchTest switchEffect x).cba.load = s.cba.load ∧
    (s.perWindow switchTest switchEffect x).cba.fetch = s.cba.fetch ∧
    (s.perWindow switchTest switchEffect x).ce = s.ce ∧
    (s.perWindow switchTest switchEffect x).cba.loadQueue = s.cba.loadQueue :=
  ⟨perWindow_keep (fun s => s.lines) _ _ _ (by simp [switchEffect]) (by simp) (by simp) s,
   perWindow_keep (fun s => s.cc) _ _ _ (by simp [switchEffect]) (by simp) (by simp) s,
   perWindow_keep (fun s => s.pp) _ _ _ (by simp [switchEffect]) (by simp) (by simp) s,
   perWindow_keep (fun s => s.fp) _ _ _ (by simp [switchEffect]) (by simp) (by simp) s,
   perWindow_keep (fun s => s.nu) _ _ _ (by simp [switchEffect]) (by simp) (by simp) s,
   perWindow_keep (fun s => s.mp) _ _ _ (by simp [switchEffect]) (by simp) (by simp) s,
   perWindow_keep (fun s => s.mem) _ _ _ (by simp [switchEffect]) (by simp) (by simp) s,
   perWindow_keep (fun s => s.free) _ _ _ (by simp [switchEffect]) (by simp) (by simp) s,
   perWindow_keep (fun s => s.pending) _ _ _ (by simp [switchEffect]) (by simp) (by simp) s,
   perWindow_keep (fun s => s.cba.writeback) _ _ _ (by simp [switchEffect]) (by simp) (by simp) s,
   perWindow_keep (fun s => s.cba.request) _ _ _ (by simp [switchEffect]) (by simp) (by simp) s,
   perWindow_keep (fun s => s.cba.turn) _ _ _ (by simp [switchEffect]) (by simp) (by simp) s,
   perWindow_keep (fun s => s.cba.published) _ _ _ (by simp [switchEffect]) (by simp) (by simp) s,
   perWindow_keep (fun s => s.cba.config) _ _ _ (by simp [switchEffect]) (by simp) (by simp) s,
   perWindow_keep (fun s => s.cba.load) _ _ _ (by simp [switchEffect]) (by simp) (by simp) s,
   perWindow_keep (fun s => s.cba.fetch) _ _ _ (by simp [switchEffect]) (by simp) (by simp) s,
   perWindow_keep (fun s => s.ce) _ _ _ (by simp [switchEffect]) (by simp) (by simp) s,
   perWindow_keep (fun s => s.cba.loadQueue) _ _ _ (by simp [switchEffect]) (by simp) (by simp) s⟩

/-- What CANCEL keeps. -/
@[simp] theorem cancelCommand_keeps (s : State) (x : Word) :
    (s.perWindow cancelTest cancelEffect x).lines = s.lines ∧
    (s.perWindow cancelTest cancelEffect x).cc = s.cc ∧
    (s.perWindow cancelTest cancelEffect x).pp = s.pp ∧
    (s.perWindow cancelTest cancelEffect x).fp = s.fp ∧
    (s.perWindow cancelTest cancelEffect x).nu = s.nu ∧
    (s.perWindow cancelTest cancelEffect x).mp = s.mp ∧
    (s.perWindow cancelTest cancelEffect x).mem = s.mem ∧
    (s.perWindow cancelTest cancelEffect x).free = s.free ∧
    (s.perWindow cancelTest cancelEffect x).pending = s.pending ∧
    (s.perWindow cancelTest cancelEffect x).cba.writeback = s.cba.writeback ∧
    (s.perWindow cancelTest cancelEffect x).cba.request = s.cba.request ∧
    (s.perWindow cancelTest cancelEffect x).cba.turn = s.cba.turn ∧
    (s.perWindow cancelTest cancelEffect x).cba.published = s.cba.published ∧
    (s.perWindow cancelTest cancelEffect x).cba.config = s.cba.config ∧
    (s.perWindow cancelTest cancelEffect x).cba.load = s.cba.load ∧
    (s.perWindow cancelTest cancelEffect x).cba.fetch = s.cba.fetch ∧
    (s.perWindow cancelTest cancelEffect x).ce = s.ce ∧
    (s.perWindow cancelTest cancelEffect x).cba.loadQueue = s.cba.loadQueue :=
  ⟨perWindow_keep (fun s => s.lines) _ _ _ (by simp [cancelEffect]) (by simp) (by simp) s,
   perWindow_keep (fun s => s.cc) _ _ _ (by simp [cancelEffect]) (by simp) (by simp) s,
   perWindow_keep (fun s => s.pp) _ _ _ (by simp [cancelEffect]) (by simp) (by simp) s,
   perWindow_keep (fun s => s.fp) _ _ _ (by simp [cancelEffect]) (by simp) (by simp) s,
   perWindow_keep (fun s => s.nu) _ _ _ (by simp [cancelEffect]) (by simp) (by simp) s,
   perWindow_keep (fun s => s.mp) _ _ _ (by simp [cancelEffect]) (by simp) (by simp) s,
   perWindow_keep (fun s => s.mem) _ _ _ (by simp [cancelEffect]) (by simp) (by simp) s,
   perWindow_keep (fun s => s.free) _ _ _ (by simp [cancelEffect]) (by simp) (by simp) s,
   perWindow_keep (fun s => s.pending) _ _ _ (by simp [cancelEffect]) (by simp) (by simp) s,
   perWindow_keep (fun s => s.cba.writeback) _ _ _ (by simp [cancelEffect]) (by simp) (by simp) s,
   perWindow_keep (fun s => s.cba.request) _ _ _ (by simp [cancelEffect]) (by simp) (by simp) s,
   perWindow_keep (fun s => s.cba.turn) _ _ _ (by simp [cancelEffect]) (by simp) (by simp) s,
   perWindow_keep (fun s => s.cba.published) _ _ _ (by simp [cancelEffect]) (by simp) (by simp) s,
   perWindow_keep (fun s => s.cba.config) _ _ _ (by simp [cancelEffect]) (by simp) (by simp) s,
   perWindow_keep (fun s => s.cba.load) _ _ _ (by simp [cancelEffect]) (by simp) (by simp) s,
   perWindow_keep (fun s => s.cba.fetch) _ _ _ (by simp [cancelEffect]) (by simp) (by simp) s,
   perWindow_keep (fun s => s.ce) _ _ _ (by simp [cancelEffect]) (by simp) (by simp) s,
   perWindow_keep (fun s => s.cba.loadQueue) _ _ _ (by simp [cancelEffect]) (by simp) (by simp) s⟩

/-- What HOLD keeps. -/
@[simp] theorem holdCommand_keeps (s : State) (x : Word) :
    (s.perWindow inputTest holdEffect x).lines = s.lines ∧
    (s.perWindow inputTest holdEffect x).cc = s.cc ∧
    (s.perWindow inputTest holdEffect x).pp = s.pp ∧
    (s.perWindow inputTest holdEffect x).fp = s.fp ∧
    (s.perWindow inputTest holdEffect x).nu = s.nu ∧
    (s.perWindow inputTest holdEffect x).mp = s.mp ∧
    (s.perWindow inputTest holdEffect x).mem = s.mem ∧
    (s.perWindow inputTest holdEffect x).free = s.free ∧
    (s.perWindow inputTest holdEffect x).pending = s.pending ∧
    (s.perWindow inputTest holdEffect x).cba.writeback = s.cba.writeback ∧
    (s.perWindow inputTest holdEffect x).cba.request = s.cba.request ∧
    (s.perWindow inputTest holdEffect x).cba.turn = s.cba.turn ∧
    (s.perWindow inputTest holdEffect x).cba.published = s.cba.published ∧
    (s.perWindow inputTest holdEffect x).cba.config = s.cba.config ∧
    (s.perWindow inputTest holdEffect x).cba.load = s.cba.load ∧
    (s.perWindow inputTest holdEffect x).cba.fetch = s.cba.fetch ∧
    (s.perWindow inputTest holdEffect x).ce = s.ce ∧
    (s.perWindow inputTest holdEffect x).cba.loadQueue = s.cba.loadQueue :=
  ⟨perWindow_keep (fun s => s.lines) _ _ _ (by simp [holdEffect]) (by simp) (by simp) s,
   perWindow_keep (fun s => s.cc) _ _ _ (by simp [holdEffect]) (by simp) (by simp) s,
   perWindow_keep (fun s => s.pp) _ _ _ (by simp [holdEffect]) (by simp) (by simp) s,
   perWindow_keep (fun s => s.fp) _ _ _ (by simp [holdEffect]) (by simp) (by simp) s,
   perWindow_keep (fun s => s.nu) _ _ _ (by simp [holdEffect]) (by simp) (by simp) s,
   perWindow_keep (fun s => s.mp) _ _ _ (by simp [holdEffect]) (by simp) (by simp) s,
   perWindow_keep (fun s => s.mem) _ _ _ (by simp [holdEffect]) (by simp) (by simp) s,
   perWindow_keep (fun s => s.free) _ _ _ (by simp [holdEffect]) (by simp) (by simp) s,
   perWindow_keep (fun s => s.pending) _ _ _ (by simp [holdEffect]) (by simp) (by simp) s,
   perWindow_keep (fun s => s.cba.writeback) _ _ _ (by simp [holdEffect]) (by simp) (by simp) s,
   perWindow_keep (fun s => s.cba.request) _ _ _ (by simp [holdEffect]) (by simp) (by simp) s,
   perWindow_keep (fun s => s.cba.turn) _ _ _ (by simp [holdEffect]) (by simp) (by simp) s,
   perWindow_keep (fun s => s.cba.published) _ _ _ (by simp [holdEffect]) (by simp) (by simp) s,
   perWindow_keep (fun s => s.cba.config) _ _ _ (by simp [holdEffect]) (by simp) (by simp) s,
   perWindow_keep (fun s => s.cba.load) _ _ _ (by simp [holdEffect]) (by simp) (by simp) s,
   perWindow_keep (fun s => s.cba.fetch) _ _ _ (by simp [holdEffect]) (by simp) (by simp) s,
   perWindow_keep (fun s => s.ce) _ _ _ (by simp [holdEffect]) (by simp) (by simp) s,
   perWindow_keep (fun s => s.cba.loadQueue) _ _ _ (by simp [holdEffect]) (by simp) (by simp) s⟩

/-- What RELEASE keeps. -/
@[simp] theorem releaseCommand_keeps (s : State) (x : Word) :
    (s.perWindow inputTest releaseEffect x).lines = s.lines ∧
    (s.perWindow inputTest releaseEffect x).cc = s.cc ∧
    (s.perWindow inputTest releaseEffect x).pp = s.pp ∧
    (s.perWindow inputTest releaseEffect x).fp = s.fp ∧
    (s.perWindow inputTest releaseEffect x).nu = s.nu ∧
    (s.perWindow inputTest releaseEffect x).mp = s.mp ∧
    (s.perWindow inputTest releaseEffect x).mem = s.mem ∧
    (s.perWindow inputTest releaseEffect x).free = s.free ∧
    (s.perWindow inputTest releaseEffect x).pending = s.pending ∧
    (s.perWindow inputTest releaseEffect x).cba.writeback = s.cba.writeback ∧
    (s.perWindow inputTest releaseEffect x).cba.request = s.cba.request ∧
    (s.perWindow inputTest releaseEffect x).cba.turn = s.cba.turn ∧
    (s.perWindow inputTest releaseEffect x).cba.published = s.cba.published ∧
    (s.perWindow inputTest releaseEffect x).cba.config = s.cba.config ∧
    (s.perWindow inputTest releaseEffect x).cba.load = s.cba.load ∧
    (s.perWindow inputTest releaseEffect x).cba.fetch = s.cba.fetch ∧
    (s.perWindow inputTest releaseEffect x).ce = s.ce ∧
    (s.perWindow inputTest releaseEffect x).cba.loadQueue = s.cba.loadQueue :=
  ⟨perWindow_keep (fun s => s.lines) _ _ _ (by simp [releaseEffect]) (by simp) (by simp) s,
   perWindow_keep (fun s => s.cc) _ _ _ (by simp [releaseEffect]) (by simp) (by simp) s,
   perWindow_keep (fun s => s.pp) _ _ _ (by simp [releaseEffect]) (by simp) (by simp) s,
   perWindow_keep (fun s => s.fp) _ _ _ (by simp [releaseEffect]) (by simp) (by simp) s,
   perWindow_keep (fun s => s.nu) _ _ _ (by simp [releaseEffect]) (by simp) (by simp) s,
   perWindow_keep (fun s => s.mp) _ _ _ (by simp [releaseEffect]) (by simp) (by simp) s,
   perWindow_keep (fun s => s.mem) _ _ _ (by simp [releaseEffect]) (by simp) (by simp) s,
   perWindow_keep (fun s => s.free) _ _ _ (by simp [releaseEffect]) (by simp) (by simp) s,
   perWindow_keep (fun s => s.pending) _ _ _ (by simp [releaseEffect]) (by simp) (by simp) s,
   perWindow_keep (fun s => s.cba.writeback) _ _ _ (by simp [releaseEffect]) (by simp) (by simp) s,
   perWindow_keep (fun s => s.cba.request) _ _ _ (by simp [releaseEffect]) (by simp) (by simp) s,
   perWindow_keep (fun s => s.cba.turn) _ _ _ (by simp [releaseEffect]) (by simp) (by simp) s,
   perWindow_keep (fun s => s.cba.published) _ _ _ (by simp [releaseEffect]) (by simp) (by simp) s,
   perWindow_keep (fun s => s.cba.config) _ _ _ (by simp [releaseEffect]) (by simp) (by simp) s,
   perWindow_keep (fun s => s.cba.load) _ _ _ (by simp [releaseEffect]) (by simp) (by simp) s,
   perWindow_keep (fun s => s.cba.fetch) _ _ _ (by simp [releaseEffect]) (by simp) (by simp) s,
   perWindow_keep (fun s => s.ce) _ _ _ (by simp [releaseEffect]) (by simp) (by simp) s,
   perWindow_keep (fun s => s.cba.loadQueue) _ _ _ (by simp [releaseEffect]) (by simp) (by simp) s⟩

/-- What COMMIT keeps. -/
@[simp] theorem commitCommand_keeps (s : State) (x : Word) :
    (s.perWindow commitTest commitEffect x).lines = s.lines ∧
    (s.perWindow commitTest commitEffect x).cc = s.cc ∧
    (s.perWindow commitTest commitEffect x).pp = s.pp ∧
    (s.perWindow commitTest commitEffect x).fp = s.fp ∧
    (s.perWindow commitTest commitEffect x).nu = s.nu ∧
    (s.perWindow commitTest commitEffect x).mp = s.mp ∧
    (s.perWindow commitTest commitEffect x).mem = s.mem ∧
    (s.perWindow commitTest commitEffect x).free = s.free ∧
    (s.perWindow commitTest commitEffect x).pending = s.pending ∧
    (s.perWindow commitTest commitEffect x).cba.writeback = s.cba.writeback ∧
    (s.perWindow commitTest commitEffect x).cba.request = s.cba.request ∧
    (s.perWindow commitTest commitEffect x).cba.turn = s.cba.turn ∧
    (s.perWindow commitTest commitEffect x).cba.published = s.cba.published ∧
    (s.perWindow commitTest commitEffect x).cba.config = s.cba.config ∧
    (s.perWindow commitTest commitEffect x).cba.load = s.cba.load ∧
    (s.perWindow commitTest commitEffect x).cba.fetch = s.cba.fetch ∧
    (s.perWindow commitTest commitEffect x).ce = s.ce ∧
    (s.perWindow commitTest commitEffect x).cba.loadQueue = s.cba.loadQueue :=
  ⟨perWindow_keep (fun s => s.lines) _ _ _ (by simp [commitEffect]) (by simp) (by simp) s,
   perWindow_keep (fun s => s.cc) _ _ _ (by simp [commitEffect]) (by simp) (by simp) s,
   perWindow_keep (fun s => s.pp) _ _ _ (by simp [commitEffect]) (by simp) (by simp) s,
   perWindow_keep (fun s => s.fp) _ _ _ (by simp [commitEffect]) (by simp) (by simp) s,
   perWindow_keep (fun s => s.nu) _ _ _ (by simp [commitEffect]) (by simp) (by simp) s,
   perWindow_keep (fun s => s.mp) _ _ _ (by simp [commitEffect]) (by simp) (by simp) s,
   perWindow_keep (fun s => s.mem) _ _ _ (by simp [commitEffect]) (by simp) (by simp) s,
   perWindow_keep (fun s => s.free) _ _ _ (by simp [commitEffect]) (by simp) (by simp) s,
   perWindow_keep (fun s => s.pending) _ _ _ (by simp [commitEffect]) (by simp) (by simp) s,
   perWindow_keep (fun s => s.cba.writeback) _ _ _ (by simp [commitEffect]) (by simp) (by simp) s,
   perWindow_keep (fun s => s.cba.request) _ _ _ (by simp [commitEffect]) (by simp) (by simp) s,
   perWindow_keep (fun s => s.cba.turn) _ _ _ (by simp [commitEffect]) (by simp) (by simp) s,
   perWindow_keep (fun s => s.cba.published) _ _ _ (by simp [commitEffect]) (by simp) (by simp) s,
   perWindow_keep (fun s => s.cba.config) _ _ _ (by simp [commitEffect]) (by simp) (by simp) s,
   perWindow_keep (fun s => s.cba.load) _ _ _ (by simp [commitEffect]) (by simp) (by simp) s,
   perWindow_keep (fun s => s.cba.fetch) _ _ _ (by simp [commitEffect]) (by simp) (by simp) s,
   perWindow_keep (fun s => s.ce) _ _ _ (by simp [commitEffect]) (by simp) (by simp) s,
   perWindow_keep (fun s => s.cba.loadQueue) _ _ _ (by simp [commitEffect]) (by simp) (by simp) s⟩

/-- What REARM keeps. -/
@[simp] theorem rearmCommand_keeps (s : State) (x : Word) :
    (s.perWindow rearmTest rearmEffect x).lines = s.lines ∧
    (s.perWindow rearmTest rearmEffect x).cc = s.cc ∧
    (s.perWindow rearmTest rearmEffect x).pp = s.pp ∧
    (s.perWindow rearmTest rearmEffect x).fp = s.fp ∧
    (s.perWindow rearmTest rearmEffect x).nu = s.nu ∧
    (s.perWindow rearmTest rearmEffect x).mp = s.mp ∧
    (s.perWindow rearmTest rearmEffect x).mem = s.mem ∧
    (s.perWindow rearmTest rearmEffect x).free = s.free ∧
    (s.perWindow rearmTest rearmEffect x).pending = s.pending ∧
    (s.perWindow rearmTest rearmEffect x).cba.writeback = s.cba.writeback ∧
    (s.perWindow rearmTest rearmEffect x).cba.request = s.cba.request ∧
    (s.perWindow rearmTest rearmEffect x).cba.turn = s.cba.turn ∧
    (s.perWindow rearmTest rearmEffect x).cba.published = s.cba.published ∧
    (s.perWindow rearmTest rearmEffect x).cba.config = s.cba.config ∧
    (s.perWindow rearmTest rearmEffect x).cba.load = s.cba.load ∧
    (s.perWindow rearmTest rearmEffect x).cba.fetch = s.cba.fetch ∧
    (s.perWindow rearmTest rearmEffect x).cba.loadQueue = s.cba.loadQueue :=
  ⟨perWindow_keep (fun s => s.lines) _ _ _ (by simp) (by simp) (by simp) s,
   perWindow_keep (fun s => s.cc) _ _ _ (by simp) (by simp) (by simp) s,
   perWindow_keep (fun s => s.pp) _ _ _ (by simp) (by simp) (by simp) s,
   perWindow_keep (fun s => s.fp) _ _ _ (by simp) (by simp) (by simp) s,
   perWindow_keep (fun s => s.nu) _ _ _ (by simp) (by simp) (by simp) s,
   perWindow_keep (fun s => s.mp) _ _ _ (by simp) (by simp) (by simp) s,
   perWindow_keep (fun s => s.mem) _ _ _ (by simp) (by simp) (by simp) s,
   perWindow_keep (fun s => s.free) _ _ _ (by simp) (by simp) (by simp) s,
   perWindow_keep (fun s => s.pending) _ _ _ (by simp) (by simp) (by simp) s,
   perWindow_keep (fun s => s.cba.writeback) _ _ _ (by simp) (by simp) (by simp) s,
   perWindow_keep (fun s => s.cba.request) _ _ _ (by simp) (by simp) (by simp) s,
   perWindow_keep (fun s => s.cba.turn) _ _ _ (by simp) (by simp) (by simp) s,
   perWindow_keep (fun s => s.cba.published) _ _ _ (by simp) (by simp) (by simp) s,
   perWindow_keep (fun s => s.cba.config) _ _ _ (by simp) (by simp) (by simp) s,
   perWindow_keep (fun s => s.cba.load) _ _ _ (by simp) (by simp) (by simp) s,
   perWindow_keep (fun s => s.cba.fetch) _ _ _ (by simp) (by simp) (by simp) s,
   perWindow_keep (fun s => s.cba.loadQueue) _ _ _ (by simp) (by simp) (by simp) s⟩

/-- Withdrawing a read changes the request alone. -/
@[simp] theorem withdrawRead_keeps (s : State) :
    (s.withdrawRead).lines = s.lines ∧ (s.withdrawRead).cc = s.cc ∧ (s.withdrawRead).windows = s.windows ∧
    (s.withdrawRead).pp = s.pp ∧ (s.withdrawRead).fp = s.fp ∧ (s.withdrawRead).ce = s.ce ∧
    (s.withdrawRead).nu = s.nu ∧ (s.withdrawRead).mp = s.mp ∧ (s.withdrawRead).mem = s.mem ∧
    (s.withdrawRead).free = s.free ∧ (s.withdrawRead).pending = s.pending ∧
    (s.withdrawRead).cba.result = s.cba.result ∧ (s.withdrawRead).cba.dirty = s.cba.dirty ∧
    (s.withdrawRead).cba.writeback = s.cba.writeback ∧ (s.withdrawRead).cba.turn = s.cba.turn ∧
    (s.withdrawRead).cba.causes = s.cba.causes ∧ (s.withdrawRead).cba.published = s.cba.published ∧
    (s.withdrawRead).cba.config = s.cba.config ∧ (s.withdrawRead).cba.load = s.cba.load ∧
    (s.withdrawRead).cba.loadQueue = s.cba.loadQueue ∧ (s.withdrawRead).cba.fetch = s.cba.fetch := by
  unfold State.withdrawRead
  split
  · simp
  · split <;> simp

/-- A property that the sixteen unloadings of START keep. -/
theorem beginLoad_fold {α : Type} (p : State → α) (h : ∀ s w, p (State.touch (State.modWin s w Window.unloaded) (.win w)) = p s) (s : State) :
    p (allWindows.foldl (fun t w => (t.modWin w Window.unloaded).touch (.win w)) s) = p s := foldl_keeps p _ h _ s

/-- START changes the controller, records, the load and the dirty set. -/
@[simp] theorem beginLoad_keeps (s : State) :
    s.beginLoad.lines = s.lines ∧ s.beginLoad.pp = s.pp ∧ s.beginLoad.fp = s.fp ∧ s.beginLoad.ce = s.ce ∧ s.beginLoad.nu = s.nu ∧ s.beginLoad.mp = s.mp ∧ s.beginLoad.mem = s.mem ∧ s.beginLoad.free = s.free ∧ s.beginLoad.pending = s.pending ∧ s.beginLoad.cc.frz = s.cc.frz ∧ s.beginLoad.cc.phase = s.cc.phase ∧ s.beginLoad.cc.drainSet = s.cc.drainSet ∧ s.beginLoad.cc.lowSeen = s.cc.lowSeen ∧ s.beginLoad.cba.result = s.cba.result ∧ s.beginLoad.cba.writeback = s.cba.writeback ∧ s.beginLoad.cba.request = s.cba.request ∧ s.beginLoad.cba.turn = s.cba.turn ∧ s.beginLoad.cba.causes = s.cba.causes ∧ s.beginLoad.cba.published = s.cba.published ∧ s.beginLoad.cba.config = s.cba.config ∧ s.beginLoad.cba.loadQueue = s.cba.loadQueue ∧ s.beginLoad.cba.fetch = s.cba.fetch := by
  unfold State.beginLoad
  simp only [touch_keeps]
  exact ⟨beginLoad_fold (fun s => s.lines) (by simp) _,
   beginLoad_fold (fun s => s.pp) (by simp) _,
   beginLoad_fold (fun s => s.fp) (by simp) _,
   beginLoad_fold (fun s => s.ce) (by simp) _,
   beginLoad_fold (fun s => s.nu) (by simp) _,
   beginLoad_fold (fun s => s.mp) (by simp) _,
   beginLoad_fold (fun s => s.mem) (by simp) _,
   beginLoad_fold (fun s => s.free) (by simp) _,
   beginLoad_fold (fun s => s.pending) (by simp) _,
   beginLoad_fold (fun s => s.cc.frz) (by simp) _,
   beginLoad_fold (fun s => s.cc.phase) (by simp) _,
   beginLoad_fold (fun s => s.cc.drainSet) (by simp) _,
   beginLoad_fold (fun s => s.cc.lowSeen) (by simp) _,
   beginLoad_fold (fun s => s.cba.result) (by simp) _,
   beginLoad_fold (fun s => s.cba.writeback) (by simp) _,
   beginLoad_fold (fun s => s.cba.request) (by simp) _,
   beginLoad_fold (fun s => s.cba.turn) (by simp) _,
   beginLoad_fold (fun s => s.cba.causes) (by simp) _,
   beginLoad_fold (fun s => s.cba.published) (by simp) _,
   beginLoad_fold (fun s => s.cba.config) (by simp) _,
   beginLoad_fold (fun s => s.cba.loadQueue) (by simp) _,
   beginLoad_fold (fun s => s.cba.fetch) (by simp) _⟩

/-- STOP changes the controller, records, the Copy Engine, reservations, loads, the F port, flags and the dirty set. -/
@[simp] theorem stop_keeps (s : State) :
    (s.stop).pp = s.pp ∧ (s.stop).mp = s.mp ∧ (s.stop).mem = s.mem ∧ (s.stop).free = s.free ∧
    (s.stop).pending = s.pending ∧ (s.stop).cba.result = s.cba.result ∧ (s.stop).cba.writeback = s.cba.writeback ∧
    (s.stop).cba.turn = s.cba.turn ∧ (s.stop).cba.published = s.cba.published ∧ (s.stop).cba.config = s.cba.config ∧
    (s.stop).lines.cyc = s.lines.cyc ∧ (s.stop).lines.rst = s.lines.rst ∧ (s.stop).lines.accept = s.lines.accept ∧
    (s.stop).lines.memsz = s.lines.memsz ∧ (s.stop).lines.cbsel = s.lines.cbsel ∧
    (s.stop).lines.pBus = s.lines.pBus ∧ (s.stop).nu.queue = s.nu.queue ∧ (s.stop).nu.offer = s.nu.offer ∧
    (s.stop).nu.timer = s.nu.timer ∧ (s.stop).cc.frz = s.cc.frz := by
  unfold State.stop; simp

/-- What an accepted command keeps. -/
@[simp] theorem runCommand_keeps (s : State) (x : Word) (c : Command) :
    (s.runCommand x c).pp = s.pp ∧ (s.runCommand x c).mem = s.mem ∧ (s.runCommand x c).free = s.free ∧
    (s.runCommand x c).pending = s.pending ∧ (s.runCommand x c).cba.writeback = s.cba.writeback ∧
    (s.runCommand x c).cba.turn = s.cba.turn ∧ (s.runCommand x c).cba.published = s.cba.published ∧
    (s.runCommand x c).cba.config = s.cba.config ∧ (s.runCommand x c).lines.cyc = s.lines.cyc ∧
    (s.runCommand x c).lines.rst = s.lines.rst ∧ (s.runCommand x c).lines.accept = s.lines.accept ∧
    (s.runCommand x c).lines.memsz = s.lines.memsz ∧ (s.runCommand x c).lines.cbsel = s.lines.cbsel ∧
    (s.runCommand x c).lines.pBus = s.lines.pBus ∧ (s.runCommand x c).nu.queue = s.nu.queue ∧
    (s.runCommand x c).nu.offer = s.nu.offer ∧ (s.runCommand x c).nu.timer = s.nu.timer ∧
    (s.runCommand x c).mp.grant = s.mp.grant ∧ (s.runCommand x c).mp.pointer = s.mp.pointer ∧
    (s.runCommand x c).cc.frz = s.cc.frz := by
  unfold State.runCommand
  cases c <;> simp

/-- What a command word keeps. -/
@[simp] theorem takeCommand_keeps (s : State) (be : Lanes) (x : Word) :
    (s.takeCommand be x).pp = s.pp ∧ (s.takeCommand be x).mem = s.mem ∧ (s.takeCommand be x).free = s.free ∧
    (s.takeCommand be x).pending = s.pending ∧ (s.takeCommand be x).cba.writeback = s.cba.writeback ∧
    (s.takeCommand be x).cba.turn = s.cba.turn ∧ (s.takeCommand be x).cba.published = s.cba.published ∧
    (s.takeCommand be x).cba.config = s.cba.config ∧ (s.takeCommand be x).lines.cyc = s.lines.cyc ∧
    (s.takeCommand be x).lines.rst = s.lines.rst ∧ (s.takeCommand be x).lines.accept = s.lines.accept ∧
    (s.takeCommand be x).lines.memsz = s.lines.memsz ∧ (s.takeCommand be x).lines.cbsel = s.lines.cbsel ∧
    (s.takeCommand be x).lines.pBus = s.lines.pBus ∧ (s.takeCommand be x).nu.queue = s.nu.queue ∧
    (s.takeCommand be x).nu.offer = s.nu.offer ∧ (s.takeCommand be x).nu.timer = s.nu.timer ∧
    (s.takeCommand be x).mp.grant = s.mp.grant ∧ (s.takeCommand be x).mp.pointer = s.mp.pointer ∧
    (s.takeCommand be x).cc.frz = s.cc.frz := by
  unfold State.takeCommand
  split
  · simp
  · split <;> simp

/-! ## Issue and retries -/

/-- What the issue of a posted write keeps. -/
@[simp] theorem issueWrite_keeps (s : State) (x : PWrite) (rest : List PWrite) :
    (s.issueWrite x rest).mem = s.mem ∧ (s.issueWrite x rest).free = s.free ∧
    (s.issueWrite x rest).pending = s.pending ∧ (s.issueWrite x rest).cba.writeback = s.cba.writeback ∧
    (s.issueWrite x rest).cba.turn = s.cba.turn ∧ (s.issueWrite x rest).cba.published = s.cba.published ∧
    (s.issueWrite x rest).cba.config = s.cba.config ∧ (s.issueWrite x rest).lines.cyc = s.lines.cyc ∧
    (s.issueWrite x rest).lines.rst = s.lines.rst ∧ (s.issueWrite x rest).lines.accept = s.lines.accept ∧
    (s.issueWrite x rest).lines.memsz = s.lines.memsz ∧ (s.issueWrite x rest).lines.cbsel = s.lines.cbsel ∧
    (s.issueWrite x rest).lines.pBus = s.lines.pBus ∧ (s.issueWrite x rest).nu.queue = s.nu.queue ∧
    (s.issueWrite x rest).nu.offer = s.nu.offer ∧ (s.issueWrite x rest).nu.timer = s.nu.timer ∧
    (s.issueWrite x rest).mp.grant = s.mp.grant ∧ (s.issueWrite x rest).mp.pointer = s.mp.pointer ∧
    (s.issueWrite x rest).cc.frz = s.cc.frz ∧ (s.issueWrite x rest).pp.readSlot = s.pp.readSlot := by
  unfold State.issueWrite
  simp only
  split <;> try simp
  split <;> simp

/-- The PWQ after the issue of a posted write: the entry has left, or it has stalled at the head. -/
theorem issueWrite_pwq (s : State) (x : PWrite) (rest : List PWrite) :
    (s.issueWrite x rest).pp.pwq = rest ∨ (s.issueWrite x rest).pp.pwq = s.pp.pwq := by
  unfold State.issueWrite
  simp only
  split <;> try simp
  split <;> simp

/-- What the issue of a P access keeps. -/
@[simp] theorem issueP_keeps (s : State) :
    (s.issueP).mem = s.mem ∧ (s.issueP).free = s.free ∧ (s.issueP).pending = s.pending ∧
    (s.issueP).cba.writeback = s.cba.writeback ∧ (s.issueP).cba.turn = s.cba.turn ∧
    (s.issueP).cba.published = s.cba.published ∧ (s.issueP).cba.config = s.cba.config ∧
    (s.issueP).lines.cyc = s.lines.cyc ∧ (s.issueP).lines.rst = s.lines.rst ∧
    (s.issueP).lines.accept = s.lines.accept ∧ (s.issueP).lines.memsz = s.lines.memsz ∧
    (s.issueP).lines.cbsel = s.lines.cbsel ∧ (s.issueP).nu.queue = s.nu.queue ∧ (s.issueP).nu.offer = s.nu.offer ∧
    (s.issueP).nu.timer = s.nu.timer ∧ (s.issueP).mp.grant = s.mp.grant ∧ (s.issueP).mp.pointer = s.mp.pointer ∧
    (s.issueP).cc.frz = s.cc.frz := by
  unfold State.issueP
  split
  · simp
  · split <;> simp

/-- The PWQ never grows by an issue. -/
theorem issueP_pwq (s : State) : s.issueP.pp.pwq.length ≤ s.pp.pwq.length := by
  unfold State.issueP
  split
  · exact Nat.le_refl _
  · split
    · rename_i x rest h
      rcases issueWrite_pwq s x rest with e | e <;> simp [e, h]
    · simp
    · exact Nat.le_refl _

/-- The end of a stall at a fence keeps all but that mark. -/
@[simp] theorem endFenced_keeps (s t : State) :
    (endFenced s t).lines = t.lines ∧ (endFenced s t).cc = t.cc ∧ (endFenced s t).windows = t.windows ∧
    (endFenced s t).fp = t.fp ∧ (endFenced s t).ce = t.ce ∧ (endFenced s t).nu = t.nu ∧
    (endFenced s t).cba = t.cba ∧ (endFenced s t).mp = t.mp ∧ (endFenced s t).mem = t.mem ∧
    (endFenced s t).free = t.free ∧ (endFenced s t).pending = t.pending ∧ (endFenced s t).pp.pwq = t.pp.pwq ∧
    (endFenced s t).pp.readSlot = t.pp.readSlot ∧ (endFenced s t).pp.current = t.pp.current := by
  unfold endFenced; split <;> simp

/-- What a retry keeps that issues the access or leaves it at its fence. -/
@[simp] theorem retryHead_keeps (f : Option Win) (t : State) :
    (retryHead f t).mem = t.mem ∧ (retryHead f t).free = t.free ∧ (retryHead f t).pending = t.pending ∧
    (retryHead f t).cba.writeback = t.cba.writeback ∧ (retryHead f t).cba.turn = t.cba.turn ∧
    (retryHead f t).cba.published = t.cba.published ∧ (retryHead f t).cba.config = t.cba.config ∧
    (retryHead f t).lines.cyc = t.lines.cyc ∧ (retryHead f t).lines.rst = t.lines.rst ∧
    (retryHead f t).lines.accept = t.lines.accept ∧ (retryHead f t).lines.memsz = t.lines.memsz ∧
    (retryHead f t).lines.cbsel = t.lines.cbsel ∧ (retryHead f t).nu.queue = t.nu.queue ∧
    (retryHead f t).nu.offer = t.nu.offer ∧ (retryHead f t).nu.timer = t.nu.timer ∧
    (retryHead f t).mp.grant = t.mp.grant ∧ (retryHead f t).mp.pointer = t.mp.pointer ∧
    (retryHead f t).cc.frz = t.cc.frz := by
  unfold retryHead; split <;> simp

/-- What the retry of a P access keeps. -/
@[simp] theorem retryP_keeps (s t : State) :
    (retryP s t).mem = t.mem ∧ (retryP s t).free = t.free ∧ (retryP s t).pending = t.pending ∧
    (retryP s t).cba.writeback = t.cba.writeback ∧ (retryP s t).cba.turn = t.cba.turn ∧
    (retryP s t).cba.published = t.cba.published ∧ (retryP s t).cba.config = t.cba.config ∧
    (retryP s t).lines.cyc = t.lines.cyc ∧ (retryP s t).lines.rst = t.lines.rst ∧
    (retryP s t).lines.accept = t.lines.accept ∧ (retryP s t).lines.memsz = t.lines.memsz ∧
    (retryP s t).lines.cbsel = t.lines.cbsel ∧ (retryP s t).nu.queue = t.nu.queue ∧
    (retryP s t).nu.offer = t.nu.offer ∧ (retryP s t).nu.timer = t.nu.timer ∧ (retryP s t).mp.grant = t.mp.grant ∧
    (retryP s t).mp.pointer = t.mp.pointer ∧ (retryP s t).cc.frz = t.cc.frz := by
  unfold retryP; split <;> simp

/-- What the retries keep. -/
@[simp] theorem retryStalled_keeps (s t : State) :
    (retryStalled s t).mem = t.mem ∧ (retryStalled s t).free = t.free ∧ (retryStalled s t).pending = t.pending ∧
    (retryStalled s t).cba.writeback = t.cba.writeback ∧ (retryStalled s t).cba.turn = t.cba.turn ∧
    (retryStalled s t).cba.published = t.cba.published ∧ (retryStalled s t).cba.config = t.cba.config ∧
    (retryStalled s t).lines.cyc = t.lines.cyc ∧ (retryStalled s t).lines.rst = t.lines.rst ∧
    (retryStalled s t).lines.accept = t.lines.accept ∧ (retryStalled s t).lines.memsz = t.lines.memsz ∧
    (retryStalled s t).lines.cbsel = t.lines.cbsel ∧ (retryStalled s t).nu.queue = t.nu.queue ∧
    (retryStalled s t).nu.offer = t.nu.offer ∧ (retryStalled s t).nu.timer = t.nu.timer ∧
    (retryStalled s t).mp.grant = t.mp.grant ∧ (retryStalled s t).mp.pointer = t.mp.pointer ∧
    (retryStalled s t).cc.frz = t.cc.frz := by
  unfold retryStalled; simp

/-- The PWQ never grows by the retries. -/
theorem retryStalled_pwq (s t : State) : (retryStalled s t).pp.pwq.length ≤ t.pp.pwq.length := by
  unfold retryStalled
  simp only [retryF_keeps]
  unfold retryP retryHead
  split
  · split
    · simp
    · simpa using issueP_pwq (endFenced s t)
  · simp

end Sys2Proof.Laws
end

