-- ==== Sys2Proof/Laws/Events.lean ====
section
/-! SUPPORT. What pulses, grants, completions, loads, notices and resets change and what they keep
(Machine/Pulses.lean, Port.lean, Copy.lean, Loading.lean, WriteBack.lean, Notices.lean, Resets.lean), and what
the end of an event does (Machine/Records.lean). -/

namespace Sys2Proof.Laws

open Sys2Proof.Machine
open Sys2Proof.Machine.State

/-! ## Pulses at windows -/

/-- A miss changes records, flags and the dirty set. -/
@[simp] theorem miss_keeps (s : State) (w : Win) (d : Descriptor) :
    (s.miss w d).lines = s.lines ∧ (s.miss w d).cc = s.cc ∧ (s.miss w d).pp = s.pp ∧ (s.miss w d).fp = s.fp ∧
    (s.miss w d).ce = s.ce ∧ (s.miss w d).nu = s.nu ∧ (s.miss w d).mp = s.mp ∧ (s.miss w d).mem = s.mem ∧
    (s.miss w d).free = s.free ∧ (s.miss w d).pending = s.pending ∧ (s.miss w d).cba.result = s.cba.result ∧
    (s.miss w d).cba.writeback = s.cba.writeback ∧ (s.miss w d).cba.request = s.cba.request ∧
    (s.miss w d).cba.turn = s.cba.turn ∧ (s.miss w d).cba.published = s.cba.published ∧
    (s.miss w d).cba.config = s.cba.config ∧ (s.miss w d).cba.load = s.cba.load ∧
    (s.miss w d).cba.loadQueue = s.cba.loadQueue ∧ (s.miss w d).cba.fetch = s.cba.fetch := by
  unfold State.miss; simp only; split <;> simp

/-- An image held back changes records, flags and the dirty set. -/
@[simp] theorem holdBack_keeps (s : State) (w : Win) (e : WEvent) :
    (s.holdBack w e).lines = s.lines ∧ (s.holdBack w e).cc = s.cc ∧ (s.holdBack w e).pp = s.pp ∧
    (s.holdBack w e).fp = s.fp ∧ (s.holdBack w e).ce = s.ce ∧ (s.holdBack w e).nu = s.nu ∧
    (s.holdBack w e).mp = s.mp ∧ (s.holdBack w e).mem = s.mem ∧ (s.holdBack w e).free = s.free ∧
    (s.holdBack w e).pending = s.pending ∧ (s.holdBack w e).cba.result = s.cba.result ∧
    (s.holdBack w e).cba.writeback = s.cba.writeback ∧ (s.holdBack w e).cba.request = s.cba.request ∧
    (s.holdBack w e).cba.turn = s.cba.turn ∧ (s.holdBack w e).cba.published = s.cba.published ∧
    (s.holdBack w e).cba.config = s.cba.config ∧ (s.holdBack w e).cba.load = s.cba.load ∧
    (s.holdBack w e).cba.loadQueue = s.cba.loadQueue ∧ (s.holdBack w e).cba.fetch = s.cba.fetch := by
  simp [State.holdBack]

/-- An underfill changes records, the Copy Engine, flags and the dirty set. -/
@[simp] theorem underfill_keeps (s : State) (w : Win) (d : Descriptor) :
    (s.underfill w d).lines = s.lines ∧ (s.underfill w d).cc = s.cc ∧ (s.underfill w d).pp = s.pp ∧
    (s.underfill w d).fp = s.fp ∧ (s.underfill w d).nu = s.nu ∧ (s.underfill w d).mp = s.mp ∧
    (s.underfill w d).mem = s.mem ∧ (s.underfill w d).free = s.free ∧ (s.underfill w d).pending = s.pending ∧
    (s.underfill w d).cba.result = s.cba.result ∧ (s.underfill w d).cba.writeback = s.cba.writeback ∧
    (s.underfill w d).cba.request = s.cba.request ∧ (s.underfill w d).cba.turn = s.cba.turn ∧
    (s.underfill w d).cba.published = s.cba.published ∧ (s.underfill w d).cba.config = s.cba.config ∧
    (s.underfill w d).cba.load = s.cba.load ∧ (s.underfill w d).cba.loadQueue = s.cba.loadQueue ∧
    (s.underfill w d).cba.fetch = s.cba.fetch := by
  unfold State.underfill; simp only; split <;> simp

/-- The evaluation of a complete input image changes records, the Copy Queue, places, flags and the dirty set. -/
@[simp] theorem evalFilled_keeps (s : State) (w : Win) (d : Descriptor) :
    (s.evalFilled w d).lines = s.lines ∧ (s.evalFilled w d).cc = s.cc ∧ (s.evalFilled w d).pp = s.pp ∧
    (s.evalFilled w d).fp = s.fp ∧ (s.evalFilled w d).mp = s.mp ∧ (s.evalFilled w d).mem = s.mem ∧
    (s.evalFilled w d).free = s.free ∧ (s.evalFilled w d).pending = s.pending ∧
    (s.evalFilled w d).cba.result = s.cba.result ∧ (s.evalFilled w d).cba.writeback = s.cba.writeback ∧
    (s.evalFilled w d).cba.request = s.cba.request ∧ (s.evalFilled w d).cba.turn = s.cba.turn ∧
    (s.evalFilled w d).cba.published = s.cba.published ∧ (s.evalFilled w d).cba.config = s.cba.config ∧
    (s.evalFilled w d).cba.load = s.cba.load ∧ (s.evalFilled w d).cba.loadQueue = s.cba.loadQueue ∧
    (s.evalFilled w d).cba.fetch = s.cba.fetch ∧ (s.evalFilled w d).nu.offer = s.nu.offer ∧
    (s.evalFilled w d).nu.timer = s.nu.timer := by
  unfold State.evalFilled
  split
  · simp
  · split <;> simp

/-- An evaluation of an input window changes records, the Copy Queue, places, flags and the dirty set. -/
@[simp] theorem evalInput_keeps (s : State) (w : Win) (d : Descriptor) :
    (s.evalInput w d).lines = s.lines ∧ (s.evalInput w d).cc = s.cc ∧ (s.evalInput w d).pp = s.pp ∧
    (s.evalInput w d).fp = s.fp ∧ (s.evalInput w d).mp = s.mp ∧ (s.evalInput w d).mem = s.mem ∧
    (s.evalInput w d).free = s.free ∧ (s.evalInput w d).pending = s.pending ∧
    (s.evalInput w d).cba.result = s.cba.result ∧ (s.evalInput w d).cba.writeback = s.cba.writeback ∧
    (s.evalInput w d).cba.request = s.cba.request ∧ (s.evalInput w d).cba.turn = s.cba.turn ∧
    (s.evalInput w d).cba.published = s.cba.published ∧ (s.evalInput w d).cba.config = s.cba.config ∧
    (s.evalInput w d).cba.load = s.cba.load ∧ (s.evalInput w d).cba.loadQueue = s.cba.loadQueue ∧
    (s.evalInput w d).cba.fetch = s.cba.fetch ∧ (s.evalInput w d).nu.offer = s.nu.offer ∧
    (s.evalInput w d).nu.timer = s.nu.timer := by
  unfold State.evalInput; split <;> simp

/-- An underrun changes records, flags and the dirty set. -/
@[simp] theorem underrun_keeps (s : State) (w : Win) (d : Descriptor) :
    (s.underrun w d).lines = s.lines ∧ (s.underrun w d).cc = s.cc ∧ (s.underrun w d).pp = s.pp ∧
    (s.underrun w d).fp = s.fp ∧ (s.underrun w d).ce = s.ce ∧ (s.underrun w d).nu = s.nu ∧
    (s.underrun w d).mp = s.mp ∧ (s.underrun w d).mem = s.mem ∧ (s.underrun w d).free = s.free ∧
    (s.underrun w d).pending = s.pending ∧ (s.underrun w d).cba.result = s.cba.result ∧
    (s.underrun w d).cba.writeback = s.cba.writeback ∧ (s.underrun w d).cba.request = s.cba.request ∧
    (s.underrun w d).cba.turn = s.cba.turn ∧ (s.underrun w d).cba.published = s.cba.published ∧
    (s.underrun w d).cba.config = s.cba.config ∧ (s.underrun w d).cba.load = s.cba.load ∧
    (s.underrun w d).cba.loadQueue = s.cba.loadQueue ∧ (s.underrun w d).cba.fetch = s.cba.fetch := by
  unfold State.underrun; split <;> simp

/-- The evaluation of a committed image changes records, the Copy Queue, places, flags and the dirty set. -/
@[simp] theorem evalCommitted_keeps (s : State) (w : Win) (d : Descriptor) :
    (s.evalCommitted w d).lines = s.lines ∧ (s.evalCommitted w d).cc = s.cc ∧ (s.evalCommitted w d).pp = s.pp ∧
    (s.evalCommitted w d).fp = s.fp ∧ (s.evalCommitted w d).mp = s.mp ∧ (s.evalCommitted w d).mem = s.mem ∧
    (s.evalCommitted w d).free = s.free ∧ (s.evalCommitted w d).pending = s.pending ∧
    (s.evalCommitted w d).cba.result = s.cba.result ∧ (s.evalCommitted w d).cba.writeback = s.cba.writeback ∧
    (s.evalCommitted w d).cba.request = s.cba.request ∧ (s.evalCommitted w d).cba.turn = s.cba.turn ∧
    (s.evalCommitted w d).cba.published = s.cba.published ∧ (s.evalCommitted w d).cba.config = s.cba.config ∧
    (s.evalCommitted w d).cba.load = s.cba.load ∧ (s.evalCommitted w d).cba.loadQueue = s.cba.loadQueue ∧
    (s.evalCommitted w d).cba.fetch = s.cba.fetch ∧ (s.evalCommitted w d).nu.offer = s.nu.offer ∧
    (s.evalCommitted w d).nu.timer = s.nu.timer := by
  unfold State.evalCommitted; split <;> simp

/-- An evaluation of an output window changes records, the Copy Queue, places, flags and the dirty set. -/
@[simp] theorem evalOutput_keeps (s : State) (w : Win) (d : Descriptor) :
    (s.evalOutput w d).lines = s.lines ∧ (s.evalOutput w d).cc = s.cc ∧ (s.evalOutput w d).pp = s.pp ∧
    (s.evalOutput w d).fp = s.fp ∧ (s.evalOutput w d).mp = s.mp ∧ (s.evalOutput w d).mem = s.mem ∧
    (s.evalOutput w d).free = s.free ∧ (s.evalOutput w d).pending = s.pending ∧
    (s.evalOutput w d).cba.result = s.cba.result ∧ (s.evalOutput w d).cba.writeback = s.cba.writeback ∧
    (s.evalOutput w d).cba.request = s.cba.request ∧ (s.evalOutput w d).cba.turn = s.cba.turn ∧
    (s.evalOutput w d).cba.published = s.cba.published ∧ (s.evalOutput w d).cba.config = s.cba.config ∧
    (s.evalOutput w d).cba.load = s.cba.load ∧ (s.evalOutput w d).cba.loadQueue = s.cba.loadQueue ∧
    (s.evalOutput w d).cba.fetch = s.cba.fetch ∧ (s.evalOutput w d).nu.offer = s.nu.offer ∧
    (s.evalOutput w d).nu.timer = s.nu.timer := by
  unfold State.evalOutput; split <;> simp

/-- An evaluated pulse at a window changes records, the Copy Queue, places, flags and the dirty set. -/
@[simp] theorem evaluate_keeps (s : State) (b : Bool) (w : Win) :
    (s.evaluate b w).lines = s.lines ∧ (s.evaluate b w).cc = s.cc ∧ (s.evaluate b w).pp = s.pp ∧
    (s.evaluate b w).fp = s.fp ∧ (s.evaluate b w).mp = s.mp ∧ (s.evaluate b w).mem = s.mem ∧
    (s.evaluate b w).free = s.free ∧ (s.evaluate b w).pending = s.pending ∧
    (s.evaluate b w).cba.result = s.cba.result ∧ (s.evaluate b w).cba.writeback = s.cba.writeback ∧
    (s.evaluate b w).cba.request = s.cba.request ∧ (s.evaluate b w).cba.turn = s.cba.turn ∧
    (s.evaluate b w).cba.published = s.cba.published ∧ (s.evaluate b w).cba.config = s.cba.config ∧
    (s.evaluate b w).cba.load = s.cba.load ∧ (s.evaluate b w).cba.loadQueue = s.cba.loadQueue ∧
    (s.evaluate b w).cba.fetch = s.cba.fetch ∧ (s.evaluate b w).nu.offer = s.nu.offer ∧
    (s.evaluate b w).nu.timer = s.nu.timer := by
  unfold State.evaluate
  split
  · simp
  · split
    · simp
    · split
      · simp
      · split <;> simp

/-- The notice of the slot being left changes the queue and FENCE. -/
@[simp] theorem noticeOld_keeps (s : State) (w : Win) (a : PlaceAnswer) :
    (s.noticeOld w a).lines = s.lines ∧ (s.noticeOld w a).cc = s.cc ∧ (s.noticeOld w a).pp = s.pp ∧
    (s.noticeOld w a).fp = s.fp ∧ (s.noticeOld w a).ce = s.ce ∧ (s.noticeOld w a).mp = s.mp ∧
    (s.noticeOld w a).mem = s.mem ∧ (s.noticeOld w a).free = s.free ∧ (s.noticeOld w a).pending = s.pending ∧
    (s.noticeOld w a).cba = s.cba ∧ (s.noticeOld w a).nu.offer = s.nu.offer ∧
    (s.noticeOld w a).nu.timer = s.nu.timer ∧ (s.noticeOld w a).nu.reservations = s.nu.reservations := by
  unfold State.noticeOld; split <;> simp

/-- A switch changes records, the Copy Queue, places, flags and the dirty set. -/
@[simp] theorem takeSwitch_keeps (s : State) (w : Win) (a : PlaceAnswer) :
    (s.takeSwitch w a).lines = s.lines ∧ (s.takeSwitch w a).cc = s.cc ∧ (s.takeSwitch w a).pp = s.pp ∧
    (s.takeSwitch w a).fp = s.fp ∧ (s.takeSwitch w a).mp = s.mp ∧ (s.takeSwitch w a).mem = s.mem ∧
    (s.takeSwitch w a).free = s.free ∧ (s.takeSwitch w a).pending = s.pending ∧
    (s.takeSwitch w a).cba.result = s.cba.result ∧ (s.takeSwitch w a).cba.writeback = s.cba.writeback ∧
    (s.takeSwitch w a).cba.request = s.cba.request ∧ (s.takeSwitch w a).cba.turn = s.cba.turn ∧
    (s.takeSwitch w a).cba.published = s.cba.published ∧ (s.takeSwitch w a).cba.config = s.cba.config ∧
    (s.takeSwitch w a).cba.load = s.cba.load ∧ (s.takeSwitch w a).cba.loadQueue = s.cba.loadQueue ∧
    (s.takeSwitch w a).cba.fetch = s.cba.fetch ∧ (s.takeSwitch w a).nu.offer = s.nu.offer ∧
    (s.takeSwitch w a).nu.timer = s.nu.timer ∧ (s.takeSwitch w a).nu.reservations = s.nu.reservations := by
  simp [State.takeSwitch]

/-- A pulse at a window changes records, the Copy Queue, places, flags and the dirty set. -/
@[simp] theorem takePulse_keeps (b o : Bool) (s : State) (w : Win) :
    (State.takePulse b o s w).lines = s.lines ∧ (State.takePulse b o s w).cc = s.cc ∧
    (State.takePulse b o s w).pp = s.pp ∧ (State.takePulse b o s w).fp = s.fp ∧
    (State.takePulse b o s w).mp = s.mp ∧ (State.takePulse b o s w).mem = s.mem ∧
    (State.takePulse b o s w).free = s.free ∧ (State.takePulse b o s w).pending = s.pending ∧
    (State.takePulse b o s w).cba.result = s.cba.result ∧
    (State.takePulse b o s w).cba.writeback = s.cba.writeback ∧
    (State.takePulse b o s w).cba.request = s.cba.request ∧ (State.takePulse b o s w).cba.turn = s.cba.turn ∧
    (State.takePulse b o s w).cba.published = s.cba.published ∧
    (State.takePulse b o s w).cba.config = s.cba.config ∧ (State.takePulse b o s w).cba.load = s.cba.load ∧
    (State.takePulse b o s w).cba.loadQueue = s.cba.loadQueue ∧ (State.takePulse b o s w).cba.fetch = s.cba.fetch ∧
    (State.takePulse b o s w).nu.offer = s.nu.offer ∧ (State.takePulse b o s w).nu.timer = s.nu.timer := by
  unfold State.takePulse
  split
  · split <;> simp
  · simp

/-- An evaluated pulse at all windows changes records, the Copy Queue, places, flags and the dirty set. -/
@[simp] theorem deliver_keeps (s : State) (b o : Bool) :
    (s.deliver b o).lines = s.lines ∧
    (s.deliver b o).cc = s.cc ∧
    (s.deliver b o).pp = s.pp ∧
    (s.deliver b o).fp = s.fp ∧
    (s.deliver b o).mp = s.mp ∧
    (s.deliver b o).mem = s.mem ∧
    (s.deliver b o).free = s.free ∧
    (s.deliver b o).pending = s.pending ∧
    (s.deliver b o).cba.result = s.cba.result ∧
    (s.deliver b o).cba.writeback = s.cba.writeback ∧
    (s.deliver b o).cba.request = s.cba.request ∧
    (s.deliver b o).cba.turn = s.cba.turn ∧
    (s.deliver b o).cba.published = s.cba.published ∧
    (s.deliver b o).cba.config = s.cba.config ∧
    (s.deliver b o).cba.load = s.cba.load ∧
    (s.deliver b o).cba.loadQueue = s.cba.loadQueue ∧
    (s.deliver b o).cba.fetch = s.cba.fetch ∧
    (s.deliver b o).nu.offer = s.nu.offer ∧
    (s.deliver b o).nu.timer = s.nu.timer := by
  unfold State.deliver
  exact ⟨foldl_keeps (fun s => s.lines) (State.takePulse b o) (by simp) _ s,
   foldl_keeps (fun s => s.cc) (State.takePulse b o) (by simp) _ s,
   foldl_keeps (fun s => s.pp) (State.takePulse b o) (by simp) _ s,
   foldl_keeps (fun s => s.fp) (State.takePulse b o) (by simp) _ s,
   foldl_keeps (fun s => s.mp) (State.takePulse b o) (by simp) _ s,
   foldl_keeps (fun s => s.mem) (State.takePulse b o) (by simp) _ s,
   foldl_keeps (fun s => s.free) (State.takePulse b o) (by simp) _ s,
   foldl_keeps (fun s => s.pending) (State.takePulse b o) (by simp) _ s,
   foldl_keeps (fun s => s.cba.result) (State.takePulse b o) (by simp) _ s,
   foldl_keeps (fun s => s.cba.writeback) (State.takePulse b o) (by simp) _ s,
   foldl_keeps (fun s => s.cba.request) (State.takePulse b o) (by simp) _ s,
   foldl_keeps (fun s => s.cba.turn) (State.takePulse b o) (by simp) _ s,
   foldl_keeps (fun s => s.cba.published) (State.takePulse b o) (by simp) _ s,
   foldl_keeps (fun s => s.cba.config) (State.takePulse b o) (by simp) _ s,
   foldl_keeps (fun s => s.cba.load) (State.takePulse b o) (by simp) _ s,
   foldl_keeps (fun s => s.cba.loadQueue) (State.takePulse b o) (by simp) _ s,
   foldl_keeps (fun s => s.cba.fetch) (State.takePulse b o) (by simp) _ s,
   foldl_keeps (fun s => s.nu.offer) (State.takePulse b o) (by simp) _ s,
   foldl_keeps (fun s => s.nu.timer) (State.takePulse b o) (by simp) _ s⟩

/-- An alignment pulse at a window changes records, the Copy Engine, flags and the dirty set. -/
@[simp] theorem align_keeps (s : State) (w : Win) :
    (s.align w).lines = s.lines ∧ (s.align w).cc = s.cc ∧ (s.align w).pp = s.pp ∧ (s.align w).fp = s.fp ∧
    (s.align w).nu = s.nu ∧ (s.align w).mp = s.mp ∧ (s.align w).mem = s.mem ∧ (s.align w).free = s.free ∧
    (s.align w).pending = s.pending ∧ (s.align w).cba.result = s.cba.result ∧
    (s.align w).cba.writeback = s.cba.writeback ∧ (s.align w).cba.request = s.cba.request ∧
    (s.align w).cba.turn = s.cba.turn ∧ (s.align w).cba.published = s.cba.published ∧
    (s.align w).cba.config = s.cba.config ∧ (s.align w).cba.load = s.cba.load ∧
    (s.align w).cba.loadQueue = s.cba.loadQueue ∧ (s.align w).cba.fetch = s.cba.fetch := by
  unfold State.align
  split
  · simp
  · split <;> simp

/-- An alignment pulse at all windows changes records, the Copy Engine, flags and the dirty set. -/
@[simp] theorem deliverAlignment_keeps (s : State) :
    (s.deliverAlignment).lines = s.lines ∧
    (s.deliverAlignment).cc = s.cc ∧
    (s.deliverAlignment).pp = s.pp ∧
    (s.deliverAlignment).fp = s.fp ∧
    (s.deliverAlignment).nu = s.nu ∧
    (s.deliverAlignment).mp = s.mp ∧
    (s.deliverAlignment).mem = s.mem ∧
    (s.deliverAlignment).free = s.free ∧
    (s.deliverAlignment).pending = s.pending ∧
    (s.deliverAlignment).cba.result = s.cba.result ∧
    (s.deliverAlignment).cba.writeback = s.cba.writeback ∧
    (s.deliverAlignment).cba.request = s.cba.request ∧
    (s.deliverAlignment).cba.turn = s.cba.turn ∧
    (s.deliverAlignment).cba.published = s.cba.published ∧
    (s.deliverAlignment).cba.config = s.cba.config ∧
    (s.deliverAlignment).cba.load = s.cba.load ∧
    (s.deliverAlignment).cba.loadQueue = s.cba.loadQueue ∧
    (s.deliverAlignment).cba.fetch = s.cba.fetch := by
  unfold State.deliverAlignment
  exact ⟨foldl_keeps (fun s => s.lines) State.align (by simp) _ s,
   foldl_keeps (fun s => s.cc) State.align (by simp) _ s,
   foldl_keeps (fun s => s.pp) State.align (by simp) _ s,
   foldl_keeps (fun s => s.fp) State.align (by simp) _ s,
   foldl_keeps (fun s => s.nu) State.align (by simp) _ s,
   foldl_keeps (fun s => s.mp) State.align (by simp) _ s,
   foldl_keeps (fun s => s.mem) State.align (by simp) _ s,
   foldl_keeps (fun s => s.free) State.align (by simp) _ s,
   foldl_keeps (fun s => s.pending) State.align (by simp) _ s,
   foldl_keeps (fun s => s.cba.result) State.align (by simp) _ s,
   foldl_keeps (fun s => s.cba.writeback) State.align (by simp) _ s,
   foldl_keeps (fun s => s.cba.request) State.align (by simp) _ s,
   foldl_keeps (fun s => s.cba.turn) State.align (by simp) _ s,
   foldl_keeps (fun s => s.cba.published) State.align (by simp) _ s,
   foldl_keeps (fun s => s.cba.config) State.align (by simp) _ s,
   foldl_keeps (fun s => s.cba.load) State.align (by simp) _ s,
   foldl_keeps (fun s => s.cba.loadQueue) State.align (by simp) _ s,
   foldl_keeps (fun s => s.cba.fetch) State.align (by simp) _ s⟩

/-- A loss event at a window changes its record and the dirty set. -/
@[simp] theorem lose_keeps (s : State) (w : Win) :
    (s.lose w).lines = s.lines ∧ (s.lose w).cc = s.cc ∧ (s.lose w).pp = s.pp ∧ (s.lose w).fp = s.fp ∧
    (s.lose w).ce = s.ce ∧ (s.lose w).nu = s.nu ∧ (s.lose w).mp = s.mp ∧ (s.lose w).mem = s.mem ∧
    (s.lose w).free = s.free ∧ (s.lose w).pending = s.pending ∧ (s.lose w).cba.result = s.cba.result ∧
    (s.lose w).cba.writeback = s.cba.writeback ∧ (s.lose w).cba.request = s.cba.request ∧
    (s.lose w).cba.turn = s.cba.turn ∧ (s.lose w).cba.causes = s.cba.causes ∧
    (s.lose w).cba.published = s.cba.published ∧ (s.lose w).cba.config = s.cba.config ∧
    (s.lose w).cba.load = s.cba.load ∧ (s.lose w).cba.loadQueue = s.cba.loadQueue ∧
    (s.lose w).cba.fetch = s.cba.fetch := by
  unfold State.lose
  split
  · simp
  · split <;> simp

/-- A loss event at all windows changes records and the dirty set. -/
@[simp] theorem loseAll_keeps (s : State) :
    (allWindows.foldl State.lose s).lines = s.lines ∧
    (allWindows.foldl State.lose s).cc = s.cc ∧
    (allWindows.foldl State.lose s).pp = s.pp ∧
    (allWindows.foldl State.lose s).fp = s.fp ∧
    (allWindows.foldl State.lose s).ce = s.ce ∧
    (allWindows.foldl State.lose s).nu = s.nu ∧
    (allWindows.foldl State.lose s).mp = s.mp ∧
    (allWindows.foldl State.lose s).mem = s.mem ∧
    (allWindows.foldl State.lose s).free = s.free ∧
    (allWindows.foldl State.lose s).pending = s.pending ∧
    (allWindows.foldl State.lose s).cba.result = s.cba.result ∧
    (allWindows.foldl State.lose s).cba.writeback = s.cba.writeback ∧
    (allWindows.foldl State.lose s).cba.request = s.cba.request ∧
    (allWindows.foldl State.lose s).cba.turn = s.cba.turn ∧
    (allWindows.foldl State.lose s).cba.causes = s.cba.causes ∧
    (allWindows.foldl State.lose s).cba.published = s.cba.published ∧
    (allWindows.foldl State.lose s).cba.config = s.cba.config ∧
    (allWindows.foldl State.lose s).cba.load = s.cba.load ∧
    (allWindows.foldl State.lose s).cba.loadQueue = s.cba.loadQueue ∧
    (allWindows.foldl State.lose s).cba.fetch = s.cba.fetch := by
  exact ⟨foldl_keeps (fun s => s.lines) State.lose (by simp) _ s,
   foldl_keeps (fun s => s.cc) State.lose (by simp) _ s,
   foldl_keeps (fun s => s.pp) State.lose (by simp) _ s,
   foldl_keeps (fun s => s.fp) State.lose (by simp) _ s,
   foldl_keeps (fun s => s.ce) State.lose (by simp) _ s,
   foldl_keeps (fun s => s.nu) State.lose (by simp) _ s,
   foldl_keeps (fun s => s.mp) State.lose (by simp) _ s,
   foldl_keeps (fun s => s.mem) State.lose (by simp) _ s,
   foldl_keeps (fun s => s.free) State.lose (by simp) _ s,
   foldl_keeps (fun s => s.pending) State.lose (by simp) _ s,
   foldl_keeps (fun s => s.cba.result) State.lose (by simp) _ s,
   foldl_keeps (fun s => s.cba.writeback) State.lose (by simp) _ s,
   foldl_keeps (fun s => s.cba.request) State.lose (by simp) _ s,
   foldl_keeps (fun s => s.cba.turn) State.lose (by simp) _ s,
   foldl_keeps (fun s => s.cba.causes) State.lose (by simp) _ s,
   foldl_keeps (fun s => s.cba.published) State.lose (by simp) _ s,
   foldl_keeps (fun s => s.cba.config) State.lose (by simp) _ s,
   foldl_keeps (fun s => s.cba.load) State.lose (by simp) _ s,
   foldl_keeps (fun s => s.cba.loadQueue) State.lose (by simp) _ s,
   foldl_keeps (fun s => s.cba.fetch) State.lose (by simp) _ s⟩

/-! ## The Cycle Controller -/

/-- The interval timer alone. -/
@[simp] theorem startInterval_keeps (s : State) :
    (s.startInterval).lines = s.lines ∧ (s.startInterval).windows = s.windows ∧ (s.startInterval).pp = s.pp ∧
    (s.startInterval).fp = s.fp ∧ (s.startInterval).ce = s.ce ∧ (s.startInterval).nu = s.nu ∧
    (s.startInterval).mp = s.mp ∧ (s.startInterval).mem = s.mem ∧ (s.startInterval).free = s.free ∧
    (s.startInterval).pending = s.pending ∧ (s.startInterval).cba = s.cba ∧
    (s.startInterval).cc.state = s.cc.state ∧ (s.startInterval).cc.phase = s.cc.phase ∧
    (s.startInterval).cc.cycle = s.cc.cycle ∧ (s.startInterval).cc.groupPos = s.cc.groupPos ∧
    (s.startInterval).cc.lowSeen = s.cc.lowSeen ∧ (s.startInterval).cc.frz = s.cc.frz ∧
    (s.startInterval).cc.freezeReq = s.cc.freezeReq ∧ (s.startInterval).cc.watchdog = s.cc.watchdog ∧
    (s.startInterval).cc.drainSet = s.cc.drainSet := by
  unfold State.startInterval; split <;> simp

/-- The watchdog alone. -/
@[simp] theorem startWatchdog_keeps (s : State) :
    (s.startWatchdog).lines = s.lines ∧ (s.startWatchdog).windows = s.windows ∧ (s.startWatchdog).pp = s.pp ∧
    (s.startWatchdog).fp = s.fp ∧ (s.startWatchdog).ce = s.ce ∧ (s.startWatchdog).nu = s.nu ∧
    (s.startWatchdog).mp = s.mp ∧ (s.startWatchdog).mem = s.mem ∧ (s.startWatchdog).free = s.free ∧
    (s.startWatchdog).pending = s.pending ∧ (s.startWatchdog).cba = s.cba ∧
    (s.startWatchdog).cc.state = s.cc.state ∧ (s.startWatchdog).cc.phase = s.cc.phase ∧
    (s.startWatchdog).cc.cycle = s.cc.cycle ∧ (s.startWatchdog).cc.groupPos = s.cc.groupPos ∧
    (s.startWatchdog).cc.lowSeen = s.cc.lowSeen ∧ (s.startWatchdog).cc.frz = s.cc.frz ∧
    (s.startWatchdog).cc.freezeReq = s.cc.freezeReq ∧ (s.startWatchdog).cc.interval = s.cc.interval ∧
    (s.startWatchdog).cc.drainSet = s.cc.drainSet := by
  unfold State.startWatchdog; split <;> simp

/-- A timer changes no record. -/
@[simp] theorem win_startInterval (s : State) (v : Win) :
    (s.startInterval).win v = s.win v := win_congr (by simp) v

/-- A timer changes no record. -/
@[simp] theorem win_startWatchdog (s : State) (v : Win) :
    (s.startWatchdog).win v = s.win v := win_congr (by simp) v

/-- The count of a pulse changes the counter, CYCLE and the dirty set. -/
@[simp] theorem countPulse_keeps (s : State) :
    (s.countPulse).lines = s.lines ∧ (s.countPulse).windows = s.windows ∧ (s.countPulse).pp = s.pp ∧
    (s.countPulse).fp = s.fp ∧ (s.countPulse).ce = s.ce ∧ (s.countPulse).nu = s.nu ∧ (s.countPulse).mp = s.mp ∧
    (s.countPulse).mem = s.mem ∧ (s.countPulse).free = s.free ∧ (s.countPulse).pending = s.pending ∧
    (s.countPulse).cba.result = s.cba.result ∧ (s.countPulse).cba.writeback = s.cba.writeback ∧
    (s.countPulse).cba.request = s.cba.request ∧ (s.countPulse).cba.turn = s.cba.turn ∧
    (s.countPulse).cba.published = s.cba.published ∧ (s.countPulse).cba.config = s.cba.config ∧
    (s.countPulse).cba.load = s.cba.load ∧ (s.countPulse).cba.loadQueue = s.cba.loadQueue ∧
    (s.countPulse).cba.fetch = s.cba.fetch ∧ (s.countPulse).cc.state = s.cc.state ∧
    (s.countPulse).cc.phase = s.cc.phase ∧ (s.countPulse).cc.groupPos = s.cc.groupPos ∧
    (s.countPulse).cc.lowSeen = s.cc.lowSeen ∧ (s.countPulse).cc.frz = s.cc.frz ∧
    (s.countPulse).cc.freezeReq = s.cc.freezeReq ∧ (s.countPulse).cc.interval = s.cc.interval ∧
    (s.countPulse).cc.watchdog = s.cc.watchdog ∧ (s.countPulse).cc.drainSet = s.cc.drainSet := by
  simp [State.countPulse]

/-- The count of a pulse changes no record. -/
@[simp] theorem win_countPulse (s : State) (v : Win) :
    (s.countPulse).win v = s.win v := by
  simp only [State.countPulse, win_record]; rfl

/-- The counter is incremented, wrapping (R24). -/
@[simp] theorem countPulse_cycle (s : State) : s.countPulse.cc.cycle = s.cc.cycle + 1 := by simp [State.countPulse]

/-- CYCLE is recorded (R24). -/
@[simp] theorem countPulse_causes (s : State) : s.countPulse.cba.causes = s.cba.causes ||| Cause.cycle.mask := by
  simp [State.countPulse]

/-- A pulse changes the controller, records, the Copy Queue, places, flags and the dirty set. -/
@[simp] theorem armedPulse_keeps (s : State) :
    (s.armedPulse).lines = s.lines ∧ (s.armedPulse).pp = s.pp ∧ (s.armedPulse).fp = s.fp ∧
    (s.armedPulse).mp = s.mp ∧ (s.armedPulse).mem = s.mem ∧ (s.armedPulse).free = s.free ∧
    (s.armedPulse).pending = s.pending ∧ (s.armedPulse).cba.result = s.cba.result ∧
    (s.armedPulse).cba.writeback = s.cba.writeback ∧ (s.armedPulse).cba.request = s.cba.request ∧
    (s.armedPulse).cba.turn = s.cba.turn ∧ (s.armedPulse).cba.published = s.cba.published ∧
    (s.armedPulse).cba.config = s.cba.config ∧ (s.armedPulse).cba.load = s.cba.load ∧
    (s.armedPulse).cba.loadQueue = s.cba.loadQueue ∧ (s.armedPulse).cba.fetch = s.cba.fetch ∧
    (s.armedPulse).nu.offer = s.nu.offer ∧ (s.armedPulse).nu.timer = s.nu.timer ∧
    (s.armedPulse).cc.phase = s.cc.phase ∧ (s.armedPulse).cc.lowSeen = s.cc.lowSeen ∧
    (s.armedPulse).cc.frz = s.cc.frz ∧ (s.armedPulse).cc.drainSet = s.cc.drainSet := by
  simp [State.armedPulse]

/-- A pulse changes the controller, records, the Copy Queue, places, flags and the dirty set. -/
@[simp] theorem aligningPulse_keeps (s : State) :
    (s.aligningPulse).lines = s.lines ∧ (s.aligningPulse).pp = s.pp ∧ (s.aligningPulse).fp = s.fp ∧
    (s.aligningPulse).mp = s.mp ∧ (s.aligningPulse).mem = s.mem ∧ (s.aligningPulse).free = s.free ∧
    (s.aligningPulse).pending = s.pending ∧ (s.aligningPulse).cba.result = s.cba.result ∧
    (s.aligningPulse).cba.writeback = s.cba.writeback ∧ (s.aligningPulse).cba.request = s.cba.request ∧
    (s.aligningPulse).cba.turn = s.cba.turn ∧ (s.aligningPulse).cba.published = s.cba.published ∧
    (s.aligningPulse).cba.config = s.cba.config ∧ (s.aligningPulse).cba.load = s.cba.load ∧
    (s.aligningPulse).cba.loadQueue = s.cba.loadQueue ∧ (s.aligningPulse).cba.fetch = s.cba.fetch ∧
    (s.aligningPulse).nu.offer = s.nu.offer ∧ (s.aligningPulse).nu.timer = s.nu.timer ∧
    (s.aligningPulse).cc.phase = s.cc.phase ∧ (s.aligningPulse).cc.lowSeen = s.cc.lowSeen ∧
    (s.aligningPulse).cc.frz = s.cc.frz ∧ (s.aligningPulse).cc.drainSet = s.cc.drainSet := by
  simp [State.aligningPulse]

/-- A pulse changes the controller, records, the Copy Queue, places, flags and the dirty set. -/
@[simp] theorem runningPulse_keeps (s : State) :
    (s.runningPulse).lines = s.lines ∧ (s.runningPulse).pp = s.pp ∧ (s.runningPulse).fp = s.fp ∧
    (s.runningPulse).mp = s.mp ∧ (s.runningPulse).mem = s.mem ∧ (s.runningPulse).free = s.free ∧
    (s.runningPulse).pending = s.pending ∧ (s.runningPulse).cba.result = s.cba.result ∧
    (s.runningPulse).cba.writeback = s.cba.writeback ∧ (s.runningPulse).cba.request = s.cba.request ∧
    (s.runningPulse).cba.turn = s.cba.turn ∧ (s.runningPulse).cba.published = s.cba.published ∧
    (s.runningPulse).cba.config = s.cba.config ∧ (s.runningPulse).cba.load = s.cba.load ∧
    (s.runningPulse).cba.loadQueue = s.cba.loadQueue ∧ (s.runningPulse).cba.fetch = s.cba.fetch ∧
    (s.runningPulse).nu.offer = s.nu.offer ∧ (s.runningPulse).nu.timer = s.nu.timer ∧
    (s.runningPulse).cc.phase = s.cc.phase ∧ (s.runningPulse).cc.lowSeen = s.cc.lowSeen ∧
    (s.runningPulse).cc.frz = s.cc.frz ∧ (s.runningPulse).cc.drainSet = s.cc.drainSet := by
  simp [State.runningPulse]

/-- A pulse changes the controller, records, the Copy Queue, places, flags and the dirty set. -/
@[simp] theorem frozenPulse_keeps (s : State) :
    (s.frozenPulse).lines = s.lines ∧ (s.frozenPulse).pp = s.pp ∧ (s.frozenPulse).fp = s.fp ∧
    (s.frozenPulse).mp = s.mp ∧ (s.frozenPulse).mem = s.mem ∧ (s.frozenPulse).free = s.free ∧
    (s.frozenPulse).pending = s.pending ∧ (s.frozenPulse).cba.result = s.cba.result ∧
    (s.frozenPulse).cba.writeback = s.cba.writeback ∧ (s.frozenPulse).cba.request = s.cba.request ∧
    (s.frozenPulse).cba.turn = s.cba.turn ∧ (s.frozenPulse).cba.published = s.cba.published ∧
    (s.frozenPulse).cba.config = s.cba.config ∧ (s.frozenPulse).cba.load = s.cba.load ∧
    (s.frozenPulse).cba.loadQueue = s.cba.loadQueue ∧ (s.frozenPulse).cba.fetch = s.cba.fetch ∧
    (s.frozenPulse).nu.offer = s.nu.offer ∧ (s.frozenPulse).nu.timer = s.nu.timer ∧
    (s.frozenPulse).cc.phase = s.cc.phase ∧ (s.frozenPulse).cc.lowSeen = s.cc.lowSeen ∧
    (s.frozenPulse).cc.frz = s.cc.frz ∧ (s.frozenPulse).cc.drainSet = s.cc.drainSet := by
  unfold State.frozenPulse; simp only; split <;> simp

/-- A pulse changes the controller, records, the Copy Queue, places, flags and the dirty set. -/
@[simp] theorem lostPulse_keeps (s : State) :
    (s.lostPulse).lines = s.lines ∧ (s.lostPulse).pp = s.pp ∧ (s.lostPulse).fp = s.fp ∧ (s.lostPulse).mp = s.mp ∧
    (s.lostPulse).mem = s.mem ∧ (s.lostPulse).free = s.free ∧ (s.lostPulse).pending = s.pending ∧
    (s.lostPulse).cba.result = s.cba.result ∧ (s.lostPulse).cba.writeback = s.cba.writeback ∧
    (s.lostPulse).cba.request = s.cba.request ∧ (s.lostPulse).cba.turn = s.cba.turn ∧
    (s.lostPulse).cba.published = s.cba.published ∧ (s.lostPulse).cba.config = s.cba.config ∧
    (s.lostPulse).cba.load = s.cba.load ∧ (s.lostPulse).cba.loadQueue = s.cba.loadQueue ∧
    (s.lostPulse).cba.fetch = s.cba.fetch ∧ (s.lostPulse).nu.offer = s.nu.offer ∧
    (s.lostPulse).nu.timer = s.nu.timer ∧ (s.lostPulse).cc.phase = s.cc.phase ∧
    (s.lostPulse).cc.lowSeen = s.cc.lowSeen ∧ (s.lostPulse).cc.frz = s.cc.frz ∧
    (s.lostPulse).cc.drainSet = s.cc.drainSet := by
  simp [State.lostPulse]

/-- A pulse changes the controller, records, the Copy Queue, places, flags and the dirty set. -/
@[simp] theorem pulse_keeps (s : State) :
    (s.pulse).lines = s.lines ∧ (s.pulse).pp = s.pp ∧ (s.pulse).fp = s.fp ∧ (s.pulse).mp = s.mp ∧
    (s.pulse).mem = s.mem ∧ (s.pulse).free = s.free ∧ (s.pulse).pending = s.pending ∧
    (s.pulse).cba.result = s.cba.result ∧ (s.pulse).cba.writeback = s.cba.writeback ∧
    (s.pulse).cba.request = s.cba.request ∧ (s.pulse).cba.turn = s.cba.turn ∧
    (s.pulse).cba.published = s.cba.published ∧ (s.pulse).cba.config = s.cba.config ∧
    (s.pulse).cba.load = s.cba.load ∧ (s.pulse).cba.loadQueue = s.cba.loadQueue ∧
    (s.pulse).cba.fetch = s.cba.fetch ∧ (s.pulse).nu.offer = s.nu.offer ∧ (s.pulse).nu.timer = s.nu.timer ∧
    (s.pulse).cc.phase = s.cc.phase ∧ (s.pulse).cc.lowSeen = s.cc.lowSeen ∧ (s.pulse).cc.frz = s.cc.frz ∧
    (s.pulse).cc.drainSet = s.cc.drainSet := by
  unfold State.pulse
  split <;> try simp
  all_goals split <;> simp

/-- A pulse changes the controller, records, the Copy Queue, places, flags and the dirty set. -/
@[simp] theorem risingEdge_keeps (s : State) :
    (s.risingEdge).lines = s.lines ∧ (s.risingEdge).pp = s.pp ∧ (s.risingEdge).fp = s.fp ∧
    (s.risingEdge).mp = s.mp ∧ (s.risingEdge).mem = s.mem ∧ (s.risingEdge).free = s.free ∧
    (s.risingEdge).pending = s.pending ∧ (s.risingEdge).cba.result = s.cba.result ∧
    (s.risingEdge).cba.writeback = s.cba.writeback ∧ (s.risingEdge).cba.request = s.cba.request ∧
    (s.risingEdge).cba.turn = s.cba.turn ∧ (s.risingEdge).cba.published = s.cba.published ∧
    (s.risingEdge).cba.config = s.cba.config ∧ (s.risingEdge).cba.load = s.cba.load ∧
    (s.risingEdge).cba.loadQueue = s.cba.loadQueue ∧ (s.risingEdge).cba.fetch = s.cba.fetch ∧
    (s.risingEdge).nu.offer = s.nu.offer ∧ (s.risingEdge).nu.timer = s.nu.timer ∧
    (s.risingEdge).cc.phase = s.cc.phase ∧ (s.risingEdge).cc.lowSeen = s.cc.lowSeen ∧
    (s.risingEdge).cc.frz = s.cc.frz ∧ (s.risingEdge).cc.drainSet = s.cc.drainSet := by
  unfold State.risingEdge
  split <;> try simp
  all_goals split <;> simp

/-- A change of FRZ changes FRZ level and the freeze request. -/
@[simp] theorem frzChange_keeps (s : State) :
    (s.frzChange).lines = s.lines ∧ (s.frzChange).windows = s.windows ∧ (s.frzChange).pp = s.pp ∧
    (s.frzChange).fp = s.fp ∧ (s.frzChange).ce = s.ce ∧ (s.frzChange).nu = s.nu ∧ (s.frzChange).mp = s.mp ∧
    (s.frzChange).mem = s.mem ∧ (s.frzChange).free = s.free ∧ (s.frzChange).pending = s.pending ∧
    (s.frzChange).cba = s.cba ∧ (s.frzChange).cc.state = s.cc.state ∧ (s.frzChange).cc.phase = s.cc.phase ∧
    (s.frzChange).cc.cycle = s.cc.cycle ∧ (s.frzChange).cc.groupPos = s.cc.groupPos ∧
    (s.frzChange).cc.lowSeen = s.cc.lowSeen ∧ (s.frzChange).cc.interval = s.cc.interval ∧
    (s.frzChange).cc.watchdog = s.cc.watchdog ∧ (s.frzChange).cc.drainSet = s.cc.drainSet := by
  unfold State.frzChange; simp only; split <;> simp

/-- A change of FRZ changes no record. -/
@[simp] theorem win_frzChange (s : State) (v : Win) :
    (s.frzChange).win v = s.win v := win_congr (by simp) v

/-- A watchdog expiry changes the controller, records, flags and the dirty set. -/
@[simp] theorem watchdogExpires_keeps (s : State) :
    (s.watchdogExpires).lines = s.lines ∧ (s.watchdogExpires).pp = s.pp ∧ (s.watchdogExpires).fp = s.fp ∧
    (s.watchdogExpires).ce = s.ce ∧ (s.watchdogExpires).nu = s.nu ∧ (s.watchdogExpires).mp = s.mp ∧
    (s.watchdogExpires).mem = s.mem ∧ (s.watchdogExpires).free = s.free ∧ (s.watchdogExpires).pending = s.pending ∧
    (s.watchdogExpires).cba.result = s.cba.result ∧ (s.watchdogExpires).cba.writeback = s.cba.writeback ∧
    (s.watchdogExpires).cba.request = s.cba.request ∧ (s.watchdogExpires).cba.turn = s.cba.turn ∧
    (s.watchdogExpires).cba.published = s.cba.published ∧ (s.watchdogExpires).cba.config = s.cba.config ∧
    (s.watchdogExpires).cba.load = s.cba.load ∧ (s.watchdogExpires).cba.loadQueue = s.cba.loadQueue ∧
    (s.watchdogExpires).cba.fetch = s.cba.fetch ∧ (s.watchdogExpires).cc.phase = s.cc.phase ∧
    (s.watchdogExpires).cc.cycle = s.cc.cycle ∧ (s.watchdogExpires).cc.groupPos = s.cc.groupPos ∧
    (s.watchdogExpires).cc.lowSeen = s.cc.lowSeen ∧ (s.watchdogExpires).cc.frz = s.cc.frz ∧
    (s.watchdogExpires).cc.interval = s.cc.interval ∧ (s.watchdogExpires).cc.drainSet = s.cc.drainSet := by
  unfold State.watchdogExpires; split <;> simp

/-- A falling edge changes low seen alone. -/
@[simp] theorem fallingEdge_keeps (s : State) :
    (s.fallingEdge).lines = s.lines ∧ (s.fallingEdge).windows = s.windows ∧ (s.fallingEdge).pp = s.pp ∧
    (s.fallingEdge).fp = s.fp ∧ (s.fallingEdge).ce = s.ce ∧ (s.fallingEdge).nu = s.nu ∧ (s.fallingEdge).mp = s.mp ∧
    (s.fallingEdge).mem = s.mem ∧ (s.fallingEdge).free = s.free ∧ (s.fallingEdge).pending = s.pending ∧
    (s.fallingEdge).cba = s.cba ∧ (s.fallingEdge).cc.state = s.cc.state ∧ (s.fallingEdge).cc.phase = s.cc.phase ∧
    (s.fallingEdge).cc.cycle = s.cc.cycle ∧ (s.fallingEdge).cc.groupPos = s.cc.groupPos ∧
    (s.fallingEdge).cc.frz = s.cc.frz ∧ (s.fallingEdge).cc.freezeReq = s.cc.freezeReq ∧
    (s.fallingEdge).cc.interval = s.cc.interval ∧ (s.fallingEdge).cc.watchdog = s.cc.watchdog ∧
    (s.fallingEdge).cc.drainSet = s.cc.drainSet := by
  unfold State.fallingEdge; split <;> simp

/-- A falling edge changes no record. -/
@[simp] theorem win_fallingEdge (s : State) (v : Win) :
    (s.fallingEdge).win v = s.win v := win_congr (by simp) v

/-- The interval timer alone. -/
@[simp] theorem intervalExpires_keeps (s : State) :
    (s.intervalExpires).lines = s.lines ∧ (s.intervalExpires).windows = s.windows ∧ (s.intervalExpires).pp = s.pp ∧
    (s.intervalExpires).fp = s.fp ∧ (s.intervalExpires).ce = s.ce ∧ (s.intervalExpires).nu = s.nu ∧
    (s.intervalExpires).mp = s.mp ∧ (s.intervalExpires).mem = s.mem ∧ (s.intervalExpires).free = s.free ∧
    (s.intervalExpires).pending = s.pending ∧ (s.intervalExpires).cba = s.cba ∧
    (s.intervalExpires).cc.state = s.cc.state ∧ (s.intervalExpires).cc.phase = s.cc.phase ∧
    (s.intervalExpires).cc.cycle = s.cc.cycle ∧ (s.intervalExpires).cc.groupPos = s.cc.groupPos ∧
    (s.intervalExpires).cc.lowSeen = s.cc.lowSeen ∧ (s.intervalExpires).cc.frz = s.cc.frz ∧
    (s.intervalExpires).cc.freezeReq = s.cc.freezeReq ∧ (s.intervalExpires).cc.watchdog = s.cc.watchdog ∧
    (s.intervalExpires).cc.drainSet = s.cc.drainSet := by
  simp [State.intervalExpires]

/-- A rising edge with its retries. -/
@[simp] theorem edgeTaken_keeps (s : State) :
    (s.edgeTaken).mem = s.mem ∧ (s.edgeTaken).free = s.free ∧ (s.edgeTaken).pending = s.pending ∧
    (s.edgeTaken).cba.writeback = s.cba.writeback ∧ (s.edgeTaken).cba.turn = s.cba.turn ∧
    (s.edgeTaken).cba.published = s.cba.published ∧ (s.edgeTaken).cba.config = s.cba.config ∧
    (s.edgeTaken).lines.cyc = s.lines.cyc ∧ (s.edgeTaken).lines.rst = s.lines.rst ∧
    (s.edgeTaken).lines.accept = s.lines.accept ∧ (s.edgeTaken).lines.memsz = s.lines.memsz ∧
    (s.edgeTaken).lines.cbsel = s.lines.cbsel ∧ (s.edgeTaken).nu.offer = s.nu.offer ∧
    (s.edgeTaken).nu.timer = s.nu.timer ∧ (s.edgeTaken).mp.pointer = s.mp.pointer ∧
    (s.edgeTaken).mp.grant = s.mp.grant ∧ (s.edgeTaken).cc.frz = s.cc.frz := by
  simp [State.edgeTaken]

/-! ## Taking and issue -/

/-- P_WRITE_TAKE changes the PWQ and the P bus. -/
@[simp] theorem takeWrite_keeps (s : State) (a : Addr) (be : Lanes) (d : Word) :
    (s.takeWrite a be d).cc = s.cc ∧ (s.takeWrite a be d).windows = s.windows ∧ (s.takeWrite a be d).fp = s.fp ∧
    (s.takeWrite a be d).ce = s.ce ∧ (s.takeWrite a be d).nu = s.nu ∧ (s.takeWrite a be d).mp = s.mp ∧
    (s.takeWrite a be d).mem = s.mem ∧ (s.takeWrite a be d).free = s.free ∧
    (s.takeWrite a be d).pending = s.pending ∧ (s.takeWrite a be d).cba = s.cba ∧
    (s.takeWrite a be d).pp.readSlot = s.pp.readSlot ∧ (s.takeWrite a be d).pp.current = s.pp.current ∧
    (s.takeWrite a be d).lines.cyc = s.lines.cyc ∧ (s.takeWrite a be d).lines.rst = s.lines.rst ∧
    (s.takeWrite a be d).lines.accept = s.lines.accept ∧ (s.takeWrite a be d).lines.memsz = s.lines.memsz ∧
    (s.takeWrite a be d).lines.cbsel = s.lines.cbsel ∧ (s.takeWrite a be d).lines.fBus = s.lines.fBus := by
  unfold State.takeWrite; split <;> simp

/-- P_READ_TAKE changes the read slot. -/
@[simp] theorem takeRead_keeps (s : State) (a : Addr) (be : Lanes) :
    (s.takeRead a be).lines = s.lines ∧ (s.takeRead a be).cc = s.cc ∧ (s.takeRead a be).windows = s.windows ∧
    (s.takeRead a be).fp = s.fp ∧ (s.takeRead a be).ce = s.ce ∧ (s.takeRead a be).nu = s.nu ∧
    (s.takeRead a be).mp = s.mp ∧ (s.takeRead a be).mem = s.mem ∧ (s.takeRead a be).free = s.free ∧
    (s.takeRead a be).pending = s.pending ∧ (s.takeRead a be).cba = s.cba ∧ (s.takeRead a be).pp.pwq = s.pp.pwq ∧
    (s.takeRead a be).pp.current = s.pp.current := by
  unfold State.takeRead; split <;> simp

/-- ACCESS_ISSUE. -/
@[simp] theorem issue_keeps (s : State) (q : IssueAt) :
    (s.issue q).mem = s.mem ∧ (s.issue q).free = s.free ∧ (s.issue q).pending = s.pending ∧
    (s.issue q).cba.writeback = s.cba.writeback ∧ (s.issue q).cba.turn = s.cba.turn ∧
    (s.issue q).cba.published = s.cba.published ∧ (s.issue q).cba.config = s.cba.config ∧
    (s.issue q).lines.cyc = s.lines.cyc ∧ (s.issue q).lines.rst = s.lines.rst ∧
    (s.issue q).lines.accept = s.lines.accept ∧ (s.issue q).lines.memsz = s.lines.memsz ∧
    (s.issue q).lines.cbsel = s.lines.cbsel ∧ (s.issue q).nu.queue = s.nu.queue ∧
    (s.issue q).nu.offer = s.nu.offer ∧ (s.issue q).nu.timer = s.nu.timer ∧ (s.issue q).mp.pointer = s.mp.pointer ∧
    (s.issue q).mp.grant = s.mp.grant ∧ (s.issue q).cc.frz = s.cc.frz := by
  unfold State.issue
  split
  · simp
  · split <;> simp
  · split <;> simp

/-- The issue of a command word. -/
@[simp] theorem commandRow_keeps (s : State) (c : Spelling) :
    (s.commandRow c).mem = s.mem ∧ (s.commandRow c).free = s.free ∧ (s.commandRow c).pending = s.pending ∧
    (s.commandRow c).cba.writeback = s.cba.writeback ∧ (s.commandRow c).cba.turn = s.cba.turn ∧
    (s.commandRow c).cba.published = s.cba.published ∧ (s.commandRow c).cba.config = s.cba.config ∧
    (s.commandRow c).lines.cyc = s.lines.cyc ∧ (s.commandRow c).lines.rst = s.lines.rst ∧
    (s.commandRow c).lines.accept = s.lines.accept ∧ (s.commandRow c).lines.memsz = s.lines.memsz ∧
    (s.commandRow c).lines.cbsel = s.lines.cbsel ∧ (s.commandRow c).nu.queue = s.nu.queue ∧
    (s.commandRow c).nu.offer = s.nu.offer ∧ (s.commandRow c).nu.timer = s.nu.timer ∧
    (s.commandRow c).mp.pointer = s.mp.pointer ∧ (s.commandRow c).mp.grant = s.mp.grant ∧
    (s.commandRow c).cc.frz = s.cc.frz := by
  unfold State.commandRow; split <;> simp

/-! ## The M port -/

/-- A grant changes the grant state and the pointer. -/
@[simp] theorem grantF_keeps (s : State) :
    (s.grantF).lines = s.lines ∧ (s.grantF).cc = s.cc ∧ (s.grantF).windows = s.windows ∧ (s.grantF).pp = s.pp ∧
    (s.grantF).fp = s.fp ∧ (s.grantF).ce = s.ce ∧ (s.grantF).nu = s.nu ∧ (s.grantF).mem = s.mem ∧
    (s.grantF).free = s.free ∧ (s.grantF).pending = s.pending ∧ (s.grantF).cba = s.cba ∧
    (s.grantF).mp.latch = s.mp.latch := by
  unfold State.grantF; split <;> simp

/-- The plan of the current access alone. -/
@[simp] theorem popItem_keeps (s : State) :
    (s.popItem).lines = s.lines ∧ (s.popItem).cc = s.cc ∧ (s.popItem).windows = s.windows ∧ (s.popItem).fp = s.fp ∧
    (s.popItem).ce = s.ce ∧ (s.popItem).nu = s.nu ∧ (s.popItem).mp = s.mp ∧ (s.popItem).mem = s.mem ∧
    (s.popItem).free = s.free ∧ (s.popItem).pending = s.pending ∧ (s.popItem).cba = s.cba ∧
    (s.popItem).pp.pwq = s.pp.pwq ∧ (s.popItem).pp.readSlot = s.pp.readSlot := by
  unfold State.popItem; split <;> simp

/-- The plan's next item changes no record. -/
@[simp] theorem win_popItem (s : State) (v : Win) :
    (s.popItem).win v = s.win v := win_congr (by simp) v

/-- A read-clear changes flags, published sets and the dirty set. -/
@[simp] theorem readClearAt_keeps (s : State) (a : Resp) (c : Option RecName) :
    (s.readClearAt a c).lines = s.lines ∧ (s.readClearAt a c).cc = s.cc ∧ (s.readClearAt a c).pp = s.pp ∧
    (s.readClearAt a c).fp = s.fp ∧ (s.readClearAt a c).ce = s.ce ∧ (s.readClearAt a c).nu = s.nu ∧
    (s.readClearAt a c).mp = s.mp ∧ (s.readClearAt a c).mem = s.mem ∧ (s.readClearAt a c).free = s.free ∧
    (s.readClearAt a c).pending = s.pending ∧ (s.readClearAt a c).cba.result = s.cba.result ∧
    (s.readClearAt a c).cba.writeback = s.cba.writeback ∧ (s.readClearAt a c).cba.request = s.cba.request ∧
    (s.readClearAt a c).cba.turn = s.cba.turn ∧ (s.readClearAt a c).cba.config = s.cba.config ∧
    (s.readClearAt a c).cba.load = s.cba.load ∧ (s.readClearAt a c).cba.loadQueue = s.cba.loadQueue ∧
    (s.readClearAt a c).cba.fetch = s.cba.fetch := by
  unfold State.readClearAt
  split
  · simp
  · split <;> simp

/-- A grant to the P port changes the grant, the plan, flags and published sets. -/
@[simp] theorem grantItem_keeps (s : State) (a : Resp) (x : PItem) :
    (s.grantItem a x).lines = s.lines ∧ (s.grantItem a x).cc = s.cc ∧ (s.grantItem a x).fp = s.fp ∧
    (s.grantItem a x).ce = s.ce ∧ (s.grantItem a x).nu = s.nu ∧ (s.grantItem a x).mem = s.mem ∧
    (s.grantItem a x).free = s.free ∧ (s.grantItem a x).pending = s.pending ∧
    (s.grantItem a x).cba.result = s.cba.result ∧ (s.grantItem a x).cba.writeback = s.cba.writeback ∧
    (s.grantItem a x).cba.request = s.cba.request ∧ (s.grantItem a x).cba.turn = s.cba.turn ∧
    (s.grantItem a x).cba.config = s.cba.config ∧ (s.grantItem a x).cba.load = s.cba.load ∧
    (s.grantItem a x).cba.loadQueue = s.cba.loadQueue ∧ (s.grantItem a x).cba.fetch = s.cba.fetch ∧
    (s.grantItem a x).pp.pwq = s.pp.pwq ∧ (s.grantItem a x).pp.readSlot = s.pp.readSlot ∧
    (s.grantItem a x).mp.latch = s.mp.latch := by
  unfold State.grantItem
  split
  · split <;> simp
  · simp
  · simp

/-- A grant to the P port changes the grant, the plan, flags and published sets. -/
@[simp] theorem grantP_keeps (s : State) (a : Resp) :
    (s.grantP a).lines = s.lines ∧ (s.grantP a).cc = s.cc ∧ (s.grantP a).fp = s.fp ∧ (s.grantP a).ce = s.ce ∧
    (s.grantP a).nu = s.nu ∧ (s.grantP a).mem = s.mem ∧ (s.grantP a).free = s.free ∧
    (s.grantP a).pending = s.pending ∧ (s.grantP a).cba.result = s.cba.result ∧
    (s.grantP a).cba.writeback = s.cba.writeback ∧ (s.grantP a).cba.request = s.cba.request ∧
    (s.grantP a).cba.turn = s.cba.turn ∧ (s.grantP a).cba.config = s.cba.config ∧
    (s.grantP a).cba.load = s.cba.load ∧ (s.grantP a).cba.loadQueue = s.cba.loadQueue ∧
    (s.grantP a).cba.fetch = s.cba.fetch ∧ (s.grantP a).pp.pwq = s.pp.pwq ∧
    (s.grantP a).pp.readSlot = s.pp.readSlot ∧ (s.grantP a).mp.latch = s.mp.latch := by
  unfold State.grantP
  split
  · simp
  · split <;> simp

/-- A grant changes the grant state and the pointer. -/
@[simp] theorem grantK_keeps (s : State) :
    (s.grantK).lines = s.lines ∧ (s.grantK).cc = s.cc ∧ (s.grantK).windows = s.windows ∧ (s.grantK).pp = s.pp ∧
    (s.grantK).fp = s.fp ∧ (s.grantK).ce = s.ce ∧ (s.grantK).nu = s.nu ∧ (s.grantK).mem = s.mem ∧
    (s.grantK).free = s.free ∧ (s.grantK).pending = s.pending ∧ (s.grantK).cba = s.cba ∧
    (s.grantK).mp.latch = s.mp.latch := by
  unfold State.grantK
  split
  · simp
  all_goals split <;> simp

/-- A grant to a carry job, or its end. -/
@[simp] theorem grantCarry_keeps (s : State) (w : Win) :
    (s.grantCarry w).lines = s.lines ∧ (s.grantCarry w).cc = s.cc ∧ (s.grantCarry w).pp = s.pp ∧
    (s.grantCarry w).fp = s.fp ∧ (s.grantCarry w).nu = s.nu ∧ (s.grantCarry w).mem = s.mem ∧
    (s.grantCarry w).free = s.free ∧ (s.grantCarry w).pending = s.pending ∧
    (s.grantCarry w).cba.result = s.cba.result ∧ (s.grantCarry w).cba.writeback = s.cba.writeback ∧
    (s.grantCarry w).cba.request = s.cba.request ∧ (s.grantCarry w).cba.turn = s.cba.turn ∧
    (s.grantCarry w).cba.causes = s.cba.causes ∧ (s.grantCarry w).cba.published = s.cba.published ∧
    (s.grantCarry w).cba.config = s.cba.config ∧ (s.grantCarry w).cba.load = s.cba.load ∧
    (s.grantCarry w).cba.loadQueue = s.cba.loadQueue ∧ (s.grantCarry w).cba.fetch = s.cba.fetch ∧
    (s.grantCarry w).mp.latch = s.mp.latch := by
  unfold State.grantCarry; split <;> simp

/-- The end of a loop job with LOOP_NOSRC. -/
@[simp] theorem endLoopNosrc_keeps (s : State) (d : Win) :
    (s.endLoopNosrc d).lines = s.lines ∧ (s.endLoopNosrc d).cc = s.cc ∧ (s.endLoopNosrc d).pp = s.pp ∧
    (s.endLoopNosrc d).fp = s.fp ∧ (s.endLoopNosrc d).nu = s.nu ∧ (s.endLoopNosrc d).mp = s.mp ∧
    (s.endLoopNosrc d).mem = s.mem ∧ (s.endLoopNosrc d).free = s.free ∧ (s.endLoopNosrc d).pending = s.pending ∧
    (s.endLoopNosrc d).cba.result = s.cba.result ∧ (s.endLoopNosrc d).cba.writeback = s.cba.writeback ∧
    (s.endLoopNosrc d).cba.request = s.cba.request ∧ (s.endLoopNosrc d).cba.turn = s.cba.turn ∧
    (s.endLoopNosrc d).cba.published = s.cba.published ∧ (s.endLoopNosrc d).cba.config = s.cba.config ∧
    (s.endLoopNosrc d).cba.load = s.cba.load ∧ (s.endLoopNosrc d).cba.loadQueue = s.cba.loadQueue ∧
    (s.endLoopNosrc d).cba.fetch = s.cba.fetch := by
  simp [State.endLoopNosrc]

/-- A grant to a loop job, or its end. -/
@[simp] theorem grantLoop_keeps (s : State) (d q : Win) (k : Nat) :
    (s.grantLoop d q k).lines = s.lines ∧ (s.grantLoop d q k).cc = s.cc ∧ (s.grantLoop d q k).pp = s.pp ∧
    (s.grantLoop d q k).fp = s.fp ∧ (s.grantLoop d q k).nu = s.nu ∧ (s.grantLoop d q k).mem = s.mem ∧
    (s.grantLoop d q k).free = s.free ∧ (s.grantLoop d q k).pending = s.pending ∧
    (s.grantLoop d q k).cba.result = s.cba.result ∧ (s.grantLoop d q k).cba.writeback = s.cba.writeback ∧
    (s.grantLoop d q k).cba.request = s.cba.request ∧ (s.grantLoop d q k).cba.turn = s.cba.turn ∧
    (s.grantLoop d q k).cba.published = s.cba.published ∧ (s.grantLoop d q k).cba.config = s.cba.config ∧
    (s.grantLoop d q k).cba.load = s.cba.load ∧ (s.grantLoop d q k).cba.loadQueue = s.cba.loadQueue ∧
    (s.grantLoop d q k).cba.fetch = s.cba.fetch ∧ (s.grantLoop d q k).mp.latch = s.mp.latch := by
  unfold State.grantLoop
  split
  · simp
  · split
    · simp
    · split
      · simp
      · split
        · simp
        · split <;> simp

/-- A grant to the Copy Engine, or the end of its job. -/
@[simp] theorem grantC_keeps (s : State) :
    (s.grantC).lines = s.lines ∧ (s.grantC).cc = s.cc ∧ (s.grantC).pp = s.pp ∧ (s.grantC).fp = s.fp ∧
    (s.grantC).nu = s.nu ∧ (s.grantC).mem = s.mem ∧ (s.grantC).free = s.free ∧ (s.grantC).pending = s.pending ∧
    (s.grantC).cba.result = s.cba.result ∧ (s.grantC).cba.writeback = s.cba.writeback ∧
    (s.grantC).cba.request = s.cba.request ∧ (s.grantC).cba.turn = s.cba.turn ∧
    (s.grantC).cba.published = s.cba.published ∧ (s.grantC).cba.config = s.cba.config ∧
    (s.grantC).cba.load = s.cba.load ∧ (s.grantC).cba.loadQueue = s.cba.loadQueue ∧
    (s.grantC).cba.fetch = s.cba.fetch ∧ (s.grantC).mp.latch = s.mp.latch := by
  unfold State.grantC
  split
  · simp
  · split <;> simp

/-- A pass of the arbiter changes the grant, plans, the Copy Engine, flags and published sets. -/
@[simp] theorem arbitrate_keeps (s : State) (a : Resp) :
    (s.arbitrate a).lines = s.lines ∧ (s.arbitrate a).cc = s.cc ∧ (s.arbitrate a).fp = s.fp ∧
    (s.arbitrate a).nu = s.nu ∧ (s.arbitrate a).mem = s.mem ∧ (s.arbitrate a).free = s.free ∧
    (s.arbitrate a).pending = s.pending ∧ (s.arbitrate a).cba.result = s.cba.result ∧
    (s.arbitrate a).cba.writeback = s.cba.writeback ∧ (s.arbitrate a).cba.request = s.cba.request ∧
    (s.arbitrate a).cba.turn = s.cba.turn ∧ (s.arbitrate a).cba.config = s.cba.config ∧
    (s.arbitrate a).cba.load = s.cba.load ∧ (s.arbitrate a).cba.loadQueue = s.cba.loadQueue ∧
    (s.arbitrate a).cba.fetch = s.cba.fetch ∧ (s.arbitrate a).pp.pwq = s.pp.pwq ∧
    (s.arbitrate a).pp.readSlot = s.pp.readSlot ∧ (s.arbitrate a).mp.latch = s.mp.latch := by
  unfold State.arbitrate; split <;> simp

/-- As a pass of the arbiter. -/
@[simp] theorem readClear_keeps (s : State) (a : Resp) :
    (s.readClear a).lines = s.lines ∧ (s.readClear a).cc = s.cc ∧ (s.readClear a).fp = s.fp ∧
    (s.readClear a).nu = s.nu ∧ (s.readClear a).mem = s.mem ∧ (s.readClear a).free = s.free ∧
    (s.readClear a).pending = s.pending ∧ (s.readClear a).cba.result = s.cba.result ∧
    (s.readClear a).cba.writeback = s.cba.writeback ∧ (s.readClear a).cba.request = s.cba.request ∧
    (s.readClear a).cba.turn = s.cba.turn ∧ (s.readClear a).cba.config = s.cba.config ∧
    (s.readClear a).cba.load = s.cba.load ∧ (s.readClear a).cba.loadQueue = s.cba.loadQueue ∧
    (s.readClear a).cba.fetch = s.cba.fetch ∧ (s.readClear a).pp.pwq = s.pp.pwq ∧
    (s.readClear a).pp.readSlot = s.pp.readSlot ∧ (s.readClear a).mp.latch = s.mp.latch := by
  unfold State.readClear; split <;> simp

/-- A normal read half changes the grant state alone. -/
@[simp] theorem readHalf_keeps (s : State) :
    (s.readHalf).lines = s.lines ∧ (s.readHalf).cc = s.cc ∧ (s.readHalf).windows = s.windows ∧
    (s.readHalf).pp = s.pp ∧ (s.readHalf).fp = s.fp ∧ (s.readHalf).ce = s.ce ∧ (s.readHalf).nu = s.nu ∧
    (s.readHalf).mem = s.mem ∧ (s.readHalf).free = s.free ∧ (s.readHalf).pending = s.pending ∧
    (s.readHalf).cba = s.cba ∧ (s.readHalf).mp.latch = s.mp.latch ∧ (s.readHalf).mp.pointer = s.mp.pointer := by
  unfold State.readHalf; split <;> simp

/-- A normal read half changes no record. -/
@[simp] theorem win_readHalf (s : State) (v : Win) :
    (s.readHalf).win v = s.win v := win_congr (by simp) v

/-- The answer to a write half changes memory, the grant, the latch and flags. -/
@[simp] theorem finishPair_keeps (s : State) (r : Resp) (q : ErrSource) (t : Pair) (x : Word) :
    (s.finishPair r q t x).lines = s.lines ∧ (s.finishPair r q t x).cc = s.cc ∧
    (s.finishPair r q t x).windows = s.windows ∧ (s.finishPair r q t x).pp = s.pp ∧
    (s.finishPair r q t x).fp = s.fp ∧ (s.finishPair r q t x).ce = s.ce ∧ (s.finishPair r q t x).nu = s.nu ∧
    (s.finishPair r q t x).pending = s.pending ∧ (s.finishPair r q t x).cba.result = s.cba.result ∧
    (s.finishPair r q t x).cba.writeback = s.cba.writeback ∧ (s.finishPair r q t x).cba.request = s.cba.request ∧
    (s.finishPair r q t x).cba.turn = s.cba.turn ∧ (s.finishPair r q t x).cba.published = s.cba.published ∧
    (s.finishPair r q t x).cba.config = s.cba.config ∧ (s.finishPair r q t x).cba.load = s.cba.load ∧
    (s.finishPair r q t x).cba.loadQueue = s.cba.loadQueue ∧ (s.finishPair r q t x).cba.fetch = s.cba.fetch ∧
    (s.finishPair r q t x).mp.pointer = s.mp.pointer := by
  simp [State.finishPair]

/-- The answer to a write half changes no record by itself. -/
@[simp] theorem win_finishPair (s : State) (r : Resp) (q : ErrSource) (t : Pair) (x : Word) (v : Win) :
    (s.finishPair r q t x).win v = s.win v := win_congr (by simp) v

/-- An error on a read half changes the grant, the latch and flags. -/
@[simp] theorem failPair_keeps (s : State) (q : ErrSource) (t : Pair) :
    (s.failPair q t).lines = s.lines ∧ (s.failPair q t).cc = s.cc ∧ (s.failPair q t).windows = s.windows ∧
    (s.failPair q t).pp = s.pp ∧ (s.failPair q t).fp = s.fp ∧ (s.failPair q t).ce = s.ce ∧
    (s.failPair q t).nu = s.nu ∧ (s.failPair q t).mem = s.mem ∧ (s.failPair q t).free = s.free ∧
    (s.failPair q t).pending = s.pending ∧ (s.failPair q t).cba.result = s.cba.result ∧
    (s.failPair q t).cba.writeback = s.cba.writeback ∧ (s.failPair q t).cba.request = s.cba.request ∧
    (s.failPair q t).cba.turn = s.cba.turn ∧ (s.failPair q t).cba.published = s.cba.published ∧
    (s.failPair q t).cba.config = s.cba.config ∧ (s.failPair q t).cba.load = s.cba.load ∧
    (s.failPair q t).cba.loadQueue = s.cba.loadQueue ∧ (s.failPair q t).cba.fetch = s.cba.fetch ∧
    (s.failPair q t).mp.pointer = s.mp.pointer := by
  simp [State.failPair]

/-- An error on a read half changes no record by itself. -/
@[simp] theorem win_failPair (s : State) (q : ErrSource) (t : Pair) (v : Win) :
    (s.failPair q t).win v = s.win v := win_congr (by simp) v

/-- The end of a plain P access changes the read slot, the P bus and memory. -/
@[simp] theorem completeP_keeps (s : State) (r : Resp) (t : Single) :
    (s.completeP r t).cc = s.cc ∧ (s.completeP r t).windows = s.windows ∧ (s.completeP r t).fp = s.fp ∧
    (s.completeP r t).ce = s.ce ∧ (s.completeP r t).nu = s.nu ∧ (s.completeP r t).mp = s.mp ∧
    (s.completeP r t).pending = s.pending ∧ (s.completeP r t).cba = s.cba ∧ (s.completeP r t).pp.pwq = s.pp.pwq ∧
    (s.completeP r t).pp.current = s.pp.current ∧ (s.completeP r t).lines.cyc = s.lines.cyc ∧
    (s.completeP r t).lines.rst = s.lines.rst ∧ (s.completeP r t).lines.accept = s.lines.accept ∧
    (s.completeP r t).lines.memsz = s.lines.memsz ∧ (s.completeP r t).lines.cbsel = s.lines.cbsel ∧
    (s.completeP r t).lines.fBus = s.lines.fBus := by
  unfold State.completeP; split <;> simp

/-- The end of a plain P access changes no record by itself. -/
@[simp] theorem win_completeP (s : State) (r : Resp) (t : Single) (v : Win) :
    (s.completeP r t).win v = s.win v := win_congr (by simp) v

/-- The end of an F access changes the F bus and memory. -/
@[simp] theorem completeF_keeps (s : State) (r : Resp) (t : Single) :
    (s.completeF r t).cc = s.cc ∧ (s.completeF r t).windows = s.windows ∧ (s.completeF r t).pp = s.pp ∧
    (s.completeF r t).fp = s.fp ∧ (s.completeF r t).ce = s.ce ∧ (s.completeF r t).nu = s.nu ∧
    (s.completeF r t).mp = s.mp ∧ (s.completeF r t).pending = s.pending ∧ (s.completeF r t).cba = s.cba ∧
    (s.completeF r t).lines.cyc = s.lines.cyc ∧ (s.completeF r t).lines.rst = s.lines.rst ∧
    (s.completeF r t).lines.accept = s.lines.accept ∧ (s.completeF r t).lines.memsz = s.lines.memsz ∧
    (s.completeF r t).lines.cbsel = s.lines.cbsel ∧ (s.completeF r t).lines.pBus = s.lines.pBus := by
  unfold State.completeF; split <;> simp

/-- The end of an F access changes no record by itself. -/
@[simp] theorem win_completeF (s : State) (r : Resp) (t : Single) (v : Win) :
    (s.completeF r t).win v = s.win v := win_congr (by simp) v

/-- P_ACCESS_COMPLETE. -/
@[simp] theorem pAccessComplete_keeps (s : State) (r : Resp) :
    (s.pAccessComplete r).fp = s.fp ∧ (s.pAccessComplete r).ce = s.ce ∧ (s.pAccessComplete r).nu = s.nu ∧
    (s.pAccessComplete r).pending = s.pending ∧ (s.pAccessComplete r).cba.result = s.cba.result ∧
    (s.pAccessComplete r).cba.writeback = s.cba.writeback ∧ (s.pAccessComplete r).cba.request = s.cba.request ∧
    (s.pAccessComplete r).cba.turn = s.cba.turn ∧ (s.pAccessComplete r).cba.published = s.cba.published ∧
    (s.pAccessComplete r).cba.config = s.cba.config ∧ (s.pAccessComplete r).cba.load = s.cba.load ∧
    (s.pAccessComplete r).cba.loadQueue = s.cba.loadQueue ∧ (s.pAccessComplete r).cba.fetch = s.cba.fetch ∧
    (s.pAccessComplete r).pp.pwq = s.pp.pwq ∧ (s.pAccessComplete r).mp.pointer = s.mp.pointer ∧
    (s.pAccessComplete r).lines.cyc = s.lines.cyc ∧ (s.pAccessComplete r).lines.rst = s.lines.rst ∧
    (s.pAccessComplete r).lines.accept = s.lines.accept ∧ (s.pAccessComplete r).lines.memsz = s.lines.memsz ∧
    (s.pAccessComplete r).lines.cbsel = s.lines.cbsel ∧ (s.pAccessComplete r).lines.fBus = s.lines.fBus ∧
    (s.pAccessComplete r).cc.state = s.cc.state ∧ (s.pAccessComplete r).cc.phase = s.cc.phase ∧
    (s.pAccessComplete r).cc.cycle = s.cc.cycle ∧ (s.pAccessComplete r).cc.groupPos = s.cc.groupPos ∧
    (s.pAccessComplete r).cc.lowSeen = s.cc.lowSeen ∧ (s.pAccessComplete r).cc.frz = s.cc.frz ∧
    (s.pAccessComplete r).cc.freezeReq = s.cc.freezeReq ∧ (s.pAccessComplete r).cc.interval = s.cc.interval ∧
    (s.pAccessComplete r).cc.watchdog = s.cc.watchdog := by
  unfold State.pAccessComplete
  split
  · split <;> simp
  · simp

/-- F_ACCESS_COMPLETE. -/
@[simp] theorem fAccessComplete_keeps (s : State) (r : Resp) :
    (s.fAccessComplete r).pp = s.pp ∧ (s.fAccessComplete r).ce = s.ce ∧ (s.fAccessComplete r).nu = s.nu ∧
    (s.fAccessComplete r).pending = s.pending ∧ (s.fAccessComplete r).cba.result = s.cba.result ∧
    (s.fAccessComplete r).cba.writeback = s.cba.writeback ∧ (s.fAccessComplete r).cba.request = s.cba.request ∧
    (s.fAccessComplete r).cba.turn = s.cba.turn ∧ (s.fAccessComplete r).cba.published = s.cba.published ∧
    (s.fAccessComplete r).cba.config = s.cba.config ∧ (s.fAccessComplete r).cba.load = s.cba.load ∧
    (s.fAccessComplete r).cba.loadQueue = s.cba.loadQueue ∧ (s.fAccessComplete r).cba.fetch = s.cba.fetch ∧
    (s.fAccessComplete r).fp.held = s.fp.held ∧ (s.fAccessComplete r).mp.pointer = s.mp.pointer ∧
    (s.fAccessComplete r).lines.cyc = s.lines.cyc ∧ (s.fAccessComplete r).lines.rst = s.lines.rst ∧
    (s.fAccessComplete r).lines.accept = s.lines.accept ∧ (s.fAccessComplete r).lines.memsz = s.lines.memsz ∧
    (s.fAccessComplete r).lines.cbsel = s.lines.cbsel ∧ (s.fAccessComplete r).lines.pBus = s.lines.pBus ∧
    (s.fAccessComplete r).cc.state = s.cc.state ∧ (s.fAccessComplete r).cc.phase = s.cc.phase ∧
    (s.fAccessComplete r).cc.cycle = s.cc.cycle ∧ (s.fAccessComplete r).cc.groupPos = s.cc.groupPos ∧
    (s.fAccessComplete r).cc.lowSeen = s.cc.lowSeen ∧ (s.fAccessComplete r).cc.frz = s.cc.frz ∧
    (s.fAccessComplete r).cc.freezeReq = s.cc.freezeReq ∧ (s.fAccessComplete r).cc.interval = s.cc.interval ∧
    (s.fAccessComplete r).cc.watchdog = s.cc.watchdog := by
  unfold State.fAccessComplete
  split
  · split <;> simp
  · simp

/-- MERGE_PAIR_COMPLETE. -/
@[simp] theorem mergePairComplete_keeps (s : State) (r : Resp) :
    (s.mergePairComplete r).lines = s.lines ∧ (s.mergePairComplete r).fp = s.fp ∧
    (s.mergePairComplete r).ce = s.ce ∧ (s.mergePairComplete r).nu = s.nu ∧
    (s.mergePairComplete r).pending = s.pending ∧ (s.mergePairComplete r).cba.result = s.cba.result ∧
    (s.mergePairComplete r).cba.writeback = s.cba.writeback ∧ (s.mergePairComplete r).cba.request = s.cba.request ∧
    (s.mergePairComplete r).cba.turn = s.cba.turn ∧ (s.mergePairComplete r).cba.published = s.cba.published ∧
    (s.mergePairComplete r).cba.config = s.cba.config ∧ (s.mergePairComplete r).cba.load = s.cba.load ∧
    (s.mergePairComplete r).cba.loadQueue = s.cba.loadQueue ∧ (s.mergePairComplete r).cba.fetch = s.cba.fetch ∧
    (s.mergePairComplete r).pp.pwq = s.pp.pwq ∧ (s.mergePairComplete r).pp.readSlot = s.pp.readSlot ∧
    (s.mergePairComplete r).mp.pointer = s.mp.pointer ∧ (s.mergePairComplete r).cc.state = s.cc.state ∧
    (s.mergePairComplete r).cc.phase = s.cc.phase ∧ (s.mergePairComplete r).cc.cycle = s.cc.cycle ∧
    (s.mergePairComplete r).cc.groupPos = s.cc.groupPos ∧ (s.mergePairComplete r).cc.lowSeen = s.cc.lowSeen ∧
    (s.mergePairComplete r).cc.frz = s.cc.frz ∧ (s.mergePairComplete r).cc.freezeReq = s.cc.freezeReq ∧
    (s.mergePairComplete r).cc.interval = s.cc.interval ∧ (s.mergePairComplete r).cc.watchdog = s.cc.watchdog := by
  unfold State.mergePairComplete
  split
  · split <;> simp
  · split <;> simp
  · simp

/-- A carry mark is no item outside its window's record. -/
@[simp] theorem eraseMark_keeps (s : State) (w : Win) (k : Nat) :
    (s.eraseMark w k).lines = s.lines ∧ (s.eraseMark w k).cc = s.cc ∧ (s.eraseMark w k).pp = s.pp ∧
    (s.eraseMark w k).fp = s.fp ∧ (s.eraseMark w k).ce = s.ce ∧ (s.eraseMark w k).nu = s.nu ∧
    (s.eraseMark w k).cba = s.cba ∧ (s.eraseMark w k).mp = s.mp ∧ (s.eraseMark w k).mem = s.mem ∧
    (s.eraseMark w k).free = s.free ∧ (s.eraseMark w k).pending = s.pending := by
  simp [State.eraseMark]

/-- The mark is cleared (R65, R81). -/
@[simp] theorem win_eraseMark (s : State) (w : Win) (k : Nat) (v : Win) :
    (s.eraseMark w k).win v = if v = w then { s.win w with carry := (s.win w).carry.erase k } else s.win v := by
  simp [State.eraseMark]

/-- A demand copy's mark changes its window's record and the dirty set. -/
@[simp] theorem clearMark_keeps (s : State) (w : Win) (k : Nat) :
    (s.clearMark w k).lines = s.lines ∧ (s.clearMark w k).cc = s.cc ∧ (s.clearMark w k).pp = s.pp ∧
    (s.clearMark w k).fp = s.fp ∧ (s.clearMark w k).ce = s.ce ∧ (s.clearMark w k).nu = s.nu ∧
    (s.clearMark w k).mp = s.mp ∧ (s.clearMark w k).mem = s.mem ∧ (s.clearMark w k).free = s.free ∧
    (s.clearMark w k).pending = s.pending ∧ (s.clearMark w k).cba.result = s.cba.result ∧
    (s.clearMark w k).cba.writeback = s.cba.writeback ∧ (s.clearMark w k).cba.request = s.cba.request ∧
    (s.clearMark w k).cba.turn = s.cba.turn ∧ (s.clearMark w k).cba.causes = s.cba.causes ∧
    (s.clearMark w k).cba.published = s.cba.published ∧ (s.clearMark w k).cba.config = s.cba.config ∧
    (s.clearMark w k).cba.load = s.cba.load ∧ (s.clearMark w k).cba.loadQueue = s.cba.loadQueue ∧
    (s.clearMark w k).cba.fetch = s.cba.fetch := by
  simp [State.clearMark]

/-- The mark is cleared (R65, R81). -/
@[simp] theorem win_clearMark (s : State) (w : Win) (k : Nat) (v : Win) :
    (s.clearMark w k).win v = if v = w then { s.win w with carry := (s.win w).carry.erase k } else s.win v := by simp [State.clearMark]

/-- DEMAND_COPY_COMPLETE. -/
@[simp] theorem demandCopyComplete_keeps (s : State) (r : Resp) :
    (s.demandCopyComplete r).pending = s.pending ∧ (s.demandCopyComplete r).cba.writeback = s.cba.writeback ∧
    (s.demandCopyComplete r).cba.turn = s.cba.turn ∧ (s.demandCopyComplete r).cba.published = s.cba.published ∧
    (s.demandCopyComplete r).cba.config = s.cba.config ∧ (s.demandCopyComplete r).lines.cyc = s.lines.cyc ∧
    (s.demandCopyComplete r).lines.rst = s.lines.rst ∧ (s.demandCopyComplete r).lines.accept = s.lines.accept ∧
    (s.demandCopyComplete r).lines.memsz = s.lines.memsz ∧ (s.demandCopyComplete r).lines.cbsel = s.lines.cbsel ∧
    (s.demandCopyComplete r).nu.queue = s.nu.queue ∧ (s.demandCopyComplete r).nu.offer = s.nu.offer ∧
    (s.demandCopyComplete r).nu.timer = s.nu.timer ∧ (s.demandCopyComplete r).mp.pointer = s.mp.pointer ∧
    (s.demandCopyComplete r).cc.frz = s.cc.frz := by
  unfold State.demandCopyComplete
  split
  · split <;> simp
  · split <;> simp
  · simp

/-! ## The Copy Engine -/

/-- The request of the Copy Engine alone. -/
@[simp] theorem requestC_keeps (s : State) :
    (s.requestC).lines = s.lines ∧ (s.requestC).cc = s.cc ∧ (s.requestC).windows = s.windows ∧
    (s.requestC).pp = s.pp ∧ (s.requestC).fp = s.fp ∧ (s.requestC).nu = s.nu ∧ (s.requestC).mp = s.mp ∧
    (s.requestC).mem = s.mem ∧ (s.requestC).free = s.free ∧ (s.requestC).pending = s.pending ∧
    (s.requestC).cba = s.cba ∧ (s.requestC).ce.jobs = s.ce.jobs ∧ (s.requestC).ce.running = s.ce.running := by
  unfold State.requestC; split <;> simp

/-- A request changes no record. -/
@[simp] theorem win_requestC (s : State) (v : Win) :
    (s.requestC).win v = s.win v := win_congr (by simp) v

/-- A carry job's test. -/
@[simp] theorem carryNext_keeps (s : State) (w : Win) :
    (s.carryNext w).lines = s.lines ∧ (s.carryNext w).cc = s.cc ∧ (s.carryNext w).pp = s.pp ∧
    (s.carryNext w).fp = s.fp ∧ (s.carryNext w).nu = s.nu ∧ (s.carryNext w).mp = s.mp ∧
    (s.carryNext w).mem = s.mem ∧ (s.carryNext w).free = s.free ∧ (s.carryNext w).pending = s.pending ∧
    (s.carryNext w).cba.result = s.cba.result ∧ (s.carryNext w).cba.writeback = s.cba.writeback ∧
    (s.carryNext w).cba.request = s.cba.request ∧ (s.carryNext w).cba.turn = s.cba.turn ∧
    (s.carryNext w).cba.causes = s.cba.causes ∧ (s.carryNext w).cba.published = s.cba.published ∧
    (s.carryNext w).cba.config = s.cba.config ∧ (s.carryNext w).cba.load = s.cba.load ∧
    (s.carryNext w).cba.loadQueue = s.cba.loadQueue ∧ (s.carryNext w).cba.fetch = s.cba.fetch := by
  unfold State.carryNext; split <;> simp

/-- A job's next offset alone. -/
@[simp] theorem setNext_keeps (s : State) (q : Win) (k : Nat) :
    (s.setNext q k).lines = s.lines ∧ (s.setNext q k).cc = s.cc ∧ (s.setNext q k).windows = s.windows ∧
    (s.setNext q k).pp = s.pp ∧ (s.setNext q k).fp = s.fp ∧ (s.setNext q k).nu = s.nu ∧ (s.setNext q k).mp = s.mp ∧
    (s.setNext q k).mem = s.mem ∧ (s.setNext q k).free = s.free ∧ (s.setNext q k).pending = s.pending ∧
    (s.setNext q k).cba = s.cba ∧ (s.setNext q k).ce.running = s.ce.running ∧
    (s.setNext q k).ce.request = s.ce.request := by
  unfold State.setNext; split <;> simp

/-- A job's next offset changes no record. -/
@[simp] theorem win_setNext (s : State) (q : Win) (k : Nat) (v : Win) :
    (s.setNext q k).win v = s.win v := win_congr (by simp) v

/-- The destinations in the queue stay as they were. -/
theorem setNext_dests (s : State) (q : Win) (k : Nat) : (s.setNext q k).ce.jobs.map Job.dest = s.ce.jobs.map Job.dest := by
  unfold State.setNext; split <;> simp_all

/-- A loop job's tests. -/
@[simp] theorem loopNext_keeps (s : State) (d q : Win) (k : Nat) :
    (s.loopNext d q k).lines = s.lines ∧ (s.loopNext d q k).cc = s.cc ∧ (s.loopNext d q k).pp = s.pp ∧
    (s.loopNext d q k).fp = s.fp ∧ (s.loopNext d q k).nu = s.nu ∧ (s.loopNext d q k).mp = s.mp ∧
    (s.loopNext d q k).mem = s.mem ∧ (s.loopNext d q k).free = s.free ∧ (s.loopNext d q k).pending = s.pending ∧
    (s.loopNext d q k).cba.result = s.cba.result ∧ (s.loopNext d q k).cba.writeback = s.cba.writeback ∧
    (s.loopNext d q k).cba.request = s.cba.request ∧ (s.loopNext d q k).cba.turn = s.cba.turn ∧
    (s.loopNext d q k).cba.published = s.cba.published ∧ (s.loopNext d q k).cba.config = s.cba.config ∧
    (s.loopNext d q k).cba.load = s.cba.load ∧ (s.loopNext d q k).cba.loadQueue = s.cba.loadQueue ∧
    (s.loopNext d q k).cba.fetch = s.cba.fetch := by
  unfold State.loopNext
  split
  · simp
  · split
    · simp
    · split
      · simp
      · split <;> simp

/-- A job's test. -/
@[simp] theorem jobNext_keeps (s : State) :
    (s.jobNext).lines = s.lines ∧ (s.jobNext).cc = s.cc ∧ (s.jobNext).pp = s.pp ∧ (s.jobNext).fp = s.fp ∧
    (s.jobNext).nu = s.nu ∧ (s.jobNext).mp = s.mp ∧ (s.jobNext).mem = s.mem ∧ (s.jobNext).free = s.free ∧
    (s.jobNext).pending = s.pending ∧ (s.jobNext).cba.result = s.cba.result ∧
    (s.jobNext).cba.writeback = s.cba.writeback ∧ (s.jobNext).cba.request = s.cba.request ∧
    (s.jobNext).cba.turn = s.cba.turn ∧ (s.jobNext).cba.published = s.cba.published ∧
    (s.jobNext).cba.config = s.cba.config ∧ (s.jobNext).cba.load = s.cba.load ∧
    (s.jobNext).cba.loadQueue = s.cba.loadQueue ∧ (s.jobNext).cba.fetch = s.cba.fetch := by
  unfold State.jobNext
  split
  · simp
  · split <;> simp

/-- COPY_JOB_START. -/
@[simp] theorem startJob_keeps (s : State) :
    (s.startJob).lines = s.lines ∧ (s.startJob).cc = s.cc ∧ (s.startJob).pp = s.pp ∧ (s.startJob).fp = s.fp ∧
    (s.startJob).nu = s.nu ∧ (s.startJob).mp = s.mp ∧ (s.startJob).mem = s.mem ∧ (s.startJob).free = s.free ∧
    (s.startJob).pending = s.pending ∧ (s.startJob).cba.result = s.cba.result ∧
    (s.startJob).cba.writeback = s.cba.writeback ∧ (s.startJob).cba.request = s.cba.request ∧
    (s.startJob).cba.turn = s.cba.turn ∧ (s.startJob).cba.published = s.cba.published ∧
    (s.startJob).cba.config = s.cba.config ∧ (s.startJob).cba.load = s.cba.load ∧
    (s.startJob).cba.loadQueue = s.cba.loadQueue ∧ (s.startJob).cba.fetch = s.cba.fetch := by
  unfold State.startJob; split <;> simp

/-- A failed carry read. -/
@[simp] theorem carryFailed_keeps (s : State) (w : Win) :
    (s.carryFailed w).lines = s.lines ∧ (s.carryFailed w).cc = s.cc ∧ (s.carryFailed w).pp = s.pp ∧
    (s.carryFailed w).fp = s.fp ∧ (s.carryFailed w).mp = s.mp ∧ (s.carryFailed w).mem = s.mem ∧
    (s.carryFailed w).free = s.free ∧ (s.carryFailed w).pending = s.pending ∧
    (s.carryFailed w).cba.result = s.cba.result ∧ (s.carryFailed w).cba.writeback = s.cba.writeback ∧
    (s.carryFailed w).cba.request = s.cba.request ∧ (s.carryFailed w).cba.turn = s.cba.turn ∧
    (s.carryFailed w).cba.causes = s.cba.causes ∧ (s.carryFailed w).cba.published = s.cba.published ∧
    (s.carryFailed w).cba.config = s.cba.config ∧ (s.carryFailed w).cba.load = s.cba.load ∧
    (s.carryFailed w).cba.loadQueue = s.cba.loadQueue ∧ (s.carryFailed w).cba.fetch = s.cba.fetch ∧
    (s.carryFailed w).nu.queue = s.nu.queue ∧ (s.carryFailed w).nu.offer = s.nu.offer ∧
    (s.carryFailed w).nu.timer = s.nu.timer := by
  unfold State.carryFailed; split <;> simp

/-- A finished carry pair. -/
@[simp] theorem carryDone_keeps (s : State) (w : Win) (k : Nat) :
    (s.carryDone w k).lines = s.lines ∧ (s.carryDone w k).cc = s.cc ∧ (s.carryDone w k).pp = s.pp ∧
    (s.carryDone w k).fp = s.fp ∧ (s.carryDone w k).nu = s.nu ∧ (s.carryDone w k).mp = s.mp ∧
    (s.carryDone w k).mem = s.mem ∧ (s.carryDone w k).free = s.free ∧ (s.carryDone w k).pending = s.pending ∧
    (s.carryDone w k).cba.result = s.cba.result ∧ (s.carryDone w k).cba.writeback = s.cba.writeback ∧
    (s.carryDone w k).cba.request = s.cba.request ∧ (s.carryDone w k).cba.turn = s.cba.turn ∧
    (s.carryDone w k).cba.published = s.cba.published ∧ (s.carryDone w k).cba.config = s.cba.config ∧
    (s.carryDone w k).cba.load = s.cba.load ∧ (s.carryDone w k).cba.loadQueue = s.cba.loadQueue ∧
    (s.carryDone w k).cba.fetch = s.cba.fetch := by
  unfold State.carryDone; split <;> simp

/-- CARRY_PAIR_COMPLETE. -/
@[simp] theorem carryPairComplete_keeps (s : State) (r : Resp) :
    (s.carryPairComplete r).pending = s.pending ∧ (s.carryPairComplete r).cba.writeback = s.cba.writeback ∧
    (s.carryPairComplete r).cba.turn = s.cba.turn ∧ (s.carryPairComplete r).cba.published = s.cba.published ∧
    (s.carryPairComplete r).cba.config = s.cba.config ∧ (s.carryPairComplete r).lines.cyc = s.lines.cyc ∧
    (s.carryPairComplete r).lines.rst = s.lines.rst ∧ (s.carryPairComplete r).lines.accept = s.lines.accept ∧
    (s.carryPairComplete r).lines.memsz = s.lines.memsz ∧ (s.carryPairComplete r).lines.cbsel = s.lines.cbsel ∧
    (s.carryPairComplete r).nu.queue = s.nu.queue ∧ (s.carryPairComplete r).nu.offer = s.nu.offer ∧
    (s.carryPairComplete r).nu.timer = s.nu.timer ∧ (s.carryPairComplete r).mp.pointer = s.mp.pointer ∧
    (s.carryPairComplete r).cc.frz = s.cc.frz := by
  unfold State.carryPairComplete
  split
  · split <;> simp
  · split <;> simp
  · simp

/-- A failed loop read. -/
@[simp] theorem loopFailed_keeps (s : State) (d : Win) :
    (s.loopFailed d).lines = s.lines ∧ (s.loopFailed d).cc = s.cc ∧ (s.loopFailed d).pp = s.pp ∧
    (s.loopFailed d).fp = s.fp ∧ (s.loopFailed d).nu = s.nu ∧ (s.loopFailed d).mp = s.mp ∧
    (s.loopFailed d).mem = s.mem ∧ (s.loopFailed d).free = s.free ∧ (s.loopFailed d).pending = s.pending ∧
    (s.loopFailed d).cba.result = s.cba.result ∧ (s.loopFailed d).cba.writeback = s.cba.writeback ∧
    (s.loopFailed d).cba.request = s.cba.request ∧ (s.loopFailed d).cba.turn = s.cba.turn ∧
    (s.loopFailed d).cba.causes = s.cba.causes ∧ (s.loopFailed d).cba.published = s.cba.published ∧
    (s.loopFailed d).cba.config = s.cba.config ∧ (s.loopFailed d).cba.load = s.cba.load ∧
    (s.loopFailed d).cba.loadQueue = s.cba.loadQueue ∧ (s.loopFailed d).cba.fetch = s.cba.fetch := by
  unfold State.loopFailed
  split
  · split <;> simp
  · simp

/-- A loop job past its word. -/
@[simp] theorem loopAdvance_keeps (s : State) :
    (s.loopAdvance).lines = s.lines ∧ (s.loopAdvance).cc = s.cc ∧ (s.loopAdvance).windows = s.windows ∧
    (s.loopAdvance).pp = s.pp ∧ (s.loopAdvance).fp = s.fp ∧ (s.loopAdvance).nu = s.nu ∧ (s.loopAdvance).mp = s.mp ∧
    (s.loopAdvance).mem = s.mem ∧ (s.loopAdvance).free = s.free ∧ (s.loopAdvance).pending = s.pending ∧
    (s.loopAdvance).cba = s.cba ∧ (s.loopAdvance).ce.running = s.ce.running ∧
    (s.loopAdvance).ce.request = s.ce.request := by
  unfold State.loopAdvance
  split
  · simp
  · split <;> simp

/-- A finished loop word. -/
@[simp] theorem loopDone_keeps (s : State) (d : Win) :
    (s.loopDone d).lines = s.lines ∧ (s.loopDone d).cc = s.cc ∧ (s.loopDone d).pp = s.pp ∧
    (s.loopDone d).fp = s.fp ∧ (s.loopDone d).nu = s.nu ∧ (s.loopDone d).mp = s.mp ∧ (s.loopDone d).mem = s.mem ∧
    (s.loopDone d).free = s.free ∧ (s.loopDone d).pending = s.pending ∧ (s.loopDone d).cba.result = s.cba.result ∧
    (s.loopDone d).cba.writeback = s.cba.writeback ∧ (s.loopDone d).cba.request = s.cba.request ∧
    (s.loopDone d).cba.turn = s.cba.turn ∧ (s.loopDone d).cba.published = s.cba.published ∧
    (s.loopDone d).cba.config = s.cba.config ∧ (s.loopDone d).cba.load = s.cba.load ∧
    (s.loopDone d).cba.loadQueue = s.cba.loadQueue ∧ (s.loopDone d).cba.fetch = s.cba.fetch := by
  unfold State.loopDone
  split
  · split <;> simp
  · simp

/-- LOOP_PAIR_COMPLETE. -/
@[simp] theorem loopPairComplete_keeps (s : State) (r : Resp) :
    (s.loopPairComplete r).lines = s.lines ∧ (s.loopPairComplete r).pp = s.pp ∧ (s.loopPairComplete r).fp = s.fp ∧
    (s.loopPairComplete r).nu = s.nu ∧ (s.loopPairComplete r).pending = s.pending ∧
    (s.loopPairComplete r).cba.result = s.cba.result ∧ (s.loopPairComplete r).cba.writeback = s.cba.writeback ∧
    (s.loopPairComplete r).cba.request = s.cba.request ∧ (s.loopPairComplete r).cba.turn = s.cba.turn ∧
    (s.loopPairComplete r).cba.published = s.cba.published ∧ (s.loopPairComplete r).cba.config = s.cba.config ∧
    (s.loopPairComplete r).cba.load = s.cba.load ∧ (s.loopPairComplete r).cba.loadQueue = s.cba.loadQueue ∧
    (s.loopPairComplete r).cba.fetch = s.cba.fetch ∧ (s.loopPairComplete r).mp.pointer = s.mp.pointer ∧
    (s.loopPairComplete r).cc.state = s.cc.state ∧ (s.loopPairComplete r).cc.phase = s.cc.phase ∧
    (s.loopPairComplete r).cc.cycle = s.cc.cycle ∧ (s.loopPairComplete r).cc.groupPos = s.cc.groupPos ∧
    (s.loopPairComplete r).cc.lowSeen = s.cc.lowSeen ∧ (s.loopPairComplete r).cc.frz = s.cc.frz ∧
    (s.loopPairComplete r).cc.freezeReq = s.cc.freezeReq ∧ (s.loopPairComplete r).cc.interval = s.cc.interval ∧
    (s.loopPairComplete r).cc.watchdog = s.cc.watchdog := by
  unfold State.loopPairComplete
  split
  · split <;> simp
  · split <;> simp
  · split <;> simp
  · simp

/-- SWAP_PERFORM. -/
@[simp] theorem swapPerform_keeps (s : State) (w : Win) :
    (s.swapPerform w).mem = s.mem ∧ (s.swapPerform w).free = s.free ∧ (s.swapPerform w).pending = s.pending ∧
    (s.swapPerform w).cba.writeback = s.cba.writeback ∧ (s.swapPerform w).cba.turn = s.cba.turn ∧
    (s.swapPerform w).cba.published = s.cba.published ∧ (s.swapPerform w).cba.config = s.cba.config ∧
    (s.swapPerform w).lines.cyc = s.lines.cyc ∧ (s.swapPerform w).lines.rst = s.lines.rst ∧
    (s.swapPerform w).lines.accept = s.lines.accept ∧ (s.swapPerform w).lines.memsz = s.lines.memsz ∧
    (s.swapPerform w).lines.cbsel = s.lines.cbsel ∧ (s.swapPerform w).nu.offer = s.nu.offer ∧
    (s.swapPerform w).nu.timer = s.nu.timer ∧ (s.swapPerform w).mp.pointer = s.mp.pointer ∧
    (s.swapPerform w).mp.grant = s.mp.grant ∧ (s.swapPerform w).cc.frz = s.cc.frz := by
  unfold State.swapPerform; split <;> simp

/-! ## Loads and fetches -/

/-- The answer to a K read. -/
@[simp] theorem kReadDone_keeps (s : State) (r : Resp) (t : Single) :
    (s.kReadDone r t).lines = s.lines ∧ (s.kReadDone r t).windows = s.windows ∧ (s.kReadDone r t).pp = s.pp ∧
    (s.kReadDone r t).fp = s.fp ∧ (s.kReadDone r t).ce = s.ce ∧ (s.kReadDone r t).nu = s.nu ∧
    (s.kReadDone r t).mem = s.mem ∧ (s.kReadDone r t).free = s.free ∧ (s.kReadDone r t).pending = s.pending ∧
    (s.kReadDone r t).cba.result = s.cba.result ∧ (s.kReadDone r t).cba.writeback = s.cba.writeback ∧
    (s.kReadDone r t).cba.published = s.cba.published ∧ (s.kReadDone r t).cba.config = s.cba.config ∧
    (s.kReadDone r t).cba.load = s.cba.load ∧ (s.kReadDone r t).cba.loadQueue = s.cba.loadQueue ∧
    (s.kReadDone r t).cba.fetch = s.cba.fetch ∧ (s.kReadDone r t).mp.pointer = s.mp.pointer ∧
    (s.kReadDone r t).cc.state = s.cc.state ∧ (s.kReadDone r t).cc.phase = s.cc.phase ∧
    (s.kReadDone r t).cc.cycle = s.cc.cycle ∧ (s.kReadDone r t).cc.groupPos = s.cc.groupPos ∧
    (s.kReadDone r t).cc.lowSeen = s.cc.lowSeen ∧ (s.kReadDone r t).cc.frz = s.cc.frz ∧
    (s.kReadDone r t).cc.freezeReq = s.cc.freezeReq ∧ (s.kReadDone r t).cc.interval = s.cc.interval ∧
    (s.kReadDone r t).cc.watchdog = s.cc.watchdog := by
  simp [State.kReadDone]

/-- The answer to a K read changes no record by itself. -/
@[simp] theorem win_kReadDone (s : State) (r : Resp) (t : Single) (v : Win) :
    (s.kReadDone r t).win v = s.win v := win_congr (by simp) v

/-- A validated slot changes its record, or LOAD_FAIL is recorded. -/
@[simp] theorem fillSlot_keeps (s : State) (w : Win) (f : Descriptor → Window → Window) (l : List Word) :
    (s.fillSlot w f l).lines = s.lines ∧ (s.fillSlot w f l).cc = s.cc ∧ (s.fillSlot w f l).pp = s.pp ∧
    (s.fillSlot w f l).fp = s.fp ∧ (s.fillSlot w f l).ce = s.ce ∧ (s.fillSlot w f l).nu = s.nu ∧
    (s.fillSlot w f l).mp = s.mp ∧ (s.fillSlot w f l).mem = s.mem ∧ (s.fillSlot w f l).free = s.free ∧
    (s.fillSlot w f l).pending = s.pending ∧ (s.fillSlot w f l).cba.result = s.cba.result ∧
    (s.fillSlot w f l).cba.writeback = s.cba.writeback ∧ (s.fillSlot w f l).cba.request = s.cba.request ∧
    (s.fillSlot w f l).cba.turn = s.cba.turn ∧ (s.fillSlot w f l).cba.published = s.cba.published ∧
    (s.fillSlot w f l).cba.config = s.cba.config ∧ (s.fillSlot w f l).cba.load = s.cba.load ∧
    (s.fillSlot w f l).cba.loadQueue = s.cba.loadQueue ∧ (s.fillSlot w f l).cba.fetch = s.cba.fetch := by
  unfold State.fillSlot; split <;> simp

/-- A record of the load. -/
@[simp] theorem loadRecord_keeps (s : State) (l : StartLoad) (n : Nat) (ws : List Word) :
    (s.loadRecord l n ws).lines = s.lines ∧ (s.loadRecord l n ws).cc = s.cc ∧ (s.loadRecord l n ws).pp = s.pp ∧
    (s.loadRecord l n ws).fp = s.fp ∧ (s.loadRecord l n ws).ce = s.ce ∧ (s.loadRecord l n ws).nu = s.nu ∧
    (s.loadRecord l n ws).mp = s.mp ∧ (s.loadRecord l n ws).mem = s.mem ∧ (s.loadRecord l n ws).free = s.free ∧
    (s.loadRecord l n ws).pending = s.pending ∧ (s.loadRecord l n ws).cba.result = s.cba.result ∧
    (s.loadRecord l n ws).cba.writeback = s.cba.writeback ∧ (s.loadRecord l n ws).cba.request = s.cba.request ∧
    (s.loadRecord l n ws).cba.turn = s.cba.turn ∧ (s.loadRecord l n ws).cba.published = s.cba.published ∧
    (s.loadRecord l n ws).cba.config = s.cba.config ∧ (s.loadRecord l n ws).cba.loadQueue = s.cba.loadQueue ∧
    (s.loadRecord l n ws).cba.fetch = s.cba.fetch := by
  unfold State.loadRecord
  split
  · split <;> simp
  · simp

/-- A word of the load. -/
@[simp] theorem loadWord_keeps (s : State) (l : StartLoad) (x : Word) :
    (s.loadWord l x).lines = s.lines ∧ (s.loadWord l x).cc = s.cc ∧ (s.loadWord l x).pp = s.pp ∧
    (s.loadWord l x).fp = s.fp ∧ (s.loadWord l x).ce = s.ce ∧ (s.loadWord l x).nu = s.nu ∧
    (s.loadWord l x).mp = s.mp ∧ (s.loadWord l x).mem = s.mem ∧ (s.loadWord l x).free = s.free ∧
    (s.loadWord l x).pending = s.pending ∧ (s.loadWord l x).cba.result = s.cba.result ∧
    (s.loadWord l x).cba.writeback = s.cba.writeback ∧ (s.loadWord l x).cba.request = s.cba.request ∧
    (s.loadWord l x).cba.turn = s.cba.turn ∧ (s.loadWord l x).cba.published = s.cba.published ∧
    (s.loadWord l x).cba.config = s.cba.config ∧ (s.loadWord l x).cba.loadQueue = s.cba.loadQueue ∧
    (s.loadWord l x).cba.fetch = s.cba.fetch := by
  unfold State.loadWord; split <;> simp

/-- A read of the load. -/
@[simp] theorem loadAnswered_keeps (s : State) (r : Resp) (x : Word) :
    (s.loadAnswered r x).lines = s.lines ∧ (s.loadAnswered r x).cc = s.cc ∧ (s.loadAnswered r x).pp = s.pp ∧
    (s.loadAnswered r x).fp = s.fp ∧ (s.loadAnswered r x).ce = s.ce ∧ (s.loadAnswered r x).nu = s.nu ∧
    (s.loadAnswered r x).mp = s.mp ∧ (s.loadAnswered r x).mem = s.mem ∧ (s.loadAnswered r x).free = s.free ∧
    (s.loadAnswered r x).pending = s.pending ∧ (s.loadAnswered r x).cba.result = s.cba.result ∧
    (s.loadAnswered r x).cba.writeback = s.cba.writeback ∧ (s.loadAnswered r x).cba.request = s.cba.request ∧
    (s.loadAnswered r x).cba.turn = s.cba.turn ∧ (s.loadAnswered r x).cba.published = s.cba.published ∧
    (s.loadAnswered r x).cba.config = s.cba.config ∧ (s.loadAnswered r x).cba.loadQueue = s.cba.loadQueue ∧
    (s.loadAnswered r x).cba.fetch = s.cba.fetch := by
  unfold State.loadAnswered
  split
  · simp
  · split
    · simp
    · split <;> simp

/-- LOAD_READ_COMPLETE. -/
@[simp] theorem loadReadComplete_keeps (s : State) (r : Resp) :
    (s.loadReadComplete r).lines = s.lines ∧ (s.loadReadComplete r).pp = s.pp ∧ (s.loadReadComplete r).fp = s.fp ∧
    (s.loadReadComplete r).ce = s.ce ∧ (s.loadReadComplete r).nu = s.nu ∧ (s.loadReadComplete r).mem = s.mem ∧
    (s.loadReadComplete r).free = s.free ∧ (s.loadReadComplete r).pending = s.pending ∧
    (s.loadReadComplete r).cba.result = s.cba.result ∧ (s.loadReadComplete r).cba.writeback = s.cba.writeback ∧
    (s.loadReadComplete r).cba.published = s.cba.published ∧ (s.loadReadComplete r).cba.config = s.cba.config ∧
    (s.loadReadComplete r).cba.loadQueue = s.cba.loadQueue ∧ (s.loadReadComplete r).cba.fetch = s.cba.fetch ∧
    (s.loadReadComplete r).mp.pointer = s.mp.pointer ∧ (s.loadReadComplete r).cc.state = s.cc.state ∧
    (s.loadReadComplete r).cc.phase = s.cc.phase ∧ (s.loadReadComplete r).cc.cycle = s.cc.cycle ∧
    (s.loadReadComplete r).cc.groupPos = s.cc.groupPos ∧ (s.loadReadComplete r).cc.lowSeen = s.cc.lowSeen ∧
    (s.loadReadComplete r).cc.frz = s.cc.frz ∧ (s.loadReadComplete r).cc.freezeReq = s.cc.freezeReq ∧
    (s.loadReadComplete r).cc.interval = s.cc.interval ∧ (s.loadReadComplete r).cc.watchdog = s.cc.watchdog := by
  unfold State.loadReadComplete
  split
  · split <;> simp
  · simp

/-- The successful end of a load. -/
@[simp] theorem loadSucceeds_keeps (s : State) (c : ConfigRecord) :
    (s.loadSucceeds c).lines = s.lines ∧ (s.loadSucceeds c).pp = s.pp ∧ (s.loadSucceeds c).fp = s.fp ∧
    (s.loadSucceeds c).ce = s.ce ∧ (s.loadSucceeds c).nu = s.nu ∧ (s.loadSucceeds c).mem = s.mem ∧
    (s.loadSucceeds c).free = s.free ∧ (s.loadSucceeds c).pending = s.pending ∧
    (s.loadSucceeds c).cba.result = s.cba.result ∧ (s.loadSucceeds c).cba.writeback = s.cba.writeback ∧
    (s.loadSucceeds c).cba.request = s.cba.request ∧ (s.loadSucceeds c).cba.turn = s.cba.turn ∧
    (s.loadSucceeds c).cba.published = s.cba.published ∧ (s.loadSucceeds c).cba.loadQueue = s.cba.loadQueue ∧
    (s.loadSucceeds c).cba.fetch = s.cba.fetch ∧ (s.loadSucceeds c).mp.grant = s.mp.grant ∧
    (s.loadSucceeds c).mp.latch = s.mp.latch ∧ (s.loadSucceeds c).cc.phase = s.cc.phase ∧
    (s.loadSucceeds c).cc.cycle = s.cc.cycle ∧ (s.loadSucceeds c).cc.groupPos = s.cc.groupPos ∧
    (s.loadSucceeds c).cc.frz = s.cc.frz ∧ (s.loadSucceeds c).cc.drainSet = s.cc.drainSet := by
  simp [State.loadSucceeds]

/-- Every record takes the START column's values (R12). -/
@[simp] theorem win_loadSucceeds (s : State) (c : ConfigRecord) (v : Win) :
    (s.loadSucceeds c).win v = (s.win v).started := by
  simp only [State.loadSucceeds, win_record, win_foldl_modWin]; rfl

/-- The failed end of a load. -/
@[simp] theorem loadFails_keeps (s : State) :
    (s.loadFails).lines = s.lines ∧ (s.loadFails).windows = s.windows ∧ (s.loadFails).pp = s.pp ∧
    (s.loadFails).fp = s.fp ∧ (s.loadFails).ce = s.ce ∧ (s.loadFails).nu = s.nu ∧ (s.loadFails).mp = s.mp ∧
    (s.loadFails).mem = s.mem ∧ (s.loadFails).free = s.free ∧ (s.loadFails).pending = s.pending ∧
    (s.loadFails).cba.result = s.cba.result ∧ (s.loadFails).cba.writeback = s.cba.writeback ∧
    (s.loadFails).cba.request = s.cba.request ∧ (s.loadFails).cba.turn = s.cba.turn ∧
    (s.loadFails).cba.published = s.cba.published ∧ (s.loadFails).cba.config = s.cba.config ∧
    (s.loadFails).cba.loadQueue = s.cba.loadQueue ∧ (s.loadFails).cba.fetch = s.cba.fetch ∧
    (s.loadFails).cc.phase = s.cc.phase ∧ (s.loadFails).cc.cycle = s.cc.cycle ∧
    (s.loadFails).cc.groupPos = s.cc.groupPos ∧ (s.loadFails).cc.lowSeen = s.cc.lowSeen ∧
    (s.loadFails).cc.frz = s.cc.frz ∧ (s.loadFails).cc.freezeReq = s.cc.freezeReq ∧
    (s.loadFails).cc.interval = s.cc.interval ∧ (s.loadFails).cc.watchdog = s.cc.watchdog ∧
    (s.loadFails).cc.drainSet = s.cc.drainSet := by
  simp [State.loadFails]

/-- START_LOAD_END. -/
@[simp] theorem startLoadEnd_keeps (s : State) :
    (s.startLoadEnd).lines = s.lines ∧ (s.startLoadEnd).pp = s.pp ∧ (s.startLoadEnd).fp = s.fp ∧
    (s.startLoadEnd).ce = s.ce ∧ (s.startLoadEnd).nu = s.nu ∧ (s.startLoadEnd).mem = s.mem ∧
    (s.startLoadEnd).free = s.free ∧ (s.startLoadEnd).pending = s.pending ∧
    (s.startLoadEnd).cba.result = s.cba.result ∧ (s.startLoadEnd).cba.writeback = s.cba.writeback ∧
    (s.startLoadEnd).cba.request = s.cba.request ∧ (s.startLoadEnd).cba.turn = s.cba.turn ∧
    (s.startLoadEnd).cba.published = s.cba.published ∧ (s.startLoadEnd).cba.loadQueue = s.cba.loadQueue ∧
    (s.startLoadEnd).cba.fetch = s.cba.fetch ∧ (s.startLoadEnd).mp.grant = s.mp.grant ∧
    (s.startLoadEnd).mp.latch = s.mp.latch ∧ (s.startLoadEnd).cc.phase = s.cc.phase ∧
    (s.startLoadEnd).cc.cycle = s.cc.cycle ∧ (s.startLoadEnd).cc.groupPos = s.cc.groupPos ∧
    (s.startLoadEnd).cc.frz = s.cc.frz ∧ (s.startLoadEnd).cc.drainSet = s.cc.drainSet := by
  unfold State.startLoadEnd
  split
  · split
    · split <;> simp
    · simp
  · simp

/-- The end of a fetch. -/
@[simp] theorem endFetch_keeps (s : State) :
    (s.endFetch).lines = s.lines ∧ (s.endFetch).cc = s.cc ∧ (s.endFetch).pp = s.pp ∧ (s.endFetch).fp = s.fp ∧
    (s.endFetch).ce = s.ce ∧ (s.endFetch).nu = s.nu ∧ (s.endFetch).mp = s.mp ∧ (s.endFetch).mem = s.mem ∧
    (s.endFetch).free = s.free ∧ (s.endFetch).pending = s.pending ∧ (s.endFetch).cba.result = s.cba.result ∧
    (s.endFetch).cba.writeback = s.cba.writeback ∧ (s.endFetch).cba.request = s.cba.request ∧
    (s.endFetch).cba.turn = s.cba.turn ∧ (s.endFetch).cba.published = s.cba.published ∧
    (s.endFetch).cba.config = s.cba.config ∧ (s.endFetch).cba.load = s.cba.load := by
  unfold State.endFetch; simp only; split <;> simp

/-- A word of a fetch. -/
@[simp] theorem fetchWord_keeps (s : State) (f : Fetch) (x : Word) :
    (s.fetchWord f x).lines = s.lines ∧ (s.fetchWord f x).cc = s.cc ∧ (s.fetchWord f x).pp = s.pp ∧
    (s.fetchWord f x).fp = s.fp ∧ (s.fetchWord f x).ce = s.ce ∧ (s.fetchWord f x).nu = s.nu ∧
    (s.fetchWord f x).mp = s.mp ∧ (s.fetchWord f x).mem = s.mem ∧ (s.fetchWord f x).free = s.free ∧
    (s.fetchWord f x).pending = s.pending ∧ (s.fetchWord f x).cba.result = s.cba.result ∧
    (s.fetchWord f x).cba.writeback = s.cba.writeback ∧ (s.fetchWord f x).cba.request = s.cba.request ∧
    (s.fetchWord f x).cba.turn = s.cba.turn ∧ (s.fetchWord f x).cba.published = s.cba.published ∧
    (s.fetchWord f x).cba.config = s.cba.config ∧ (s.fetchWord f x).cba.load = s.cba.load := by
  unfold State.fetchWord; split <;> simp

/-- A read of a fetch. -/
@[simp] theorem fetchAnswered_keeps (s : State) (r : Resp) (x : Word) :
    (s.fetchAnswered r x).lines = s.lines ∧ (s.fetchAnswered r x).cc = s.cc ∧ (s.fetchAnswered r x).pp = s.pp ∧
    (s.fetchAnswered r x).fp = s.fp ∧ (s.fetchAnswered r x).ce = s.ce ∧ (s.fetchAnswered r x).nu = s.nu ∧
    (s.fetchAnswered r x).mp = s.mp ∧ (s.fetchAnswered r x).mem = s.mem ∧ (s.fetchAnswered r x).free = s.free ∧
    (s.fetchAnswered r x).pending = s.pending ∧ (s.fetchAnswered r x).cba.result = s.cba.result ∧
    (s.fetchAnswered r x).cba.writeback = s.cba.writeback ∧ (s.fetchAnswered r x).cba.request = s.cba.request ∧
    (s.fetchAnswered r x).cba.turn = s.cba.turn ∧ (s.fetchAnswered r x).cba.published = s.cba.published ∧
    (s.fetchAnswered r x).cba.config = s.cba.config ∧ (s.fetchAnswered r x).cba.load = s.cba.load := by
  unfold State.fetchAnswered
  split
  · simp
  · split
    · simp
    · split <;> simp

/-- FETCH_READ_COMPLETE. -/
@[simp] theorem fetchReadComplete_keeps (s : State) (r : Resp) :
    (s.fetchReadComplete r).lines = s.lines ∧ (s.fetchReadComplete r).pp = s.pp ∧
    (s.fetchReadComplete r).fp = s.fp ∧ (s.fetchReadComplete r).ce = s.ce ∧ (s.fetchReadComplete r).nu = s.nu ∧
    (s.fetchReadComplete r).mem = s.mem ∧ (s.fetchReadComplete r).free = s.free ∧
    (s.fetchReadComplete r).pending = s.pending ∧ (s.fetchReadComplete r).cba.result = s.cba.result ∧
    (s.fetchReadComplete r).cba.writeback = s.cba.writeback ∧
    (s.fetchReadComplete r).cba.published = s.cba.published ∧ (s.fetchReadComplete r).cba.config = s.cba.config ∧
    (s.fetchReadComplete r).cba.load = s.cba.load ∧ (s.fetchReadComplete r).mp.pointer = s.mp.pointer ∧
    (s.fetchReadComplete r).cc.state = s.cc.state ∧ (s.fetchReadComplete r).cc.phase = s.cc.phase ∧
    (s.fetchReadComplete r).cc.cycle = s.cc.cycle ∧ (s.fetchReadComplete r).cc.groupPos = s.cc.groupPos ∧
    (s.fetchReadComplete r).cc.lowSeen = s.cc.lowSeen ∧ (s.fetchReadComplete r).cc.frz = s.cc.frz ∧
    (s.fetchReadComplete r).cc.freezeReq = s.cc.freezeReq ∧ (s.fetchReadComplete r).cc.interval = s.cc.interval ∧
    (s.fetchReadComplete r).cc.watchdog = s.cc.watchdog := by
  unfold State.fetchReadComplete
  split
  · split <;> simp
  · simp

/-! ## Write-back -/

/-- WRITEBACK_RECORD. -/
@[simp] theorem beginWriteback_keeps (s : State) :
    (s.beginWriteback).lines = s.lines ∧ (s.beginWriteback).cc = s.cc ∧ (s.beginWriteback).windows = s.windows ∧
    (s.beginWriteback).pp = s.pp ∧ (s.beginWriteback).fp = s.fp ∧ (s.beginWriteback).ce = s.ce ∧
    (s.beginWriteback).nu = s.nu ∧ (s.beginWriteback).mp = s.mp ∧ (s.beginWriteback).mem = s.mem ∧
    (s.beginWriteback).free = s.free ∧ (s.beginWriteback).pending = s.pending ∧
    (s.beginWriteback).cba.result = s.cba.result ∧ (s.beginWriteback).cba.turn = s.cba.turn ∧
    (s.beginWriteback).cba.causes = s.cba.causes ∧ (s.beginWriteback).cba.published = s.cba.published ∧
    (s.beginWriteback).cba.config = s.cba.config ∧ (s.beginWriteback).cba.load = s.cba.load ∧
    (s.beginWriteback).cba.loadQueue = s.cba.loadQueue ∧ (s.beginWriteback).cba.fetch = s.cba.fetch := by
  unfold State.beginWriteback; split <;> simp

/-- WRITEBACK_RECORD changes no window record. -/
@[simp] theorem win_beginWriteback (s : State) (v : Win) :
    (s.beginWriteback).win v = s.win v := win_congr (by simp) v

/-- A published set. -/
@[simp] theorem publish_keeps (s : State) (x : Word) (r : RecName) :
    (s.publish x r).lines = s.lines ∧ (s.publish x r).cc = s.cc ∧ (s.publish x r).pp = s.pp ∧
    (s.publish x r).fp = s.fp ∧ (s.publish x r).ce = s.ce ∧ (s.publish x r).nu = s.nu ∧ (s.publish x r).mp = s.mp ∧
    (s.publish x r).mem = s.mem ∧ (s.publish x r).free = s.free ∧ (s.publish x r).pending = s.pending ∧
    (s.publish x r).cba.result = s.cba.result ∧ (s.publish x r).cba.dirty = s.cba.dirty ∧
    (s.publish x r).cba.writeback = s.cba.writeback ∧ (s.publish x r).cba.request = s.cba.request ∧
    (s.publish x r).cba.turn = s.cba.turn ∧ (s.publish x r).cba.causes = s.cba.causes ∧
    (s.publish x r).cba.config = s.cba.config ∧ (s.publish x r).cba.load = s.cba.load ∧
    (s.publish x r).cba.loadQueue = s.cba.loadQueue ∧ (s.publish x r).cba.fetch = s.cba.fetch := by
  cases r <;> simp [State.publish]

/-- A published set. -/
@[simp] theorem publishAnswered_keeps (r : Resp) (s : State) (n : RecName) (i : Nat) (x : Word) :
    (State.publishAnswered r s n i x).lines = s.lines ∧ (State.publishAnswered r s n i x).cc = s.cc ∧
    (State.publishAnswered r s n i x).pp = s.pp ∧ (State.publishAnswered r s n i x).fp = s.fp ∧
    (State.publishAnswered r s n i x).ce = s.ce ∧ (State.publishAnswered r s n i x).nu = s.nu ∧
    (State.publishAnswered r s n i x).mp = s.mp ∧ (State.publishAnswered r s n i x).mem = s.mem ∧
    (State.publishAnswered r s n i x).free = s.free ∧ (State.publishAnswered r s n i x).pending = s.pending ∧
    (State.publishAnswered r s n i x).cba.result = s.cba.result ∧
    (State.publishAnswered r s n i x).cba.dirty = s.cba.dirty ∧
    (State.publishAnswered r s n i x).cba.writeback = s.cba.writeback ∧
    (State.publishAnswered r s n i x).cba.request = s.cba.request ∧
    (State.publishAnswered r s n i x).cba.turn = s.cba.turn ∧
    (State.publishAnswered r s n i x).cba.causes = s.cba.causes ∧
    (State.publishAnswered r s n i x).cba.config = s.cba.config ∧
    (State.publishAnswered r s n i x).cba.load = s.cba.load ∧
    (State.publishAnswered r s n i x).cba.loadQueue = s.cba.loadQueue ∧
    (State.publishAnswered r s n i x).cba.fetch = s.cba.fetch := by
  unfold State.publishAnswered
  split
  · simp
  · split <;> simp

/-- The next word of a write-back. -/
@[simp] theorem nextWord_keeps (s : State) (n : RecName) (i : Nat) :
    (s.nextWord n i).lines = s.lines ∧ (s.nextWord n i).windows = s.windows ∧ (s.nextWord n i).pp = s.pp ∧
    (s.nextWord n i).fp = s.fp ∧ (s.nextWord n i).ce = s.ce ∧ (s.nextWord n i).nu = s.nu ∧
    (s.nextWord n i).mp = s.mp ∧ (s.nextWord n i).mem = s.mem ∧ (s.nextWord n i).free = s.free ∧
    (s.nextWord n i).pending = s.pending ∧ (s.nextWord n i).cba.result = s.cba.result ∧
    (s.nextWord n i).cba.dirty = s.cba.dirty ∧ (s.nextWord n i).cba.request = s.cba.request ∧
    (s.nextWord n i).cba.turn = s.cba.turn ∧ (s.nextWord n i).cba.causes = s.cba.causes ∧
    (s.nextWord n i).cba.published = s.cba.published ∧ (s.nextWord n i).cba.config = s.cba.config ∧
    (s.nextWord n i).cba.load = s.cba.load ∧ (s.nextWord n i).cba.loadQueue = s.cba.loadQueue ∧
    (s.nextWord n i).cba.fetch = s.cba.fetch ∧ (s.nextWord n i).cc.state = s.cc.state ∧
    (s.nextWord n i).cc.cycle = s.cc.cycle ∧ (s.nextWord n i).cc.groupPos = s.cc.groupPos ∧
    (s.nextWord n i).cc.lowSeen = s.cc.lowSeen ∧ (s.nextWord n i).cc.frz = s.cc.frz ∧
    (s.nextWord n i).cc.freezeReq = s.cc.freezeReq ∧ (s.nextWord n i).cc.interval = s.cc.interval ∧
    (s.nextWord n i).cc.watchdog = s.cc.watchdog ∧ (s.nextWord n i).cc.drainSet = s.cc.drainSet := by
  unfold State.nextWord; split <;> simp

/-- The next word of a write-back changes no record. -/
@[simp] theorem win_nextWord (s : State) (n : RecName) (i : Nat) (v : Win) :
    (s.nextWord n i).win v = s.win v := win_congr (by simp) v

/-- WRITEBACK_WORD_COMPLETE. -/
@[simp] theorem writebackWordComplete_keeps (s : State) (r : Resp) :
    (s.writebackWordComplete r).lines = s.lines ∧ (s.writebackWordComplete r).pp = s.pp ∧
    (s.writebackWordComplete r).fp = s.fp ∧ (s.writebackWordComplete r).ce = s.ce ∧
    (s.writebackWordComplete r).nu = s.nu ∧ (s.writebackWordComplete r).pending = s.pending ∧
    (s.writebackWordComplete r).cba.result = s.cba.result ∧ (s.writebackWordComplete r).cba.config = s.cba.config ∧
    (s.writebackWordComplete r).cba.load = s.cba.load ∧
    (s.writebackWordComplete r).cba.loadQueue = s.cba.loadQueue ∧
    (s.writebackWordComplete r).cba.fetch = s.cba.fetch ∧ (s.writebackWordComplete r).mp.pointer = s.mp.pointer ∧
    (s.writebackWordComplete r).cc.state = s.cc.state ∧ (s.writebackWordComplete r).cc.cycle = s.cc.cycle ∧
    (s.writebackWordComplete r).cc.groupPos = s.cc.groupPos ∧
    (s.writebackWordComplete r).cc.lowSeen = s.cc.lowSeen ∧ (s.writebackWordComplete r).cc.frz = s.cc.frz ∧
    (s.writebackWordComplete r).cc.freezeReq = s.cc.freezeReq ∧
    (s.writebackWordComplete r).cc.interval = s.cc.interval ∧
    (s.writebackWordComplete r).cc.watchdog = s.cc.watchdog ∧
    (s.writebackWordComplete r).cc.drainSet = s.cc.drainSet := by
  unfold State.writebackWordComplete
  split
  · split <;> simp
  · simp

/-! ## Notices -/

/-- NOTICE_OFFER. -/
@[simp] theorem raiseOffer_keeps (s : State) :
    (s.raiseOffer).lines = s.lines ∧ (s.raiseOffer).cc = s.cc ∧ (s.raiseOffer).windows = s.windows ∧
    (s.raiseOffer).pp = s.pp ∧ (s.raiseOffer).fp = s.fp ∧ (s.raiseOffer).ce = s.ce ∧ (s.raiseOffer).mp = s.mp ∧
    (s.raiseOffer).mem = s.mem ∧ (s.raiseOffer).free = s.free ∧ (s.raiseOffer).pending = s.pending ∧
    (s.raiseOffer).cba = s.cba ∧ (s.raiseOffer).nu.queue = s.nu.queue ∧
    (s.raiseOffer).nu.reservations = s.nu.reservations := by
  unfold State.raiseOffer
  split
  · split <;> simp
  · simp

/-- NOTICE_OFFER changes no record. -/
@[simp] theorem win_raiseOffer (s : State) (v : Win) :
    (s.raiseOffer).win v = s.win v := win_congr (by simp) v

/-- NOTICE_ACCEPT. -/
@[simp] theorem acceptNotice_keeps (s : State) :
    (s.acceptNotice).mem = s.mem ∧ (s.acceptNotice).free = s.free ∧ (s.acceptNotice).pending = s.pending ∧
    (s.acceptNotice).cba.writeback = s.cba.writeback ∧ (s.acceptNotice).cba.turn = s.cba.turn ∧
    (s.acceptNotice).cba.published = s.cba.published ∧ (s.acceptNotice).cba.config = s.cba.config ∧
    (s.acceptNotice).lines.cyc = s.lines.cyc ∧ (s.acceptNotice).lines.rst = s.lines.rst ∧
    (s.acceptNotice).lines.accept = s.lines.accept ∧ (s.acceptNotice).lines.memsz = s.lines.memsz ∧
    (s.acceptNotice).lines.cbsel = s.lines.cbsel ∧ (s.acceptNotice).mp.pointer = s.mp.pointer ∧
    (s.acceptNotice).mp.grant = s.mp.grant ∧ (s.acceptNotice).cc.frz = s.cc.frz := by
  unfold State.acceptNotice; split <;> simp

/-- NOTICE_TIMEOUT. -/
@[simp] theorem noticeExpires_keeps (s : State) :
    (s.noticeExpires).mem = s.mem ∧ (s.noticeExpires).free = s.free ∧ (s.noticeExpires).pending = s.pending ∧
    (s.noticeExpires).cba.writeback = s.cba.writeback ∧ (s.noticeExpires).cba.turn = s.cba.turn ∧
    (s.noticeExpires).cba.published = s.cba.published ∧ (s.noticeExpires).cba.config = s.cba.config ∧
    (s.noticeExpires).lines.cyc = s.lines.cyc ∧ (s.noticeExpires).lines.rst = s.lines.rst ∧
    (s.noticeExpires).lines.accept = s.lines.accept ∧ (s.noticeExpires).lines.memsz = s.lines.memsz ∧
    (s.noticeExpires).lines.cbsel = s.lines.cbsel ∧ (s.noticeExpires).mp.pointer = s.mp.pointer ∧
    (s.noticeExpires).mp.grant = s.mp.grant ∧ (s.noticeExpires).cc.frz = s.cc.frz := by
  unfold State.noticeExpires
  split
  · simp
  · split <;> simp

/-! ## Ends and resets -/

/-- DRAIN_END. -/
@[simp] theorem endDrain_keeps (s : State) :
    (s.endDrain).lines = s.lines ∧ (s.endDrain).windows = s.windows ∧ (s.endDrain).pp = s.pp ∧
    (s.endDrain).fp = s.fp ∧ (s.endDrain).ce = s.ce ∧ (s.endDrain).nu = s.nu ∧ (s.endDrain).mp = s.mp ∧
    (s.endDrain).mem = s.mem ∧ (s.endDrain).free = s.free ∧ (s.endDrain).pending = s.pending ∧
    (s.endDrain).cba.result = s.cba.result ∧ (s.endDrain).cba.writeback = s.cba.writeback ∧
    (s.endDrain).cba.request = s.cba.request ∧ (s.endDrain).cba.turn = s.cba.turn ∧
    (s.endDrain).cba.published = s.cba.published ∧ (s.endDrain).cba.config = s.cba.config ∧
    (s.endDrain).cba.load = s.cba.load ∧ (s.endDrain).cba.loadQueue = s.cba.loadQueue ∧
    (s.endDrain).cba.fetch = s.cba.fetch ∧ (s.endDrain).cc.phase = s.cc.phase ∧ (s.endDrain).cc.cycle = s.cc.cycle ∧
    (s.endDrain).cc.groupPos = s.cc.groupPos ∧ (s.endDrain).cc.lowSeen = s.cc.lowSeen ∧
    (s.endDrain).cc.frz = s.cc.frz ∧ (s.endDrain).cc.freezeReq = s.cc.freezeReq ∧
    (s.endDrain).cc.interval = s.cc.interval ∧ (s.endDrain).cc.watchdog = s.cc.watchdog ∧
    (s.endDrain).cc.drainSet = s.cc.drainSet := by
  unfold State.endDrain; split <;> simp

/-- DRAIN_END changes no record. -/
@[simp] theorem win_endDrain (s : State) (v : Win) :
    (s.endDrain).win v = s.win v := win_congr (by simp) v

/-- RESET_PASS_END. -/
@[simp] theorem endPass_keeps (s : State) :
    (s.endPass).mem = s.mem ∧ (s.endPass).free = s.free ∧ (s.endPass).pending = s.pending ∧
    (s.endPass).cba.writeback = s.cba.writeback ∧ (s.endPass).cba.turn = s.cba.turn ∧
    (s.endPass).cba.published = s.cba.published ∧ (s.endPass).cba.config = s.cba.config ∧
    (s.endPass).lines.cyc = s.lines.cyc ∧ (s.endPass).lines.rst = s.lines.rst ∧
    (s.endPass).lines.accept = s.lines.accept ∧ (s.endPass).lines.memsz = s.lines.memsz ∧
    (s.endPass).lines.cbsel = s.lines.cbsel ∧ (s.endPass).mp.pointer = s.mp.pointer ∧
    (s.endPass).mp.grant = s.mp.grant ∧ (s.endPass).cc.frz = s.cc.frz ∧ (s.endPass).nu.queue = s.nu.queue ∧
    (s.endPass).nu.offer = s.nu.offer ∧ (s.endPass).nu.timer = s.nu.timer := by
  unfold State.endPass; split <;> simp

/-- RESET_VALUES. -/
@[simp] theorem takeResetValues_keeps (s : State) :
    (s.takeResetValues).lines = s.lines ∧ (s.takeResetValues).mem = s.mem ∧ (s.takeResetValues).free = s.free ∧
    (s.takeResetValues).pending = s.pending ∧ (s.takeResetValues).pp.pwq = s.pp.pwq ∧
    (s.takeResetValues).pp.readSlot = s.pp.readSlot ∧ (s.takeResetValues).fp.held = s.fp.held ∧
    (s.takeResetValues).cc.frz = s.cc.frz := by
  unfold State.takeResetValues; split <;> simp [State.afterReset]

/-! ## The end of an event -/

/-- Presenting K's next request changes the request alone. -/
@[simp] theorem presentK_keeps (s : State) :
    (presentK s).lines = s.lines ∧ (presentK s).cc = s.cc ∧ (presentK s).windows = s.windows ∧ (presentK s).pp = s.pp ∧ (presentK s).fp = s.fp ∧ (presentK s).ce = s.ce ∧ (presentK s).nu = s.nu ∧ (presentK s).mp = s.mp ∧ (presentK s).mem = s.mem ∧ (presentK s).free = s.free ∧ (presentK s).pending = s.pending ∧ (presentK s).cba.result = s.cba.result ∧ (presentK s).cba.dirty = s.cba.dirty ∧ (presentK s).cba.writeback = s.cba.writeback ∧ (presentK s).cba.turn = s.cba.turn ∧ (presentK s).cba.causes = s.cba.causes ∧ (presentK s).cba.published = s.cba.published ∧ (presentK s).cba.config = s.cba.config ∧ (presentK s).cba.load = s.cba.load ∧ (presentK s).cba.loadQueue = s.cba.loadQueue ∧ (presentK s).cba.fetch = s.cba.fetch := by
  unfold presentK
  split
  · simp
  · split
    · simp
    · split <;> simp

/-- The end of an event changes the dirty set and K's request alone. -/
@[simp] theorem finish_keeps (s t : State) :
    (finish s t).lines = t.lines ∧ (finish s t).cc = t.cc ∧ (finish s t).windows = t.windows ∧ (finish s t).pp = t.pp ∧ (finish s t).fp = t.fp ∧ (finish s t).ce = t.ce ∧ (finish s t).nu = t.nu ∧ (finish s t).mp = t.mp ∧ (finish s t).mem = t.mem ∧ (finish s t).free = t.free ∧ (finish s t).pending = t.pending ∧ (finish s t).cba.result = t.cba.result ∧ (finish s t).cba.writeback = t.cba.writeback ∧ (finish s t).cba.turn = t.cba.turn ∧ (finish s t).cba.causes = t.cba.causes ∧ (finish s t).cba.published = t.cba.published ∧ (finish s t).cba.config = t.cba.config ∧ (finish s t).cba.load = t.cba.load ∧ (finish s t).cba.loadQueue = t.cba.loadQueue ∧ (finish s t).cba.fetch = t.cba.fetch := by
  simp [finish, joinDirty]

/-- The end of an event changes no window record. -/
@[simp] theorem win_finish (s t : State) (v : Win) : (finish s t).win v = t.win v := win_congr (by simp) v

/-- The dirty set after an event (R155): what was there, then what joins, in the order of the records. -/
@[simp] theorem finish_dirty (s t : State) :
    (finish s t).cba.dirty = s.cba.dirty ++ allRecords.filter (joinsDirty s t) := by
  simp [finish, joinDirty]

/-- What `act` answers: the event, or nothing while RST is asserted. -/
theorem act_next (f : State → State) (s : State) : act f s = .next (if s.lines.rst then s else finish s (f s)) := rfl

/-- With RST released `act` answers the event. -/
theorem act_released (f : State → State) (s : State) (h : s.lines.rst = false) : act f s = .next (finish s (f s)) := by
  simp [act, h]

end Sys2Proof.Laws
end

