-- ==== Sys2Proof/Laws/Step.lean ====
section
/-! SUPPORT. What a step ends in, and how an access is classified: the lemmas that a proof about one command
starts with. -/

namespace Sys2Proof.Laws

open Sys2Proof Sys2Proof.Machine Sys2Proof.Safety

/-- A step with a command in front is that command on the rest of the queue. -/
theorem step_front {s : State} {c : Instr} {rest : List Instr} (h : s.pending = c :: rest) :
    step s = exec c { s with pending := rest } := by
  unfold step; rw [h]

/-- Every record is in the list of all of them. -/
theorem mem_allRecords (r : RecName) : r ∈ allRecords := by
  cases r with
  | global => simp [allRecords]
  | result => simp [allRecords]
  | win w => simp [allRecords, mem_allWindows]

/-- What the end of an event leaves: its effect, with the dirty set and K's request. -/
theorem finish_eq (s u : State) :
    finish s u = { u with cba := { u.cba with dirty := (finish s u).cba.dirty, request := (finish s u).cba.request } } := by
  unfold finish presentK joinDirty
  split
  · rfl
  · split
    · rfl
    · split
      · rfl
      · rfl

/-- A record that was dirty before an event, or that the event has made dirty, is dirty at its end. -/
theorem mem_finish_dirty {s u : State} {r : RecName} (h : r ∈ s.cba.dirty ∨ r ∈ u.cba.dirty) :
    r ∈ (finish s u).cba.dirty := by
  rw [finish_dirty, List.mem_append]
  by_cases hs : r ∈ s.cba.dirty
  · exact .inl hs
  · exact .inr (by simp [mem_allRecords, joinsDirty, hs, h.resolve_left hs])

/-- The end of an event adds to the dirty set and to K's request alone. -/
theorem endsIn_finish (s u : State) : EndsIn (finish s u) u :=
  ⟨finish_eq s u, fun _ h => mem_finish_dirty (.inr h)⟩

/-- An event with RST released ends in its effect. -/
theorem act_ends (f : State → State) {s : State} (h : s.lines.rst = false) :
    ∃ t, act f s = .next t ∧ EndsIn t (f s) := by
  refine ⟨finish s (f s), ?_, endsIn_finish s (f s)⟩
  simp [act, h]

/-- The window of a state written out. -/
@[simp] theorem win_mk (lines : Lines) (cc : CycleController) (windows : Vector Window 16) (pp : PPort) (fp : FPort)
    (ce : CopyEngine) (nu : NoticeUnit) (cba : ControlBlockAgent) (mp : MemoryPort) (mem : Memory) (free : Nat)
    (pending : List Instr) (w : Win) :
    (State.mk lines cc windows pp fp ce nu cba mp mem free pending).win w = windows[w] := rfl

/-- A window of a state's vector is the window of the state. -/
@[simp] theorem windows_get (s : State) (w : Win) (h : w.val < 16) : s.windows[w.val] = s.win w := rfl

/-- A window of a vector in which one record is replaced. -/
@[simp] theorem windows_set_get (s : State) (w v : Win) (x : Window) (h : w.val < 16) :
    (s.windows.set w.val x h)[v.val] = if v = w then x else s.win v := win_setWin s w x v

/-- Two states agree part by part, apart from the dirty set and K's request. -/
structure Alike (v u : State) : Prop where
  lines   : v.lines = u.lines
  cc      : v.cc = u.cc
  win     : ∀ w, v.win w = u.win w
  pp      : v.pp = u.pp
  fp      : v.fp = u.fp
  ce      : v.ce = u.ce
  nu      : v.nu = u.nu
  cba     : { v.cba with dirty := u.cba.dirty, request := u.cba.request } = u.cba
  mp      : v.mp = u.mp
  mem     : v.mem = u.mem
  free    : v.free = u.free
  pending : v.pending = u.pending

/-- Agreement part by part, as an equation. -/
theorem Alike.eq {v u : State} (h : Alike v u) :
    v = { u with cba := { u.cba with dirty := v.cba.dirty, request := v.cba.request } } := by
  obtain ⟨h1, h2, h3, h4, h5, h6, h7, h8, h9, h10, h11, h12⟩ := h
  replace h3 := windows_ext h3
  cases v; cases u
  simp_all
  rw [← h8]

/-- Agreement part by part is what `EndsIn` says, where the dirty records stay. -/
theorem Alike.endsIn {v u : State} (h : Alike v u) (hd : ∀ r ∈ u.cba.dirty, r ∈ v.cba.dirty) : EndsIn v u := ⟨h.eq, hd⟩

/-- The windows are those of the state ended in. -/
theorem endsIn_win {t u : State} (h : EndsIn t u) (w : Win) : t.win w = u.win w := by rw [h.1]; rfl

/-- The cause flags are those of the state ended in. -/
theorem endsIn_causes {t u : State} (h : EndsIn t u) : t.cba.causes = u.cba.causes := by rw [h.1]

/-- The result record is that of the state ended in. -/
theorem endsIn_result {t u : State} (h : EndsIn t u) : t.cba.result = u.cba.result := by rw [h.1]

/-- `EndsIn` composes. -/
theorem endsIn_trans {t v u : State} (a : EndsIn t v) (b : EndsIn v u) : EndsIn t u := by
  refine ⟨?_, fun r h => a.2 r (b.2 r h)⟩
  rw [a.1, b.1]

/-- The form a proof of a completion uses: the effect agrees with the state that the statement writes out, and its dirty
records were dirty before or are made so. -/
theorem act_ends_in {f : State → State} {s u : State} (hr : s.lines.rst = false) (h : Alike (f s) u)
    (hd : ∀ r ∈ u.cba.dirty, r ∈ s.cba.dirty ∨ r ∈ (f s).cba.dirty) :
    ∃ t, act f s = .next t ∧ EndsIn t u := by
  refine ⟨finish s (f s), by simp [act, hr], ?_, fun r k => mem_finish_dirty (hd r k)⟩
  exact (finish_eq s (f s)).trans (by rw [h.eq])

/-! ## Stalls depend on the straps, the controller state and the windows -/

/-- An access is classified in one state as in the other. -/
theorem classify_congr {s t : State} (hl : t.lines = s.lines) (hc : t.cc.state = s.cc.state)
    (hw : ∀ w, t.win w = s.win w) (q : Port) (write : Bool) (a : Addr) : t.classify q write a = s.classify q write a := by
  have hv : ∀ q a, t.inView q a = s.inView q a := by intros; funext w; simp only [State.inView, hw]
  have hb : ∀ a, t.inBank a = s.inBank a := by intros; funext w; simp only [State.inBank, hw]
  simp only [State.classify, State.memSize, State.inCB, State.cbBase, hl, hc, hv, hb]
  rfl

/-- An access stalls in one state as in the other. -/
theorem stalls_congr {s t : State} (hl : t.lines = s.lines) (hc : t.cc.state = s.cc.state)
    (hw : ∀ w, t.win w = s.win w) (q : Port) (write : Bool) (a : Addr) : t.stalls q write a = s.stalls q write a := by
  simp only [State.stalls, classify_congr hl hc hw, State.windowStalls, hc, hw]

/-- A stall that has outlived its address stands in one state as in the other. -/
theorem fenceStands_congr {s t : State} (hw : ∀ w, t.win w = s.win w) (hp : t.pp = s.pp) :
    t.fenceStands = s.fenceStands := by
  have : t.fenceHolds = s.fenceHolds := by funext w; simp only [State.fenceHolds, hw]
  simp only [State.fenceStands, this, hp]

/-- The P port's access next in order stalls in one state as in the other. -/
theorem headStalls_congr {s t : State} (hl : t.lines = s.lines) (hc : t.cc.state = s.cc.state)
    (hw : ∀ w, t.win w = s.win w) (hp : t.pp = s.pp) : t.headStalls = s.headStalls := by
  simp only [State.headStalls, hp, stalls_congr hl hc hw, fenceStands_congr hw hp]

/-- An event that changes none of these retries nothing. -/
theorem retryStalled_same {s t : State} (hl : t.lines = s.lines) (hc : t.cc.state = s.cc.state)
    (hw : ∀ w, t.win w = s.win w) (hp : t.pp = s.pp) : retryStalled s t = t := by
  have he : endFenced s t = t := by simp [endFenced, fenceStands_congr hw hp]
  have : retryP s t = t := by simp [retryP, he, headStalls_congr hl hc hw hp]
  simp only [retryStalled, this, retryF, stalls_congr hl hc hw]
  split <;> simp

/-- The search for a window that alone satisfies a test finds it. -/
theorem find_only {p : Win → Bool} {w : Win} (h : p w = true) (only : ∀ v, p v = true → v = w) :
    allWindows.find? p = some w := by
  cases e : allWindows.find? p with
  | none => exact absurd h (by simpa using List.find?_eq_none.mp e w (mem_allWindows w))
  | some v => rw [only v (List.find?_some e)]

/-- The search for a window where none satisfies a test. -/
theorem find_none {p : Win → Bool} (h : ∀ v, p v = false) : allWindows.find? p = none := by
  rw [List.find?_eq_none]; intro v _; simp [h v]

/-- An access in one window's view is a window access of it. -/
theorem classify_window {s : State} {q : Port} {a : Addr} {w : Win} {d : Descriptor} (h : InWindow s q a w d)
    (write : Bool) : s.classify q write a = .window w := by
  have hm := h.decoded.inMemory
  simp [State.classify, Nat.not_le.mpr hm, h.decoded.outsideCB, h.decoded.decoding, find_only h.view h.only]

/-- An access in one window's bank and in no view is a shielded bank access of it. -/
theorem classify_shield {s : State} {q : Port} {a : Addr} {w : Win} (h : InBank s q a w) (write : Bool) :
    s.classify q write a = .shield w := by
  have hm := h.decoded.inMemory
  simp [State.classify, Nat.not_le.mpr hm, h.decoded.outsideCB, h.decoded.decoding, find_none h.noView,
    find_only h.bank h.only]

/-- The command word of the Control Block is a command. -/
theorem classify_command {s : State} {x : PWrite} {rest : List PWrite} {c : Command}
    (h : CommandAtIssue s x rest c) : s.classify .p true x.addr = .command := by
  have hm := h.inMemory
  simp [State.classify, State.inCB, inRange, cbClass, h.address, Nat.not_le.mpr hm]

/-- The command that stands at issue is the one its word spells. -/
theorem commandAtIssue_eq {s : State} {x : PWrite} {rest : List PWrite} {c : Command}
    (h : CommandAtIssue s x rest c) : s.commandAtIssue = some (.known c) := by
  simp [State.commandAtIssue, State.fenceStands, h.issue.current, h.issue.running, h.issue.head, h.issue.fenced,
    classify_command h, spelling, h.enables, h.code]

/-- The issue of a command word takes the command. -/
theorem issueP_command {s : State} {x : PWrite} {rest : List PWrite} {c : Command}
    (h : CommandAtIssue s x rest c) :
    s.issueP = (({ s with pp := { s.pp with pwq := rest } } : State).issueAs none false [plainWrite x]).takeCommand
      x.be x.data := by
  simp [State.issueP, State.fenceStands, h.issue.current, h.issue.running, h.issue.head, h.issue.fenced,
    State.issueWrite, classify_command h]

/-! ## The law of the P port -/

/-- The class of the access next in order is that of its address, for a write or a read. -/
theorem headClass_of_headAddr {s : State} {a : Addr} (h : headAddr s = some a) :
    ∃ write, s.headClass = some (s.classify .p write a) := by
  unfold headAddr at h
  unfold State.headClass
  cases hq : s.pp.pwq with
  | cons x rest => simp only [hq, Option.some.injEq] at h; exact ⟨true, by simp only [h]⟩
  | nil => cases hr : s.pp.readSlot with
    | none => simp [hq, hr] at h
    | some r => simp only [hq, hr, Option.some.injEq] at h; exact ⟨false, by simp only [h]⟩

/-- An access outside the Control Block is no command. -/
theorem classify_ne_command {s : State} {a : Addr} (h : s.inCB a = false) (q : Port) (write : Bool) :
    s.classify q write a ≠ .command := by
  unfold State.classify
  rw [h]
  split
  · nofun
  · simp only [Bool.false_eq_true, if_false]
    split
    · nofun
    · split
      · nofun
      · split <;> nofun

/-- The access that stays stalled at a FENCE is no command word. -/
theorem portLaw_head_ne_command {s : State} (h : PortLaw s) {w : Win} (hw : s.pp.fenced = some w) :
    s.headClass ≠ some .command := by
  obtain ⟨_, _, _, _, a, ha, _, hcb⟩ := h.fenced w hw
  obtain ⟨write, e⟩ := headClass_of_headAddr ha
  rw [e]
  exact fun k => classify_ne_command hcb .p write (Option.some.inj k)

/-- Under the law a stall that has outlived its address stands. -/
theorem portLaw_fenceStands {s : State} (h : PortLaw s) {w : Win} (hw : s.pp.fenced = some w) : s.fenceStands = true := by
  obtain ⟨_, _, hf, hu, _⟩ := h.fenced w hw
  simp [State.fenceStands, State.fenceHolds, hw, hf, Option.isSome_iff_ne_none.mpr hu]

/-- The law depends on the P port, the grant, the lines but CYC and the answers, and FENCE and use of the windows. -/
theorem portLaw_congr {s t : State} (h : PortLaw s) (hp : t.pp = s.pp) (hg : t.mp.grant = s.mp.grant)
    (hr : t.lines.rst = s.lines.rst) (hm : t.memSize = s.memSize) (hb : t.cbBase = s.cbBase)
    (hf : ∀ w, (t.win w).fence = (s.win w).fence) (hu : ∀ w, (s.win w).inUse ≠ none → (t.win w).inUse ≠ none) :
    PortLaw t where
  clears := by rw [hp]; exact h.clears
  granted := by rw [hp, hg]; exact h.granted
  fenced w k := by
    rw [hp] at k
    obtain ⟨a, b, c, d, x, e, f, g⟩ := h.fenced w k
    refine ⟨hr.trans a, by rw [hp]; exact b, (hf w).trans c, hu w d, x, ?_, hm ▸ f, ?_⟩
    · simpa only [headAddr, hp] using e
    · simpa only [State.inCB, hb] using g

end Sys2Proof.Laws
end

