-- ==== Sys2Proof/Laws/Windows.lean ====
section
/-! SUPPORT. Which items of a window record each operation keeps, in every window. -/

namespace Sys2Proof.Laws

open Sys2Proof.Machine
open Sys2Proof.Machine.State

/-- A record is that of the windows alone. -/
theorem win_of_windows (s : State) (l : Lines) (c : CycleController) (p : PPort) (f : FPort) (e : CopyEngine) (n : NoticeUnit)
    (b : ControlBlockAgent) (m : MemoryPort) (mem : Memory) (free : Nat) (pending : List Instr) (v : Win) :
    ({ lines := l, cc := c, windows := s.windows, pp := p, fp := f, ce := e, nu := n, cba := b, mp := m, mem := mem,
       free := free, pending := pending } : State).win v = s.win v := rfl

/-- What a fold over windows keeps in one record. -/
theorem foldl_win_keeps {α : Type} (p : Window → α) (f : State → Win → State) (v : Win) (h : ∀ s w, p ((f s w).win v) = p (s.win v))
    (l : List Win) (s : State) : p ((l.foldl f s).win v) = p (s.win v) :=
  foldl_keeps (fun s => p (s.win v)) f h l s

/-- Items that `event` keeps. -/
@[simp] theorem event_fields (s : State) (w : Win) (e : WEvent) (v : Win) :
    ((s.event w e).win v).slotA = (s.win v).slotA ∧ ((s.event w e).win v).slotB = (s.win v).slotB ∧
    ((s.event w e).win v).active = (s.win v).active ∧ ((s.event w e).win v).state = (s.win v).state ∧
    ((s.event w e).win v).valid = (s.win v).valid ∧ ((s.event w e).win v).held = (s.win v).held ∧
    ((s.event w e).win v).safe = (s.win v).safe ∧ ((s.event w e).win v).swapPending = (s.win v).swapPending ∧
    ((s.event w e).win v).fence = (s.win v).fence ∧ ((s.event w e).win v).switchPending = (s.win v).switchPending ∧
    ((s.event w e).win v).role = (s.win v).role ∧ ((s.event w e).win v).fill = (s.win v).fill ∧
    ((s.event w e).win v).miss = (s.win v).miss ∧ ((s.event w e).win v).lost = (s.win v).lost ∧
    ((s.event w e).win v).blocked = (s.win v).blocked ∧ ((s.event w e).win v).drops = (s.win v).drops ∧
    ((s.event w e).win v).lastSwap = (s.win v).lastSwap ∧ ((s.event w e).win v).published = (s.win v).published ∧
    ((s.event w e).win v).refusal = (s.win v).refusal ∧ ((s.event w e).win v).carry = (s.win v).carry ∧
    ((s.event w e).win v).waitSet = (s.win v).waitSet ∧ ((s.event w e).win v).coalesced = (s.win v).coalesced := by
  by_cases h : v = w <;> simp [h]

/-- Items that `drop` keeps. -/
@[simp] theorem drop_fields (s : State) (w : Win) (v : Win) :
    ((s.drop w).win v).slotA = (s.win v).slotA ∧ ((s.drop w).win v).slotB = (s.win v).slotB ∧
    ((s.drop w).win v).active = (s.win v).active ∧ ((s.drop w).win v).state = (s.win v).state ∧
    ((s.drop w).win v).valid = (s.win v).valid ∧ ((s.drop w).win v).held = (s.win v).held ∧
    ((s.drop w).win v).safe = (s.win v).safe ∧ ((s.drop w).win v).swapPending = (s.win v).swapPending ∧
    ((s.drop w).win v).fence = (s.win v).fence ∧ ((s.drop w).win v).switchPending = (s.win v).switchPending ∧
    ((s.drop w).win v).role = (s.win v).role ∧ ((s.drop w).win v).fill = (s.win v).fill ∧
    ((s.drop w).win v).miss = (s.win v).miss ∧ ((s.drop w).win v).lost = (s.win v).lost ∧
    ((s.drop w).win v).blocked = (s.win v).blocked ∧ ((s.drop w).win v).lastSwap = (s.win v).lastSwap ∧
    ((s.drop w).win v).events = (s.win v).events ∧ ((s.drop w).win v).published = (s.win v).published ∧
    ((s.drop w).win v).refusal = (s.win v).refusal ∧ ((s.drop w).win v).carry = (s.win v).carry ∧
    ((s.drop w).win v).waitSet = (s.win v).waitSet ∧ ((s.drop w).win v).coalesced = (s.win v).coalesced := by
  by_cases h : v = w <;> simp [h]

/-- Items that `dropEvent` keeps. -/
@[simp] theorem dropEvent_fields (s : State) (w : Win) (e : WEvent) (v : Win) :
    ((s.dropEvent w e).win v).slotA = (s.win v).slotA ∧ ((s.dropEvent w e).win v).slotB = (s.win v).slotB ∧
    ((s.dropEvent w e).win v).active = (s.win v).active ∧ ((s.dropEvent w e).win v).state = (s.win v).state ∧
    ((s.dropEvent w e).win v).valid = (s.win v).valid ∧ ((s.dropEvent w e).win v).held = (s.win v).held ∧
    ((s.dropEvent w e).win v).safe = (s.win v).safe ∧
    ((s.dropEvent w e).win v).swapPending = (s.win v).swapPending ∧
    ((s.dropEvent w e).win v).fence = (s.win v).fence ∧
    ((s.dropEvent w e).win v).switchPending = (s.win v).switchPending ∧
    ((s.dropEvent w e).win v).role = (s.win v).role ∧ ((s.dropEvent w e).win v).fill = (s.win v).fill ∧
    ((s.dropEvent w e).win v).miss = (s.win v).miss ∧ ((s.dropEvent w e).win v).lost = (s.win v).lost ∧
    ((s.dropEvent w e).win v).blocked = (s.win v).blocked ∧
    ((s.dropEvent w e).win v).lastSwap = (s.win v).lastSwap ∧
    ((s.dropEvent w e).win v).published = (s.win v).published ∧
    ((s.dropEvent w e).win v).refusal = (s.win v).refusal ∧ ((s.dropEvent w e).win v).carry = (s.win v).carry ∧
    ((s.dropEvent w e).win v).waitSet = (s.win v).waitSet ∧
    ((s.dropEvent w e).win v).coalesced = (s.win v).coalesced := by
  by_cases h : v = w <;> simp [h]

/-- Items that `clearPublished` keeps. -/
@[simp] theorem clearPublished_fields (s : State) (r : RecName) (v : Win) :
    ((s.clearPublished r).win v).slotA = (s.win v).slotA ∧ ((s.clearPublished r).win v).slotB = (s.win v).slotB ∧
    ((s.clearPublished r).win v).active = (s.win v).active ∧ ((s.clearPublished r).win v).state = (s.win v).state ∧
    ((s.clearPublished r).win v).valid = (s.win v).valid ∧ ((s.clearPublished r).win v).held = (s.win v).held ∧
    ((s.clearPublished r).win v).safe = (s.win v).safe ∧
    ((s.clearPublished r).win v).swapPending = (s.win v).swapPending ∧
    ((s.clearPublished r).win v).fence = (s.win v).fence ∧
    ((s.clearPublished r).win v).switchPending = (s.win v).switchPending ∧
    ((s.clearPublished r).win v).role = (s.win v).role ∧ ((s.clearPublished r).win v).fill = (s.win v).fill ∧
    ((s.clearPublished r).win v).miss = (s.win v).miss ∧ ((s.clearPublished r).win v).lost = (s.win v).lost ∧
    ((s.clearPublished r).win v).blocked = (s.win v).blocked ∧
    ((s.clearPublished r).win v).drops = (s.win v).drops ∧
    ((s.clearPublished r).win v).lastSwap = (s.win v).lastSwap ∧
    ((s.clearPublished r).win v).refusal = (s.win v).refusal ∧
    ((s.clearPublished r).win v).carry = (s.win v).carry ∧
    ((s.clearPublished r).win v).waitSet = (s.win v).waitSet ∧
    ((s.clearPublished r).win v).coalesced = (s.win v).coalesced := by
  rw [win_clearPublished]; split <;> simp

/-- Items that `leaveWait` keeps. -/
@[simp] theorem leaveWait_fields (s : State) (m : WaitMember) (v : Win) :
    ((s.leaveWait m).win v).slotA = (s.win v).slotA ∧ ((s.leaveWait m).win v).slotB = (s.win v).slotB ∧
    ((s.leaveWait m).win v).active = (s.win v).active ∧ ((s.leaveWait m).win v).state = (s.win v).state ∧
    ((s.leaveWait m).win v).valid = (s.win v).valid ∧ ((s.leaveWait m).win v).held = (s.win v).held ∧
    ((s.leaveWait m).win v).safe = (s.win v).safe ∧ ((s.leaveWait m).win v).swapPending = (s.win v).swapPending ∧
    ((s.leaveWait m).win v).fence = (s.win v).fence ∧
    ((s.leaveWait m).win v).switchPending = (s.win v).switchPending ∧
    ((s.leaveWait m).win v).role = (s.win v).role ∧ ((s.leaveWait m).win v).fill = (s.win v).fill ∧
    ((s.leaveWait m).win v).miss = (s.win v).miss ∧ ((s.leaveWait m).win v).lost = (s.win v).lost ∧
    ((s.leaveWait m).win v).blocked = (s.win v).blocked ∧ ((s.leaveWait m).win v).drops = (s.win v).drops ∧
    ((s.leaveWait m).win v).lastSwap = (s.win v).lastSwap ∧ ((s.leaveWait m).win v).events = (s.win v).events ∧
    ((s.leaveWait m).win v).published = (s.win v).published ∧ ((s.leaveWait m).win v).refusal = (s.win v).refusal ∧
    ((s.leaveWait m).win v).carry = (s.win v).carry ∧ ((s.leaveWait m).win v).coalesced = (s.win v).coalesced := by
  simp

/-- Items that `endP` keeps. -/
@[simp] theorem endP_fields (s : State) (v : Win) :
    ((s.endP).win v).slotA = (s.win v).slotA ∧ ((s.endP).win v).slotB = (s.win v).slotB ∧
    ((s.endP).win v).active = (s.win v).active ∧ ((s.endP).win v).state = (s.win v).state ∧
    ((s.endP).win v).valid = (s.win v).valid ∧ ((s.endP).win v).held = (s.win v).held ∧
    ((s.endP).win v).safe = (s.win v).safe ∧ ((s.endP).win v).swapPending = (s.win v).swapPending ∧
    ((s.endP).win v).fence = (s.win v).fence ∧ ((s.endP).win v).switchPending = (s.win v).switchPending ∧
    ((s.endP).win v).role = (s.win v).role ∧ ((s.endP).win v).fill = (s.win v).fill ∧
    ((s.endP).win v).miss = (s.win v).miss ∧ ((s.endP).win v).lost = (s.win v).lost ∧
    ((s.endP).win v).blocked = (s.win v).blocked ∧ ((s.endP).win v).drops = (s.win v).drops ∧
    ((s.endP).win v).lastSwap = (s.win v).lastSwap ∧ ((s.endP).win v).events = (s.win v).events ∧
    ((s.endP).win v).published = (s.win v).published ∧ ((s.endP).win v).refusal = (s.win v).refusal ∧
    ((s.endP).win v).carry = (s.win v).carry ∧ ((s.endP).win v).coalesced = (s.win v).coalesced := by
  simp

/-- Items that `endF` keeps. -/
@[simp] theorem endF_fields (s : State) (v : Win) :
    ((s.endF).win v).slotA = (s.win v).slotA ∧ ((s.endF).win v).slotB = (s.win v).slotB ∧
    ((s.endF).win v).active = (s.win v).active ∧ ((s.endF).win v).state = (s.win v).state ∧
    ((s.endF).win v).valid = (s.win v).valid ∧ ((s.endF).win v).held = (s.win v).held ∧
    ((s.endF).win v).safe = (s.win v).safe ∧ ((s.endF).win v).swapPending = (s.win v).swapPending ∧
    ((s.endF).win v).fence = (s.win v).fence ∧ ((s.endF).win v).switchPending = (s.win v).switchPending ∧
    ((s.endF).win v).role = (s.win v).role ∧ ((s.endF).win v).fill = (s.win v).fill ∧
    ((s.endF).win v).miss = (s.win v).miss ∧ ((s.endF).win v).lost = (s.win v).lost ∧
    ((s.endF).win v).blocked = (s.win v).blocked ∧ ((s.endF).win v).drops = (s.win v).drops ∧
    ((s.endF).win v).lastSwap = (s.win v).lastSwap ∧ ((s.endF).win v).events = (s.win v).events ∧
    ((s.endF).win v).published = (s.win v).published ∧ ((s.endF).win v).refusal = (s.win v).refusal ∧
    ((s.endF).win v).carry = (s.win v).carry ∧ ((s.endF).win v).coalesced = (s.win v).coalesced := by
  simp

/-- Items that `endJob` keeps. -/
@[simp] theorem endJob_fields (s : State) (d : Win) (v : Win) :
    ((s.endJob d).win v).slotA = (s.win v).slotA ∧ ((s.endJob d).win v).slotB = (s.win v).slotB ∧
    ((s.endJob d).win v).active = (s.win v).active ∧ ((s.endJob d).win v).state = (s.win v).state ∧
    ((s.endJob d).win v).valid = (s.win v).valid ∧ ((s.endJob d).win v).held = (s.win v).held ∧
    ((s.endJob d).win v).safe = (s.win v).safe ∧ ((s.endJob d).win v).swapPending = (s.win v).swapPending ∧
    ((s.endJob d).win v).fence = (s.win v).fence ∧ ((s.endJob d).win v).switchPending = (s.win v).switchPending ∧
    ((s.endJob d).win v).role = (s.win v).role ∧ ((s.endJob d).win v).fill = (s.win v).fill ∧
    ((s.endJob d).win v).miss = (s.win v).miss ∧ ((s.endJob d).win v).lost = (s.win v).lost ∧
    ((s.endJob d).win v).blocked = (s.win v).blocked ∧ ((s.endJob d).win v).drops = (s.win v).drops ∧
    ((s.endJob d).win v).lastSwap = (s.win v).lastSwap ∧ ((s.endJob d).win v).events = (s.win v).events ∧
    ((s.endJob d).win v).published = (s.win v).published ∧ ((s.endJob d).win v).refusal = (s.win v).refusal ∧
    ((s.endJob d).win v).carry = (s.win v).carry ∧ ((s.endJob d).win v).coalesced = (s.win v).coalesced := by
  rw [win_endJob]; split <;> simp

/-- Items that `enqueueLoop` keeps. -/
@[simp] theorem enqueueLoop_fields (s : State) (w : Win) (v : Win) :
    ((s.enqueueLoop w).win v).slotA = (s.win v).slotA ∧ ((s.enqueueLoop w).win v).slotB = (s.win v).slotB ∧
    ((s.enqueueLoop w).win v).active = (s.win v).active ∧ ((s.enqueueLoop w).win v).state = (s.win v).state ∧
    ((s.enqueueLoop w).win v).valid = (s.win v).valid ∧ ((s.enqueueLoop w).win v).held = (s.win v).held ∧
    ((s.enqueueLoop w).win v).safe = (s.win v).safe ∧
    ((s.enqueueLoop w).win v).swapPending = (s.win v).swapPending ∧
    ((s.enqueueLoop w).win v).fence = (s.win v).fence ∧
    ((s.enqueueLoop w).win v).switchPending = (s.win v).switchPending ∧
    ((s.enqueueLoop w).win v).role = (s.win v).role ∧ ((s.enqueueLoop w).win v).fill = (s.win v).fill ∧
    ((s.enqueueLoop w).win v).miss = (s.win v).miss ∧ ((s.enqueueLoop w).win v).lost = (s.win v).lost ∧
    ((s.enqueueLoop w).win v).blocked = (s.win v).blocked ∧ ((s.enqueueLoop w).win v).drops = (s.win v).drops ∧
    ((s.enqueueLoop w).win v).lastSwap = (s.win v).lastSwap ∧
    ((s.enqueueLoop w).win v).published = (s.win v).published ∧
    ((s.enqueueLoop w).win v).refusal = (s.win v).refusal ∧ ((s.enqueueLoop w).win v).carry = (s.win v).carry ∧
    ((s.enqueueLoop w).win v).waitSet = (s.win v).waitSet ∧
    ((s.enqueueLoop w).win v).coalesced = (s.win v).coalesced := by
  obtain ⟨e, he⟩ := win_enqueueLoop s w v
  simp [he]

/-- Items that `enqueueNotice` keeps. -/
@[simp] theorem enqueueNotice_fields (s : State) (n : Notice) (v : Win) :
    ((s.enqueueNotice n).win v).slotA = (s.win v).slotA ∧ ((s.enqueueNotice n).win v).slotB = (s.win v).slotB ∧
    ((s.enqueueNotice n).win v).active = (s.win v).active ∧ ((s.enqueueNotice n).win v).state = (s.win v).state ∧
    ((s.enqueueNotice n).win v).valid = (s.win v).valid ∧ ((s.enqueueNotice n).win v).held = (s.win v).held ∧
    ((s.enqueueNotice n).win v).safe = (s.win v).safe ∧
    ((s.enqueueNotice n).win v).swapPending = (s.win v).swapPending ∧
    ((s.enqueueNotice n).win v).switchPending = (s.win v).switchPending ∧
    ((s.enqueueNotice n).win v).role = (s.win v).role ∧ ((s.enqueueNotice n).win v).fill = (s.win v).fill ∧
    ((s.enqueueNotice n).win v).miss = (s.win v).miss ∧ ((s.enqueueNotice n).win v).lost = (s.win v).lost ∧
    ((s.enqueueNotice n).win v).blocked = (s.win v).blocked ∧ ((s.enqueueNotice n).win v).drops = (s.win v).drops ∧
    ((s.enqueueNotice n).win v).lastSwap = (s.win v).lastSwap ∧
    ((s.enqueueNotice n).win v).events = (s.win v).events ∧
    ((s.enqueueNotice n).win v).published = (s.win v).published ∧
    ((s.enqueueNotice n).win v).refusal = (s.win v).refusal ∧ ((s.enqueueNotice n).win v).carry = (s.win v).carry ∧
    ((s.enqueueNotice n).win v).waitSet = (s.win v).waitSet ∧
    ((s.enqueueNotice n).win v).coalesced = (s.win v).coalesced := by
  by_cases h : v = n.win <;> simp [h]

/-- Items that `noticeLeaves` keeps. -/
@[simp] theorem noticeLeaves_fields (s : State) (n : Notice) (v : Win) :
    ((s.noticeLeaves n).win v).slotA = (s.win v).slotA ∧ ((s.noticeLeaves n).win v).slotB = (s.win v).slotB ∧
    ((s.noticeLeaves n).win v).active = (s.win v).active ∧ ((s.noticeLeaves n).win v).state = (s.win v).state ∧
    ((s.noticeLeaves n).win v).valid = (s.win v).valid ∧ ((s.noticeLeaves n).win v).held = (s.win v).held ∧
    ((s.noticeLeaves n).win v).safe = (s.win v).safe ∧
    ((s.noticeLeaves n).win v).swapPending = (s.win v).swapPending ∧
    ((s.noticeLeaves n).win v).switchPending = (s.win v).switchPending ∧
    ((s.noticeLeaves n).win v).role = (s.win v).role ∧ ((s.noticeLeaves n).win v).fill = (s.win v).fill ∧
    ((s.noticeLeaves n).win v).miss = (s.win v).miss ∧ ((s.noticeLeaves n).win v).lost = (s.win v).lost ∧
    ((s.noticeLeaves n).win v).blocked = (s.win v).blocked ∧ ((s.noticeLeaves n).win v).drops = (s.win v).drops ∧
    ((s.noticeLeaves n).win v).lastSwap = (s.win v).lastSwap ∧
    ((s.noticeLeaves n).win v).events = (s.win v).events ∧
    ((s.noticeLeaves n).win v).published = (s.win v).published ∧
    ((s.noticeLeaves n).win v).refusal = (s.win v).refusal ∧ ((s.noticeLeaves n).win v).carry = (s.win v).carry ∧
    ((s.noticeLeaves n).win v).waitSet = (s.win v).waitSet ∧
    ((s.noticeLeaves n).win v).coalesced = (s.win v).coalesced := by
  by_cases h : v = n.win <;> simp [h]

/-- Items that `fillPlace` keeps. -/
@[simp] theorem fillPlace_fields (s : State) (w : Win) (d : Descriptor) (v : Win) :
    ((s.fillPlace w d).win v).slotA = (s.win v).slotA ∧ ((s.fillPlace w d).win v).slotB = (s.win v).slotB ∧
    ((s.fillPlace w d).win v).active = (s.win v).active ∧ ((s.fillPlace w d).win v).state = (s.win v).state ∧
    ((s.fillPlace w d).win v).valid = (s.win v).valid ∧ ((s.fillPlace w d).win v).held = (s.win v).held ∧
    ((s.fillPlace w d).win v).safe = (s.win v).safe ∧
    ((s.fillPlace w d).win v).swapPending = (s.win v).swapPending ∧
    ((s.fillPlace w d).win v).switchPending = (s.win v).switchPending ∧
    ((s.fillPlace w d).win v).role = (s.win v).role ∧ ((s.fillPlace w d).win v).fill = (s.win v).fill ∧
    ((s.fillPlace w d).win v).miss = (s.win v).miss ∧ ((s.fillPlace w d).win v).lost = (s.win v).lost ∧
    ((s.fillPlace w d).win v).blocked = (s.win v).blocked ∧ ((s.fillPlace w d).win v).drops = (s.win v).drops ∧
    ((s.fillPlace w d).win v).lastSwap = (s.win v).lastSwap ∧ ((s.fillPlace w d).win v).events = (s.win v).events ∧
    ((s.fillPlace w d).win v).published = (s.win v).published ∧
    ((s.fillPlace w d).win v).refusal = (s.win v).refusal ∧ ((s.fillPlace w d).win v).carry = (s.win v).carry ∧
    ((s.fillPlace w d).win v).waitSet = (s.win v).waitSet ∧
    ((s.fillPlace w d).win v).coalesced = (s.win v).coalesced := by
  rcases win_fillPlace s w d v with h | ⟨_, h⟩ <;> simp [h]

/-- Items that the record's part of a performance keeps (R16). -/
@[simp] theorem swapped_fields (x : Window) (d : Descriptor) (c : BitVec 32) :
    (x.swapped d c).slotA = x.slotA ∧ (x.swapped d c).slotB = x.slotB ∧ (x.swapped d c).active = x.active ∧ (x.swapped d c).held = x.held ∧ (x.swapped d c).fence = x.fence ∧ (x.swapped d c).switchPending = x.switchPending ∧ (x.swapped d c).lost = x.lost ∧ (x.swapped d c).blocked = x.blocked ∧ (x.swapped d c).drops = x.drops ∧ (x.swapped d c).events = x.events ∧ (x.swapped d c).published = x.published ∧ (x.swapped d c).refusal = x.refusal := by
  unfold Window.swapped; cases d.kind <;> simp

/-- What the record's part of a performance sets (R16). -/
@[simp] theorem swapped_sets (x : Window) (d : Descriptor) (c : BitVec 32) :
    (x.swapped d c).role = !x.role ∧ (x.swapped d c).lastSwap = c ∧ (x.swapped d c).valid = true ∧ (x.swapped d c).miss = 0 ∧
    (x.swapped d c).swapPending = false ∧ (x.swapped d c).waitSet = [] ∧ (x.swapped d c).coalesced = false := by
  unfold Window.swapped; cases d.kind <;> simp

/-- Items that the record's part of priming keeps (R11). -/
@[simp] theorem primed_fields (x : Window) (d : Descriptor) :
    (x.primed d).slotA = x.slotA ∧ (x.primed d).slotB = x.slotB ∧ (x.primed d).active = x.active ∧ (x.primed d).swapPending = x.swapPending ∧ (x.primed d).fence = x.fence ∧ (x.primed d).switchPending = x.switchPending ∧ (x.primed d).lost = x.lost ∧ (x.primed d).blocked = x.blocked ∧ (x.primed d).drops = x.drops ∧ (x.primed d).lastSwap = x.lastSwap ∧ (x.primed d).events = x.events ∧ (x.primed d).published = x.published ∧ (x.primed d).refusal = x.refusal ∧ (x.primed d).waitSet = x.waitSet ∧ (x.primed d).coalesced = x.coalesced := by
  simp [Window.primed]

/-- What the record's part of priming sets (R11). -/
@[simp] theorem primed_sets (x : Window) (d : Descriptor) :
    (x.primed d).role = false ∧ (x.primed d).valid = false ∧ (x.primed d).held = false ∧ (x.primed d).safe = false ∧
    (x.primed d).miss = 0 ∧ (x.primed d).carry = [] := by
  simp [Window.primed]

/-- Items that going IDLE by a switch keeps (R139). -/
@[simp] theorem idled_fields (x : Window) :
    x.idled.slotA = x.slotA ∧ x.idled.slotB = x.slotB ∧ x.idled.active = x.active ∧ x.idled.swapPending = x.swapPending ∧ x.idled.fence = x.fence ∧ x.idled.switchPending = x.switchPending ∧ x.idled.lost = x.lost ∧ x.idled.blocked = x.blocked ∧ x.idled.drops = x.drops ∧ x.idled.lastSwap = x.lastSwap ∧ x.idled.events = x.events ∧ x.idled.published = x.published ∧ x.idled.refusal = x.refusal ∧ x.idled.waitSet = x.waitSet ∧ x.idled.coalesced = x.coalesced := by
  simp [Window.idled]

/-- Items that a switch keeps in the record (R139). -/
@[simp] theorem switched_fields (x : Window) :
    x.switched.slotA = x.slotA ∧ x.switched.slotB = x.slotB ∧ x.switched.swapPending = x.swapPending ∧ x.switched.fence = x.fence ∧ x.switched.lost = x.lost ∧ x.switched.blocked = x.blocked ∧ x.switched.drops = x.drops ∧ x.switched.lastSwap = x.lastSwap ∧ x.switched.events = x.events ∧ x.switched.published = x.published ∧ x.switched.refusal = x.refusal ∧ x.switched.waitSet = x.waitSet ∧ x.switched.coalesced = x.coalesced := by
  unfold Window.switched
  split
  · simp [Window.flipped]
  · split <;> simp [Window.flipped]

/-- What a switch sets in the record (R139). -/
@[simp] theorem switched_sets (x : Window) :
    x.switched.active = x.active.other ∧ x.switched.switchPending = false ∧ x.switched.role = false ∧ x.switched.valid = false ∧
    x.switched.held = false ∧ x.switched.safe = false ∧ x.switched.miss = 0 ∧ x.switched.carry = [] := by
  unfold Window.switched
  split
  · simp [Window.flipped, Window.idled]
  · split <;> simp [Window.flipped, Window.idled]

/-- The other slot than the one filled is kept, and so is all else (R2). -/
@[simp] theorem setSlot_fields (x : Window) (n : SlotName) (d : Option Descriptor) :
    (x.setSlot n d).active = x.active ∧ (x.setSlot n d).state = x.state ∧ (x.setSlot n d).valid = x.valid ∧ (x.setSlot n d).held = x.held ∧ (x.setSlot n d).safe = x.safe ∧ (x.setSlot n d).swapPending = x.swapPending ∧ (x.setSlot n d).fence = x.fence ∧ (x.setSlot n d).switchPending = x.switchPending ∧ (x.setSlot n d).role = x.role ∧ (x.setSlot n d).fill = x.fill ∧ (x.setSlot n d).miss = x.miss ∧ (x.setSlot n d).lost = x.lost ∧ (x.setSlot n d).blocked = x.blocked ∧ (x.setSlot n d).drops = x.drops ∧ (x.setSlot n d).lastSwap = x.lastSwap ∧ (x.setSlot n d).events = x.events ∧ (x.setSlot n d).published = x.published ∧ (x.setSlot n d).refusal = x.refusal ∧ (x.setSlot n d).carry = x.carry ∧ (x.setSlot n d).waitSet = x.waitSet ∧ (x.setSlot n d).coalesced = x.coalesced := by
  cases n <;> simp [Window.setSlot]

/-- The slot filled, and the other. -/
@[simp] theorem slot_setSlot (x : Window) (n m : SlotName) (d : Option Descriptor) :
    (x.setSlot n d).slot m = if m = n then d else x.slot m := by
  cases n <;> cases m <;> simp [Window.setSlot, Window.slot]

/-- The other slot is another slot. -/
@[simp] theorem other_ne (n : SlotName) : (n.other = n) = False := by cases n <;> simp [SlotName.other]

/-- The other slot is another slot. -/
@[simp] theorem ne_other (n : SlotName) : (n = n.other) = False := by cases n <;> simp [SlotName.other]

/-- Items that `performSwap` keeps. -/
@[simp] theorem performSwap_fields (s : State) (w : Win) (v : Win) :
    ((s.performSwap w).win v).slotA = (s.win v).slotA ∧ ((s.performSwap w).win v).slotB = (s.win v).slotB ∧
    ((s.performSwap w).win v).active = (s.win v).active ∧ ((s.performSwap w).win v).held = (s.win v).held ∧
    ((s.performSwap w).win v).switchPending = (s.win v).switchPending ∧
    ((s.performSwap w).win v).lost = (s.win v).lost ∧ ((s.performSwap w).win v).blocked = (s.win v).blocked ∧
    ((s.performSwap w).win v).drops = (s.win v).drops ∧ ((s.performSwap w).win v).events = (s.win v).events ∧
    ((s.performSwap w).win v).published = (s.win v).published ∧
    ((s.performSwap w).win v).refusal = (s.win v).refusal := by
  unfold State.performSwap
  split
  · simp
  · split <;> by_cases h : v = w <;> simp [h]

/-- Items that `decideSwap` keeps. -/
@[simp] theorem decideSwap_fields (s : State) (w : Win) (d : Descriptor) (a : PlaceAnswer) (v : Win) :
    ((s.decideSwap w d a).win v).slotA = (s.win v).slotA ∧ ((s.decideSwap w d a).win v).slotB = (s.win v).slotB ∧
    ((s.decideSwap w d a).win v).active = (s.win v).active ∧ ((s.decideSwap w d a).win v).held = (s.win v).held ∧
    ((s.decideSwap w d a).win v).switchPending = (s.win v).switchPending ∧
    ((s.decideSwap w d a).win v).lost = (s.win v).lost ∧ ((s.decideSwap w d a).win v).blocked = (s.win v).blocked ∧
    ((s.decideSwap w d a).win v).drops = (s.win v).drops ∧ ((s.decideSwap w d a).win v).events = (s.win v).events ∧
    ((s.decideSwap w d a).win v).published = (s.win v).published ∧
    ((s.decideSwap w d a).win v).refusal = (s.win v).refusal := by
  unfold State.decideSwap
  simp only
  split <;> split <;> split <;> by_cases h : v = w <;> simp [h]

/-- Items that `abandonSwap` keeps. -/
@[simp] theorem abandonSwap_fields (s : State) (w : Win) (v : Win) :
    ((s.abandonSwap w).win v).slotA = (s.win v).slotA ∧ ((s.abandonSwap w).win v).slotB = (s.win v).slotB ∧
    ((s.abandonSwap w).win v).active = (s.win v).active ∧ ((s.abandonSwap w).win v).state = (s.win v).state ∧
    ((s.abandonSwap w).win v).valid = (s.win v).valid ∧ ((s.abandonSwap w).win v).held = (s.win v).held ∧
    ((s.abandonSwap w).win v).safe = (s.win v).safe ∧ ((s.abandonSwap w).win v).fence = (s.win v).fence ∧
    ((s.abandonSwap w).win v).switchPending = (s.win v).switchPending ∧
    ((s.abandonSwap w).win v).role = (s.win v).role ∧ ((s.abandonSwap w).win v).fill = (s.win v).fill ∧
    ((s.abandonSwap w).win v).miss = (s.win v).miss ∧ ((s.abandonSwap w).win v).lost = (s.win v).lost ∧
    ((s.abandonSwap w).win v).blocked = (s.win v).blocked ∧ ((s.abandonSwap w).win v).drops = (s.win v).drops ∧
    ((s.abandonSwap w).win v).lastSwap = (s.win v).lastSwap ∧ ((s.abandonSwap w).win v).events = (s.win v).events ∧
    ((s.abandonSwap w).win v).published = (s.win v).published ∧
    ((s.abandonSwap w).win v).refusal = (s.win v).refusal ∧ ((s.abandonSwap w).win v).carry = (s.win v).carry := by
  unfold State.abandonSwap; split <;> by_cases h : v = w <;> simp [h]

/-- Items that `faultOutput` keeps. -/
@[simp] theorem faultOutput_fields (s : State) (w : Win) (v : Win) :
    ((s.faultOutput w).win v).slotA = (s.win v).slotA ∧ ((s.faultOutput w).win v).slotB = (s.win v).slotB ∧
    ((s.faultOutput w).win v).active = (s.win v).active ∧ ((s.faultOutput w).win v).valid = (s.win v).valid ∧
    ((s.faultOutput w).win v).held = (s.win v).held ∧ ((s.faultOutput w).win v).safe = (s.win v).safe ∧
    ((s.faultOutput w).win v).fence = (s.win v).fence ∧
    ((s.faultOutput w).win v).switchPending = (s.win v).switchPending ∧
    ((s.faultOutput w).win v).role = (s.win v).role ∧ ((s.faultOutput w).win v).fill = (s.win v).fill ∧
    ((s.faultOutput w).win v).miss = (s.win v).miss ∧ ((s.faultOutput w).win v).lost = (s.win v).lost ∧
    ((s.faultOutput w).win v).blocked = (s.win v).blocked ∧ ((s.faultOutput w).win v).drops = (s.win v).drops ∧
    ((s.faultOutput w).win v).lastSwap = (s.win v).lastSwap ∧ ((s.faultOutput w).win v).events = (s.win v).events ∧
    ((s.faultOutput w).win v).published = (s.win v).published ∧
    ((s.faultOutput w).win v).refusal = (s.win v).refusal := by
  unfold State.faultOutput; split <;> by_cases h : v = w <;> simp [-win_endJob, -win_event, -win_drop, -win_dropEvent, -win_enqueueNotice, h]

/-- Items that `faultInput` keeps. -/
@[simp] theorem faultInput_fields (s : State) (w : Win) (v : Win) :
    ((s.faultInput w).win v).slotA = (s.win v).slotA ∧ ((s.faultInput w).win v).slotB = (s.win v).slotB ∧
    ((s.faultInput w).win v).active = (s.win v).active ∧ ((s.faultInput w).win v).valid = (s.win v).valid ∧
    ((s.faultInput w).win v).held = (s.win v).held ∧ ((s.faultInput w).win v).safe = (s.win v).safe ∧
    ((s.faultInput w).win v).swapPending = (s.win v).swapPending ∧
    ((s.faultInput w).win v).fence = (s.win v).fence ∧
    ((s.faultInput w).win v).switchPending = (s.win v).switchPending ∧
    ((s.faultInput w).win v).role = (s.win v).role ∧ ((s.faultInput w).win v).fill = (s.win v).fill ∧
    ((s.faultInput w).win v).miss = (s.win v).miss ∧ ((s.faultInput w).win v).lost = (s.win v).lost ∧
    ((s.faultInput w).win v).blocked = (s.win v).blocked ∧ ((s.faultInput w).win v).drops = (s.win v).drops ∧
    ((s.faultInput w).win v).lastSwap = (s.win v).lastSwap ∧ ((s.faultInput w).win v).events = (s.win v).events ∧
    ((s.faultInput w).win v).published = (s.win v).published ∧
    ((s.faultInput w).win v).refusal = (s.win v).refusal ∧ ((s.faultInput w).win v).carry = (s.win v).carry ∧
    ((s.faultInput w).win v).coalesced = (s.win v).coalesced := by
  unfold State.faultInput; by_cases h : v = w <;> simp [-win_endJob, -win_event, -win_drop, -win_dropEvent, -win_enqueueNotice, h]

/-- Items that `prime` keeps. -/
@[simp] theorem prime_fields (s : State) (w : Win) (d : Descriptor) (v : Win) :
    ((s.prime w d).win v).slotA = (s.win v).slotA ∧ ((s.prime w d).win v).slotB = (s.win v).slotB ∧
    ((s.prime w d).win v).active = (s.win v).active ∧ ((s.prime w d).win v).swapPending = (s.win v).swapPending ∧
    ((s.prime w d).win v).fence = (s.win v).fence ∧ ((s.prime w d).win v).switchPending = (s.win v).switchPending ∧
    ((s.prime w d).win v).lost = (s.win v).lost ∧ ((s.prime w d).win v).blocked = (s.win v).blocked ∧
    ((s.prime w d).win v).drops = (s.win v).drops ∧ ((s.prime w d).win v).lastSwap = (s.win v).lastSwap ∧
    ((s.prime w d).win v).events = (s.win v).events ∧ ((s.prime w d).win v).published = (s.win v).published ∧
    ((s.prime w d).win v).refusal = (s.win v).refusal ∧ ((s.prime w d).win v).coalesced = (s.win v).coalesced := by
  unfold State.prime; by_cases h : v = w <;> simp [-win_endJob, -win_event, -win_drop, -win_dropEvent, -win_enqueueNotice, h]

/-- Items that a counted write keeps (R40). -/
@[simp] theorem counted_fields (x : Window) :
    x.counted.slotA = x.slotA ∧ x.counted.slotB = x.slotB ∧ x.counted.active = x.active ∧ x.counted.valid = x.valid ∧ x.counted.held = x.held ∧ x.counted.safe = x.safe ∧ x.counted.swapPending = x.swapPending ∧ x.counted.fence = x.fence ∧ x.counted.switchPending = x.switchPending ∧ x.counted.role = x.role ∧ x.counted.miss = x.miss ∧ x.counted.lost = x.lost ∧ x.counted.blocked = x.blocked ∧ x.counted.drops = x.drops ∧ x.counted.lastSwap = x.lastSwap ∧ x.counted.events = x.events ∧ x.counted.published = x.published ∧ x.counted.refusal = x.refusal ∧ x.counted.carry = x.carry ∧ x.counted.waitSet = x.waitSet ∧ x.counted.coalesced = x.coalesced := by
  unfold Window.counted; split <;> simp [-win_endJob, -win_event, -win_drop, -win_dropEvent, -win_enqueueNotice]

/-- Items that `pWriteInput` keeps. -/
@[simp] theorem pWriteInput_fields (s : State) (w : Win) (d : Descriptor) (x : PWrite) (v : Win) :
    ((s.pWriteInput w d x).win v).slotA = (s.win v).slotA ∧ ((s.pWriteInput w d x).win v).slotB = (s.win v).slotB ∧
    ((s.pWriteInput w d x).win v).active = (s.win v).active ∧
    ((s.pWriteInput w d x).win v).state = (s.win v).state ∧ ((s.pWriteInput w d x).win v).valid = (s.win v).valid ∧
    ((s.pWriteInput w d x).win v).held = (s.win v).held ∧ ((s.pWriteInput w d x).win v).safe = (s.win v).safe ∧
    ((s.pWriteInput w d x).win v).swapPending = (s.win v).swapPending ∧
    ((s.pWriteInput w d x).win v).fence = (s.win v).fence ∧
    ((s.pWriteInput w d x).win v).switchPending = (s.win v).switchPending ∧
    ((s.pWriteInput w d x).win v).role = (s.win v).role ∧ ((s.pWriteInput w d x).win v).fill = (s.win v).fill ∧
    ((s.pWriteInput w d x).win v).miss = (s.win v).miss ∧ ((s.pWriteInput w d x).win v).lost = (s.win v).lost ∧
    ((s.pWriteInput w d x).win v).blocked = (s.win v).blocked ∧
    ((s.pWriteInput w d x).win v).lastSwap = (s.win v).lastSwap ∧
    ((s.pWriteInput w d x).win v).published = (s.win v).published ∧
    ((s.pWriteInput w d x).win v).refusal = (s.win v).refusal ∧
    ((s.pWriteInput w d x).win v).carry = (s.win v).carry ∧
    ((s.pWriteInput w d x).win v).waitSet = (s.win v).waitSet ∧
    ((s.pWriteInput w d x).win v).coalesced = (s.win v).coalesced := by
  unfold State.pWriteInput
  simp only
  split
  · split <;> simp [-win_endJob, -win_event, -win_drop, -win_dropEvent, -win_enqueueNotice, win_congr (issueAs_windows ..)]
  · simp [-win_endJob, -win_event, -win_drop, -win_dropEvent, -win_enqueueNotice]

/-- Items that `pWriteOutput` keeps. -/
@[simp] theorem pWriteOutput_fields (s : State) (w : Win) (d : Descriptor) (x : PWrite) (v : Win) :
    ((s.pWriteOutput w d x).win v).slotA = (s.win v).slotA ∧
    ((s.pWriteOutput w d x).win v).slotB = (s.win v).slotB ∧
    ((s.pWriteOutput w d x).win v).active = (s.win v).active ∧
    ((s.pWriteOutput w d x).win v).state = (s.win v).state ∧
    ((s.pWriteOutput w d x).win v).valid = (s.win v).valid ∧ ((s.pWriteOutput w d x).win v).held = (s.win v).held ∧
    ((s.pWriteOutput w d x).win v).safe = (s.win v).safe ∧
    ((s.pWriteOutput w d x).win v).swapPending = (s.win v).swapPending ∧
    ((s.pWriteOutput w d x).win v).fence = (s.win v).fence ∧
    ((s.pWriteOutput w d x).win v).switchPending = (s.win v).switchPending ∧
    ((s.pWriteOutput w d x).win v).role = (s.win v).role ∧ ((s.pWriteOutput w d x).win v).fill = (s.win v).fill ∧
    ((s.pWriteOutput w d x).win v).miss = (s.win v).miss ∧ ((s.pWriteOutput w d x).win v).lost = (s.win v).lost ∧
    ((s.pWriteOutput w d x).win v).blocked = (s.win v).blocked ∧
    ((s.pWriteOutput w d x).win v).lastSwap = (s.win v).lastSwap ∧
    ((s.pWriteOutput w d x).win v).published = (s.win v).published ∧
    ((s.pWriteOutput w d x).win v).refusal = (s.win v).refusal ∧
    ((s.pWriteOutput w d x).win v).carry = (s.win v).carry ∧
    ((s.pWriteOutput w d x).win v).waitSet = (s.win v).waitSet ∧
    ((s.pWriteOutput w d x).win v).coalesced = (s.win v).coalesced := by
  unfold State.pWriteOutput
  simp only
  split
  · simp [-win_endJob, -win_event, -win_drop, -win_dropEvent, -win_enqueueNotice]
  · split <;> split <;> simp [-win_endJob, -win_event, -win_drop, -win_dropEvent, -win_enqueueNotice, win_congr (issueAs_windows ..)]

/-- Items that `pWriteWindow` keeps. -/
@[simp] theorem pWriteWindow_fields (s : State) (w : Win) (x : PWrite) (v : Win) :
    ((s.pWriteWindow w x).win v).slotA = (s.win v).slotA ∧ ((s.pWriteWindow w x).win v).slotB = (s.win v).slotB ∧
    ((s.pWriteWindow w x).win v).active = (s.win v).active ∧ ((s.pWriteWindow w x).win v).state = (s.win v).state ∧
    ((s.pWriteWindow w x).win v).valid = (s.win v).valid ∧ ((s.pWriteWindow w x).win v).held = (s.win v).held ∧
    ((s.pWriteWindow w x).win v).safe = (s.win v).safe ∧
    ((s.pWriteWindow w x).win v).swapPending = (s.win v).swapPending ∧
    ((s.pWriteWindow w x).win v).fence = (s.win v).fence ∧
    ((s.pWriteWindow w x).win v).switchPending = (s.win v).switchPending ∧
    ((s.pWriteWindow w x).win v).role = (s.win v).role ∧ ((s.pWriteWindow w x).win v).fill = (s.win v).fill ∧
    ((s.pWriteWindow w x).win v).miss = (s.win v).miss ∧ ((s.pWriteWindow w x).win v).lost = (s.win v).lost ∧
    ((s.pWriteWindow w x).win v).blocked = (s.win v).blocked ∧
    ((s.pWriteWindow w x).win v).lastSwap = (s.win v).lastSwap ∧
    ((s.pWriteWindow w x).win v).published = (s.win v).published ∧
    ((s.pWriteWindow w x).win v).refusal = (s.win v).refusal ∧
    ((s.pWriteWindow w x).win v).carry = (s.win v).carry ∧
    ((s.pWriteWindow w x).win v).waitSet = (s.win v).waitSet ∧
    ((s.pWriteWindow w x).win v).coalesced = (s.win v).coalesced := by
  unfold State.pWriteWindow
  split
  · simp [-win_endJob, -win_event, -win_drop, -win_dropEvent, -win_enqueueNotice]
  · split <;> simp [-win_endJob, -win_event, -win_drop, -win_dropEvent, -win_enqueueNotice]

/-- Items that `fInput` keeps. -/
@[simp] theorem fInput_fields (s : State) (w : Win) (d : Descriptor) (a : Access) (v : Win) :
    ((s.fInput w d a).win v).slotA = (s.win v).slotA ∧ ((s.fInput w d a).win v).slotB = (s.win v).slotB ∧
    ((s.fInput w d a).win v).active = (s.win v).active ∧ ((s.fInput w d a).win v).valid = (s.win v).valid ∧
    ((s.fInput w d a).win v).held = (s.win v).held ∧ ((s.fInput w d a).win v).safe = (s.win v).safe ∧
    ((s.fInput w d a).win v).swapPending = (s.win v).swapPending ∧
    ((s.fInput w d a).win v).fence = (s.win v).fence ∧
    ((s.fInput w d a).win v).switchPending = (s.win v).switchPending ∧
    ((s.fInput w d a).win v).role = (s.win v).role ∧ ((s.fInput w d a).win v).miss = (s.win v).miss ∧
    ((s.fInput w d a).win v).lost = (s.win v).lost ∧ ((s.fInput w d a).win v).blocked = (s.win v).blocked ∧
    ((s.fInput w d a).win v).lastSwap = (s.win v).lastSwap ∧
    ((s.fInput w d a).win v).published = (s.win v).published ∧
    ((s.fInput w d a).win v).refusal = (s.win v).refusal ∧ ((s.fInput w d a).win v).carry = (s.win v).carry ∧
    ((s.fInput w d a).win v).waitSet = (s.win v).waitSet ∧
    ((s.fInput w d a).win v).coalesced = (s.win v).coalesced := by
  have ha : ∀ (t : State) x, (t.answerF x).win v = t.win v := fun _ _ => rfl
  have hf : ∀ (t : State) o b a g, (t.flyF o b a g).win v = t.win v := fun _ _ _ _ _ => rfl
  unfold State.fInput
  simp only
  split
  · simp [-win_endJob, -win_event, -win_drop, -win_dropEvent, -win_enqueueNotice, hf]
  · split
    · simp [-win_endJob, -win_event, -win_drop, -win_dropEvent, -win_enqueueNotice, ha]
    · split
      · simp [-win_endJob, -win_event, -win_drop, -win_dropEvent, -win_enqueueNotice]
      · split
        · rcases eq_or_ne v w with rfl | h
          · simp [-win_endJob, -win_event, -win_drop, -win_dropEvent, -win_enqueueNotice]
          · simp [-win_endJob, -win_event, -win_drop, -win_dropEvent, -win_enqueueNotice, h]
        · simp [-win_endJob, -win_event, -win_drop, -win_dropEvent, -win_enqueueNotice, ha]
        · simp [-win_endJob, -win_event, -win_drop, -win_dropEvent, -win_enqueueNotice, ha]
        · simp [-win_endJob, -win_event, -win_drop, -win_dropEvent, -win_enqueueNotice, ha]

/-- Items that `fOutput` keeps. -/
@[simp] theorem fOutput_fields (s : State) (w : Win) (d : Descriptor) (a : Access) (v : Win) :
    ((s.fOutput w d a).win v).slotA = (s.win v).slotA ∧ ((s.fOutput w d a).win v).slotB = (s.win v).slotB ∧
    ((s.fOutput w d a).win v).active = (s.win v).active ∧ ((s.fOutput w d a).win v).state = (s.win v).state ∧
    ((s.fOutput w d a).win v).valid = (s.win v).valid ∧ ((s.fOutput w d a).win v).held = (s.win v).held ∧
    ((s.fOutput w d a).win v).safe = (s.win v).safe ∧
    ((s.fOutput w d a).win v).swapPending = (s.win v).swapPending ∧
    ((s.fOutput w d a).win v).fence = (s.win v).fence ∧
    ((s.fOutput w d a).win v).switchPending = (s.win v).switchPending ∧
    ((s.fOutput w d a).win v).role = (s.win v).role ∧ ((s.fOutput w d a).win v).fill = (s.win v).fill ∧
    ((s.fOutput w d a).win v).miss = (s.win v).miss ∧ ((s.fOutput w d a).win v).lost = (s.win v).lost ∧
    ((s.fOutput w d a).win v).blocked = (s.win v).blocked ∧
    ((s.fOutput w d a).win v).lastSwap = (s.win v).lastSwap ∧
    ((s.fOutput w d a).win v).published = (s.win v).published ∧
    ((s.fOutput w d a).win v).refusal = (s.win v).refusal ∧ ((s.fOutput w d a).win v).carry = (s.win v).carry ∧
    ((s.fOutput w d a).win v).waitSet = (s.win v).waitSet ∧
    ((s.fOutput w d a).win v).coalesced = (s.win v).coalesced := by
  have ha : ∀ (t : State) x, (t.answerF x).win v = t.win v := fun _ _ => rfl
  have hf : ∀ (t : State) o b a g, (t.flyF o b a g).win v = t.win v := fun _ _ _ _ _ => rfl
  unfold State.fOutput
  simp only
  split
  · split <;> simp [-win_endJob, -win_event, -win_drop, -win_dropEvent, -win_enqueueNotice, ha, hf]
  · split <;> simp [-win_endJob, -win_event, -win_drop, -win_dropEvent, -win_enqueueNotice, ha]

/-- Items that `fWindow` keeps. -/
@[simp] theorem fWindow_fields (s : State) (w : Win) (a : Access) (v : Win) :
    ((s.fWindow w a).win v).slotA = (s.win v).slotA ∧ ((s.fWindow w a).win v).slotB = (s.win v).slotB ∧
    ((s.fWindow w a).win v).active = (s.win v).active ∧ ((s.fWindow w a).win v).valid = (s.win v).valid ∧
    ((s.fWindow w a).win v).held = (s.win v).held ∧ ((s.fWindow w a).win v).safe = (s.win v).safe ∧
    ((s.fWindow w a).win v).swapPending = (s.win v).swapPending ∧ ((s.fWindow w a).win v).fence = (s.win v).fence ∧
    ((s.fWindow w a).win v).switchPending = (s.win v).switchPending ∧
    ((s.fWindow w a).win v).role = (s.win v).role ∧ ((s.fWindow w a).win v).miss = (s.win v).miss ∧
    ((s.fWindow w a).win v).lost = (s.win v).lost ∧ ((s.fWindow w a).win v).blocked = (s.win v).blocked ∧
    ((s.fWindow w a).win v).lastSwap = (s.win v).lastSwap ∧
    ((s.fWindow w a).win v).published = (s.win v).published ∧ ((s.fWindow w a).win v).refusal = (s.win v).refusal ∧
    ((s.fWindow w a).win v).carry = (s.win v).carry ∧ ((s.fWindow w a).win v).waitSet = (s.win v).waitSet ∧
    ((s.fWindow w a).win v).coalesced = (s.win v).coalesced := by
  unfold State.fWindow
  split
  · simp [-win_endJob, -win_event, -win_drop, -win_dropEvent, -win_enqueueNotice]
  · split <;> simp [-win_endJob, -win_event, -win_drop, -win_dropEvent, -win_enqueueNotice]

/-- Items that `issueF` keeps. -/
@[simp] theorem issueF_fields (s : State) (a : Access) (v : Win) :
    ((s.issueF a).win v).slotA = (s.win v).slotA ∧ ((s.issueF a).win v).slotB = (s.win v).slotB ∧
    ((s.issueF a).win v).active = (s.win v).active ∧ ((s.issueF a).win v).valid = (s.win v).valid ∧
    ((s.issueF a).win v).held = (s.win v).held ∧ ((s.issueF a).win v).safe = (s.win v).safe ∧
    ((s.issueF a).win v).swapPending = (s.win v).swapPending ∧ ((s.issueF a).win v).fence = (s.win v).fence ∧
    ((s.issueF a).win v).switchPending = (s.win v).switchPending ∧ ((s.issueF a).win v).role = (s.win v).role ∧
    ((s.issueF a).win v).miss = (s.win v).miss ∧ ((s.issueF a).win v).lost = (s.win v).lost ∧
    ((s.issueF a).win v).blocked = (s.win v).blocked ∧ ((s.issueF a).win v).lastSwap = (s.win v).lastSwap ∧
    ((s.issueF a).win v).published = (s.win v).published ∧ ((s.issueF a).win v).refusal = (s.win v).refusal ∧
    ((s.issueF a).win v).carry = (s.win v).carry ∧ ((s.issueF a).win v).waitSet = (s.win v).waitSet ∧
    ((s.issueF a).win v).coalesced = (s.win v).coalesced := by
  have ha : ∀ (t : State) x, (t.answerF x).win v = t.win v := fun _ _ => rfl
  have hf : ∀ (t : State) o b a g, (t.flyF o b a g).win v = t.win v := fun _ _ _ _ _ => rfl
  unfold State.issueF
  split
  · simp [-win_endJob, -win_event, -win_drop, -win_dropEvent, -win_enqueueNotice, ha]
  · simp [-win_endJob, -win_event, -win_drop, -win_dropEvent, -win_enqueueNotice]
  · split <;> simp [-win_endJob, -win_event, -win_drop, -win_dropEvent, -win_enqueueNotice, ha, hf]
  · simp [-win_endJob, -win_event, -win_drop, -win_dropEvent, -win_enqueueNotice, hf]

/-- Items that `reachF` keeps. -/
@[simp] theorem reachF_fields (s : State) (a : Access) (v : Win) :
    ((s.reachF a).win v).slotA = (s.win v).slotA ∧ ((s.reachF a).win v).slotB = (s.win v).slotB ∧
    ((s.reachF a).win v).active = (s.win v).active ∧ ((s.reachF a).win v).valid = (s.win v).valid ∧
    ((s.reachF a).win v).held = (s.win v).held ∧ ((s.reachF a).win v).safe = (s.win v).safe ∧
    ((s.reachF a).win v).swapPending = (s.win v).swapPending ∧ ((s.reachF a).win v).fence = (s.win v).fence ∧
    ((s.reachF a).win v).switchPending = (s.win v).switchPending ∧ ((s.reachF a).win v).role = (s.win v).role ∧
    ((s.reachF a).win v).miss = (s.win v).miss ∧ ((s.reachF a).win v).lost = (s.win v).lost ∧
    ((s.reachF a).win v).blocked = (s.win v).blocked ∧ ((s.reachF a).win v).lastSwap = (s.win v).lastSwap ∧
    ((s.reachF a).win v).published = (s.win v).published ∧ ((s.reachF a).win v).refusal = (s.win v).refusal ∧
    ((s.reachF a).win v).carry = (s.win v).carry ∧ ((s.reachF a).win v).waitSet = (s.win v).waitSet ∧
    ((s.reachF a).win v).coalesced = (s.win v).coalesced := by
  unfold State.reachF
  split
  · exact ⟨rfl, rfl, rfl, rfl, rfl, rfl, rfl, rfl, rfl, rfl, rfl, rfl, rfl, rfl, rfl, rfl, rfl, rfl, rfl⟩
  · simp only [issueF_fields]; exact ⟨rfl, rfl, rfl, rfl, rfl, rfl, rfl, rfl, rfl, rfl, rfl, rfl, rfl, rfl, rfl, rfl, rfl, rfl, rfl⟩

/-- Items that `retryF` keeps. -/
@[simp] theorem retryF_fields (s t : State) (v : Win) :
    ((retryF s t).win v).slotA = (t.win v).slotA ∧ ((retryF s t).win v).slotB = (t.win v).slotB ∧
    ((retryF s t).win v).active = (t.win v).active ∧ ((retryF s t).win v).valid = (t.win v).valid ∧
    ((retryF s t).win v).held = (t.win v).held ∧ ((retryF s t).win v).safe = (t.win v).safe ∧
    ((retryF s t).win v).swapPending = (t.win v).swapPending ∧ ((retryF s t).win v).fence = (t.win v).fence ∧
    ((retryF s t).win v).switchPending = (t.win v).switchPending ∧ ((retryF s t).win v).role = (t.win v).role ∧
    ((retryF s t).win v).miss = (t.win v).miss ∧ ((retryF s t).win v).lost = (t.win v).lost ∧
    ((retryF s t).win v).blocked = (t.win v).blocked ∧ ((retryF s t).win v).lastSwap = (t.win v).lastSwap ∧
    ((retryF s t).win v).published = (t.win v).published ∧ ((retryF s t).win v).refusal = (t.win v).refusal ∧
    ((retryF s t).win v).carry = (t.win v).carry ∧ ((retryF s t).win v).waitSet = (t.win v).waitSet ∧
    ((retryF s t).win v).coalesced = (t.win v).coalesced := by
  unfold retryF
  split
  · split <;> simp [-win_endJob, -win_event, -win_drop, -win_dropEvent, -win_enqueueNotice]
  · simp [-win_endJob, -win_event, -win_drop, -win_dropEvent, -win_enqueueNotice]

/-- Items that `startFetch` keeps. -/
@[simp] theorem startFetch_fields (s : State) (v : Win) :
    ((s.startFetch).win v).active = (s.win v).active ∧ ((s.startFetch).win v).state = (s.win v).state ∧
    ((s.startFetch).win v).valid = (s.win v).valid ∧ ((s.startFetch).win v).held = (s.win v).held ∧
    ((s.startFetch).win v).safe = (s.win v).safe ∧ ((s.startFetch).win v).swapPending = (s.win v).swapPending ∧
    ((s.startFetch).win v).fence = (s.win v).fence ∧
    ((s.startFetch).win v).switchPending = (s.win v).switchPending ∧ ((s.startFetch).win v).role = (s.win v).role ∧
    ((s.startFetch).win v).fill = (s.win v).fill ∧ ((s.startFetch).win v).miss = (s.win v).miss ∧
    ((s.startFetch).win v).lost = (s.win v).lost ∧ ((s.startFetch).win v).blocked = (s.win v).blocked ∧
    ((s.startFetch).win v).drops = (s.win v).drops ∧ ((s.startFetch).win v).lastSwap = (s.win v).lastSwap ∧
    ((s.startFetch).win v).events = (s.win v).events ∧ ((s.startFetch).win v).published = (s.win v).published ∧
    ((s.startFetch).win v).refusal = (s.win v).refusal ∧ ((s.startFetch).win v).carry = (s.win v).carry ∧
    ((s.startFetch).win v).waitSet = (s.win v).waitSet ∧
    ((s.startFetch).win v).coalesced = (s.win v).coalesced := by
  unfold State.startFetch
  split
  · rename_i w _ _ _
    simp only [win_modWin]
    split
    · rename_i h; subst h
      simp only [setSlot_fields]; exact ⟨rfl, rfl, rfl, rfl, rfl, rfl, rfl, rfl, rfl, rfl, rfl, rfl, rfl, rfl, rfl, rfl, rfl, rfl, rfl, rfl, rfl⟩
    · exact ⟨rfl, rfl, rfl, rfl, rfl, rfl, rfl, rfl, rfl, rfl, rfl, rfl, rfl, rfl, rfl, rfl, rfl, rfl, rfl, rfl, rfl⟩
  · simp [-win_endJob, -win_event, -win_drop, -win_dropEvent, -win_enqueueNotice]

/-- Items that `refuse` keeps. -/
@[simp] theorem refuse_fields (s : State) (w : Win) (r : Reason) (v : Win) :
    ((s.refuse w r).win v).slotA = (s.win v).slotA ∧ ((s.refuse w r).win v).slotB = (s.win v).slotB ∧
    ((s.refuse w r).win v).active = (s.win v).active ∧ ((s.refuse w r).win v).state = (s.win v).state ∧
    ((s.refuse w r).win v).valid = (s.win v).valid ∧ ((s.refuse w r).win v).held = (s.win v).held ∧
    ((s.refuse w r).win v).safe = (s.win v).safe ∧ ((s.refuse w r).win v).swapPending = (s.win v).swapPending ∧
    ((s.refuse w r).win v).fence = (s.win v).fence ∧
    ((s.refuse w r).win v).switchPending = (s.win v).switchPending ∧ ((s.refuse w r).win v).role = (s.win v).role ∧
    ((s.refuse w r).win v).fill = (s.win v).fill ∧ ((s.refuse w r).win v).miss = (s.win v).miss ∧
    ((s.refuse w r).win v).lost = (s.win v).lost ∧ ((s.refuse w r).win v).blocked = (s.win v).blocked ∧
    ((s.refuse w r).win v).drops = (s.win v).drops ∧ ((s.refuse w r).win v).lastSwap = (s.win v).lastSwap ∧
    ((s.refuse w r).win v).events = (s.win v).events ∧ ((s.refuse w r).win v).published = (s.win v).published ∧
    ((s.refuse w r).win v).carry = (s.win v).carry ∧ ((s.refuse w r).win v).waitSet = (s.win v).waitSet ∧
    ((s.refuse w r).win v).coalesced = (s.win v).coalesced := by
  by_cases h : v = w <;> simp [-win_endJob, -win_event, -win_drop, -win_dropEvent, -win_enqueueNotice, h]

/-! ## Pulses -/

/-- Items that a miss keeps in the record (R49). -/
@[simp] theorem missed_fields (x : Window) (d : Descriptor) :
    (x.missed d).slotA = x.slotA ∧ (x.missed d).slotB = x.slotB ∧ (x.missed d).active = x.active ∧ (x.missed d).valid = x.valid ∧ (x.missed d).held = x.held ∧ (x.missed d).safe = x.safe ∧ (x.missed d).swapPending = x.swapPending ∧ (x.missed d).fence = x.fence ∧ (x.missed d).switchPending = x.switchPending ∧ (x.missed d).role = x.role ∧ (x.missed d).fill = x.fill ∧ (x.missed d).blocked = x.blocked ∧ (x.missed d).drops = x.drops ∧ (x.missed d).lastSwap = x.lastSwap ∧ (x.missed d).events = x.events ∧ (x.missed d).published = x.published ∧ (x.missed d).refusal = x.refusal ∧ (x.missed d).carry = x.carry ∧ (x.missed d).waitSet = x.waitSet ∧ (x.missed d).coalesced = x.coalesced := by
  unfold Window.missed; simp only; split <;> simp [-win_endJob, -win_event, -win_drop, -win_dropEvent, -win_enqueueNotice]

/-- Items that `miss` keeps. -/
@[simp] theorem miss_fields (s : State) (w : Win) (d : Descriptor) (v : Win) :
    ((s.miss w d).win v).slotA = (s.win v).slotA ∧ ((s.miss w d).win v).slotB = (s.win v).slotB ∧
    ((s.miss w d).win v).active = (s.win v).active ∧ ((s.miss w d).win v).valid = (s.win v).valid ∧
    ((s.miss w d).win v).held = (s.win v).held ∧ ((s.miss w d).win v).safe = (s.win v).safe ∧
    ((s.miss w d).win v).swapPending = (s.win v).swapPending ∧ ((s.miss w d).win v).fence = (s.win v).fence ∧
    ((s.miss w d).win v).switchPending = (s.win v).switchPending ∧ ((s.miss w d).win v).role = (s.win v).role ∧
    ((s.miss w d).win v).fill = (s.win v).fill ∧ ((s.miss w d).win v).blocked = (s.win v).blocked ∧
    ((s.miss w d).win v).drops = (s.win v).drops ∧ ((s.miss w d).win v).lastSwap = (s.win v).lastSwap ∧
    ((s.miss w d).win v).published = (s.win v).published ∧ ((s.miss w d).win v).refusal = (s.win v).refusal ∧
    ((s.miss w d).win v).carry = (s.win v).carry ∧ ((s.miss w d).win v).waitSet = (s.win v).waitSet ∧
    ((s.miss w d).win v).coalesced = (s.win v).coalesced := by
  unfold State.miss; simp only; split <;> by_cases h : v = w <;> simp [-win_endJob, -win_event, -win_drop, -win_dropEvent, -win_enqueueNotice, h]

/-- Items that `holdBack` keeps. -/
@[simp] theorem holdBack_fields (s : State) (w : Win) (e : WEvent) (v : Win) :
    ((s.holdBack w e).win v).slotA = (s.win v).slotA ∧ ((s.holdBack w e).win v).slotB = (s.win v).slotB ∧
    ((s.holdBack w e).win v).active = (s.win v).active ∧ ((s.holdBack w e).win v).state = (s.win v).state ∧
    ((s.holdBack w e).win v).valid = (s.win v).valid ∧ ((s.holdBack w e).win v).held = (s.win v).held ∧
    ((s.holdBack w e).win v).safe = (s.win v).safe ∧ ((s.holdBack w e).win v).swapPending = (s.win v).swapPending ∧
    ((s.holdBack w e).win v).fence = (s.win v).fence ∧
    ((s.holdBack w e).win v).switchPending = (s.win v).switchPending ∧
    ((s.holdBack w e).win v).role = (s.win v).role ∧ ((s.holdBack w e).win v).fill = (s.win v).fill ∧
    ((s.holdBack w e).win v).miss = (s.win v).miss ∧ ((s.holdBack w e).win v).lost = (s.win v).lost ∧
    ((s.holdBack w e).win v).drops = (s.win v).drops ∧ ((s.holdBack w e).win v).lastSwap = (s.win v).lastSwap ∧
    ((s.holdBack w e).win v).published = (s.win v).published ∧
    ((s.holdBack w e).win v).refusal = (s.win v).refusal ∧ ((s.holdBack w e).win v).carry = (s.win v).carry ∧
    ((s.holdBack w e).win v).waitSet = (s.win v).waitSet ∧
    ((s.holdBack w e).win v).coalesced = (s.win v).coalesced := by
  unfold State.holdBack; by_cases h : v = w <;> simp [-win_endJob, -win_event, -win_drop, -win_dropEvent, -win_enqueueNotice, h]

/-- Items that `underfill` keeps. -/
@[simp] theorem underfill_fields (s : State) (w : Win) (d : Descriptor) (v : Win) :
    ((s.underfill w d).win v).slotA = (s.win v).slotA ∧ ((s.underfill w d).win v).slotB = (s.win v).slotB ∧
    ((s.underfill w d).win v).active = (s.win v).active ∧ ((s.underfill w d).win v).valid = (s.win v).valid ∧
    ((s.underfill w d).win v).held = (s.win v).held ∧ ((s.underfill w d).win v).safe = (s.win v).safe ∧
    ((s.underfill w d).win v).swapPending = (s.win v).swapPending ∧
    ((s.underfill w d).win v).fence = (s.win v).fence ∧
    ((s.underfill w d).win v).switchPending = (s.win v).switchPending ∧
    ((s.underfill w d).win v).role = (s.win v).role ∧ ((s.underfill w d).win v).blocked = (s.win v).blocked ∧
    ((s.underfill w d).win v).drops = (s.win v).drops ∧ ((s.underfill w d).win v).lastSwap = (s.win v).lastSwap ∧
    ((s.underfill w d).win v).published = (s.win v).published ∧
    ((s.underfill w d).win v).refusal = (s.win v).refusal ∧ ((s.underfill w d).win v).carry = (s.win v).carry ∧
    ((s.underfill w d).win v).coalesced = (s.win v).coalesced := by
  unfold State.underfill; simp only; split <;> by_cases h : v = w <;> simp [-win_endJob, -win_event, -win_drop, -win_dropEvent, -win_enqueueNotice, h]

/-- Items that `evalFilled` keeps. -/
@[simp] theorem evalFilled_fields (s : State) (w : Win) (d : Descriptor) (v : Win) :
    ((s.evalFilled w d).win v).slotA = (s.win v).slotA ∧ ((s.evalFilled w d).win v).slotB = (s.win v).slotB ∧
    ((s.evalFilled w d).win v).active = (s.win v).active ∧ ((s.evalFilled w d).win v).held = (s.win v).held ∧
    ((s.evalFilled w d).win v).switchPending = (s.win v).switchPending ∧
    ((s.evalFilled w d).win v).drops = (s.win v).drops ∧
    ((s.evalFilled w d).win v).published = (s.win v).published ∧
    ((s.evalFilled w d).win v).refusal = (s.win v).refusal := by
  unfold State.evalFilled
  split
  · by_cases h : v = w <;> simp [-win_endJob, -win_event, -win_drop, -win_dropEvent, -win_enqueueNotice, h]
  · split
    · by_cases h : v = w <;> simp [-win_endJob, -win_event, -win_drop, -win_dropEvent, -win_enqueueNotice, h]
    · simp [-win_endJob, -win_event, -win_drop, -win_dropEvent, -win_enqueueNotice]

/-- Items that `evalInput` keeps. -/
@[simp] theorem evalInput_fields (s : State) (w : Win) (d : Descriptor) (v : Win) :
    ((s.evalInput w d).win v).slotA = (s.win v).slotA ∧ ((s.evalInput w d).win v).slotB = (s.win v).slotB ∧
    ((s.evalInput w d).win v).active = (s.win v).active ∧ ((s.evalInput w d).win v).held = (s.win v).held ∧
    ((s.evalInput w d).win v).switchPending = (s.win v).switchPending ∧
    ((s.evalInput w d).win v).drops = (s.win v).drops ∧ ((s.evalInput w d).win v).published = (s.win v).published ∧
    ((s.evalInput w d).win v).refusal = (s.win v).refusal := by
  unfold State.evalInput; split <;> simp [-win_endJob, -win_event, -win_drop, -win_dropEvent, -win_enqueueNotice]

/-- Items that `underrun` keeps. -/
@[simp] theorem underrun_fields (s : State) (w : Win) (d : Descriptor) (v : Win) :
    ((s.underrun w d).win v).slotA = (s.win v).slotA ∧ ((s.underrun w d).win v).slotB = (s.win v).slotB ∧
    ((s.underrun w d).win v).active = (s.win v).active ∧ ((s.underrun w d).win v).valid = (s.win v).valid ∧
    ((s.underrun w d).win v).held = (s.win v).held ∧ ((s.underrun w d).win v).swapPending = (s.win v).swapPending ∧
    ((s.underrun w d).win v).fence = (s.win v).fence ∧
    ((s.underrun w d).win v).switchPending = (s.win v).switchPending ∧
    ((s.underrun w d).win v).role = (s.win v).role ∧ ((s.underrun w d).win v).fill = (s.win v).fill ∧
    ((s.underrun w d).win v).blocked = (s.win v).blocked ∧ ((s.underrun w d).win v).drops = (s.win v).drops ∧
    ((s.underrun w d).win v).lastSwap = (s.win v).lastSwap ∧
    ((s.underrun w d).win v).published = (s.win v).published ∧
    ((s.underrun w d).win v).refusal = (s.win v).refusal ∧ ((s.underrun w d).win v).carry = (s.win v).carry ∧
    ((s.underrun w d).win v).waitSet = (s.win v).waitSet ∧
    ((s.underrun w d).win v).coalesced = (s.win v).coalesced := by
  unfold State.underrun; split <;> by_cases h : v = w <;> simp [-win_endJob, -win_event, -win_drop, -win_dropEvent, -win_enqueueNotice, h]

/-- Items that `evalCommitted` keeps. -/
@[simp] theorem evalCommitted_fields (s : State) (w : Win) (d : Descriptor) (v : Win) :
    ((s.evalCommitted w d).win v).slotA = (s.win v).slotA ∧ ((s.evalCommitted w d).win v).slotB = (s.win v).slotB ∧
    ((s.evalCommitted w d).win v).active = (s.win v).active ∧ ((s.evalCommitted w d).win v).held = (s.win v).held ∧
    ((s.evalCommitted w d).win v).switchPending = (s.win v).switchPending ∧
    ((s.evalCommitted w d).win v).drops = (s.win v).drops ∧
    ((s.evalCommitted w d).win v).published = (s.win v).published ∧
    ((s.evalCommitted w d).win v).refusal = (s.win v).refusal := by
  unfold State.evalCommitted; split <;> simp [-win_endJob, -win_event, -win_drop, -win_dropEvent, -win_enqueueNotice]

/-- Items that `evalOutput` keeps. -/
@[simp] theorem evalOutput_fields (s : State) (w : Win) (d : Descriptor) (v : Win) :
    ((s.evalOutput w d).win v).slotA = (s.win v).slotA ∧ ((s.evalOutput w d).win v).slotB = (s.win v).slotB ∧
    ((s.evalOutput w d).win v).active = (s.win v).active ∧ ((s.evalOutput w d).win v).held = (s.win v).held ∧
    ((s.evalOutput w d).win v).switchPending = (s.win v).switchPending ∧
    ((s.evalOutput w d).win v).drops = (s.win v).drops ∧
    ((s.evalOutput w d).win v).published = (s.win v).published ∧
    ((s.evalOutput w d).win v).refusal = (s.win v).refusal := by
  unfold State.evalOutput; split <;> simp [-win_endJob, -win_event, -win_drop, -win_dropEvent, -win_enqueueNotice]

/-- Items that `evaluate` keeps. -/
@[simp] theorem evaluate_fields (s : State) (b : Bool) (w : Win) (v : Win) :
    ((s.evaluate b w).win v).slotA = (s.win v).slotA ∧ ((s.evaluate b w).win v).slotB = (s.win v).slotB ∧
    ((s.evaluate b w).win v).active = (s.win v).active ∧ ((s.evaluate b w).win v).held = (s.win v).held ∧
    ((s.evaluate b w).win v).switchPending = (s.win v).switchPending ∧
    ((s.evaluate b w).win v).drops = (s.win v).drops ∧ ((s.evaluate b w).win v).published = (s.win v).published ∧
    ((s.evaluate b w).win v).refusal = (s.win v).refusal := by
  unfold State.evaluate
  split
  · simp [-win_endJob, -win_event, -win_drop, -win_dropEvent, -win_enqueueNotice]
  · split
    · simp [-win_endJob, -win_event, -win_drop, -win_dropEvent, -win_enqueueNotice]
    · split
      · simp [-win_endJob, -win_event, -win_drop, -win_dropEvent, -win_enqueueNotice]
      · split <;> simp [-win_endJob, -win_event, -win_drop, -win_dropEvent, -win_enqueueNotice]

/-- Items that `noticeOld` keeps. -/
@[simp] theorem noticeOld_fields (s : State) (w : Win) (a : PlaceAnswer) (v : Win) :
    ((s.noticeOld w a).win v).slotA = (s.win v).slotA ∧ ((s.noticeOld w a).win v).slotB = (s.win v).slotB ∧
    ((s.noticeOld w a).win v).active = (s.win v).active ∧ ((s.noticeOld w a).win v).state = (s.win v).state ∧
    ((s.noticeOld w a).win v).valid = (s.win v).valid ∧ ((s.noticeOld w a).win v).held = (s.win v).held ∧
    ((s.noticeOld w a).win v).safe = (s.win v).safe ∧
    ((s.noticeOld w a).win v).swapPending = (s.win v).swapPending ∧
    ((s.noticeOld w a).win v).switchPending = (s.win v).switchPending ∧
    ((s.noticeOld w a).win v).role = (s.win v).role ∧ ((s.noticeOld w a).win v).fill = (s.win v).fill ∧
    ((s.noticeOld w a).win v).miss = (s.win v).miss ∧ ((s.noticeOld w a).win v).lost = (s.win v).lost ∧
    ((s.noticeOld w a).win v).blocked = (s.win v).blocked ∧ ((s.noticeOld w a).win v).drops = (s.win v).drops ∧
    ((s.noticeOld w a).win v).lastSwap = (s.win v).lastSwap ∧ ((s.noticeOld w a).win v).events = (s.win v).events ∧
    ((s.noticeOld w a).win v).published = (s.win v).published ∧
    ((s.noticeOld w a).win v).refusal = (s.win v).refusal ∧ ((s.noticeOld w a).win v).carry = (s.win v).carry ∧
    ((s.noticeOld w a).win v).waitSet = (s.win v).waitSet ∧
    ((s.noticeOld w a).win v).coalesced = (s.win v).coalesced := by
  unfold State.noticeOld; split <;> simp [-win_endJob, -win_event, -win_drop, -win_dropEvent, -win_enqueueNotice]

/-- Items that `takeSwitch` keeps. -/
@[simp] theorem takeSwitch_fields (s : State) (w : Win) (a : PlaceAnswer) (v : Win) :
    ((s.takeSwitch w a).win v).slotA = (s.win v).slotA ∧ ((s.takeSwitch w a).win v).slotB = (s.win v).slotB ∧
    ((s.takeSwitch w a).win v).swapPending = (s.win v).swapPending ∧
    ((s.takeSwitch w a).win v).lost = (s.win v).lost ∧ ((s.takeSwitch w a).win v).blocked = (s.win v).blocked ∧
    ((s.takeSwitch w a).win v).drops = (s.win v).drops ∧ ((s.takeSwitch w a).win v).lastSwap = (s.win v).lastSwap ∧
    ((s.takeSwitch w a).win v).published = (s.win v).published ∧
    ((s.takeSwitch w a).win v).refusal = (s.win v).refusal ∧
    ((s.takeSwitch w a).win v).coalesced = (s.win v).coalesced := by
  unfold State.takeSwitch; by_cases h : v = w <;> simp [-win_endJob, -win_event, -win_drop, -win_dropEvent, -win_enqueueNotice, h]

/-- Items that `takePulse` keeps. -/
@[simp] theorem takePulse_fields (b o : Bool) (s : State) (w : Win) (v : Win) :
    ((State.takePulse b o s w).win v).slotA = (s.win v).slotA ∧
    ((State.takePulse b o s w).win v).slotB = (s.win v).slotB ∧
    ((State.takePulse b o s w).win v).drops = (s.win v).drops ∧
    ((State.takePulse b o s w).win v).published = (s.win v).published ∧
    ((State.takePulse b o s w).win v).refusal = (s.win v).refusal := by
  unfold State.takePulse
  split
  · split <;> simp [-win_endJob, -win_event, -win_drop, -win_dropEvent, -win_enqueueNotice]
  · simp [-win_endJob, -win_event, -win_drop, -win_dropEvent, -win_enqueueNotice]

/-- Items that `deliver` keeps. -/
@[simp] theorem deliver_fields (s : State) (b o : Bool) (v : Win) :
    ((s.deliver b o).win v).slotA = (s.win v).slotA ∧ ((s.deliver b o).win v).slotB = (s.win v).slotB ∧ ((s.deliver b o).win v).drops = (s.win v).drops ∧ ((s.deliver b o).win v).published = (s.win v).published ∧ ((s.deliver b o).win v).refusal = (s.win v).refusal := by
  unfold State.deliver
  exact ⟨foldl_win_keeps Window.slotA (State.takePulse b o) v (by simp [-win_endJob, -win_event, -win_drop, -win_dropEvent, -win_enqueueNotice]) _ s,
    foldl_win_keeps Window.slotB (State.takePulse b o) v (by simp [-win_endJob, -win_event, -win_drop, -win_dropEvent, -win_enqueueNotice]) _ s,
    foldl_win_keeps Window.drops (State.takePulse b o) v (by simp [-win_endJob, -win_event, -win_drop, -win_dropEvent, -win_enqueueNotice]) _ s,
    foldl_win_keeps Window.published (State.takePulse b o) v (by simp [-win_endJob, -win_event, -win_drop, -win_dropEvent, -win_enqueueNotice]) _ s,
    foldl_win_keeps Window.refusal (State.takePulse b o) v (by simp [-win_endJob, -win_event, -win_drop, -win_dropEvent, -win_enqueueNotice]) _ s⟩

/-- Items that `align` keeps. -/
@[simp] theorem align_fields (s : State) (w : Win) (v : Win) :
    ((s.align w).win v).slotA = (s.win v).slotA ∧ ((s.align w).win v).slotB = (s.win v).slotB ∧
    ((s.align w).win v).active = (s.win v).active ∧ ((s.align w).win v).valid = (s.win v).valid ∧
    ((s.align w).win v).held = (s.win v).held ∧ ((s.align w).win v).safe = (s.win v).safe ∧
    ((s.align w).win v).swapPending = (s.win v).swapPending ∧ ((s.align w).win v).fence = (s.win v).fence ∧
    ((s.align w).win v).switchPending = (s.win v).switchPending ∧ ((s.align w).win v).role = (s.win v).role ∧
    ((s.align w).win v).miss = (s.win v).miss ∧ ((s.align w).win v).lost = (s.win v).lost ∧
    ((s.align w).win v).blocked = (s.win v).blocked ∧ ((s.align w).win v).drops = (s.win v).drops ∧
    ((s.align w).win v).lastSwap = (s.win v).lastSwap ∧ ((s.align w).win v).published = (s.win v).published ∧
    ((s.align w).win v).refusal = (s.win v).refusal ∧ ((s.align w).win v).carry = (s.win v).carry ∧
    ((s.align w).win v).coalesced = (s.win v).coalesced := by
  unfold State.align
  split
  · simp [-win_endJob, -win_event, -win_drop, -win_dropEvent, -win_enqueueNotice]
  · split
    · by_cases h : v = w <;> simp [-win_endJob, -win_event, -win_drop, -win_dropEvent, -win_enqueueNotice, h]
    · simp [-win_endJob, -win_event, -win_drop, -win_dropEvent, -win_enqueueNotice]

/-- Items that `deliverAlignment` keeps. -/
@[simp] theorem deliverAlignment_fields (s : State) (v : Win) :
    ((s.deliverAlignment).win v).slotA = (s.win v).slotA ∧ ((s.deliverAlignment).win v).slotB = (s.win v).slotB ∧ ((s.deliverAlignment).win v).active = (s.win v).active ∧ ((s.deliverAlignment).win v).valid = (s.win v).valid ∧ ((s.deliverAlignment).win v).held = (s.win v).held ∧ ((s.deliverAlignment).win v).safe = (s.win v).safe ∧ ((s.deliverAlignment).win v).swapPending = (s.win v).swapPending ∧ ((s.deliverAlignment).win v).fence = (s.win v).fence ∧ ((s.deliverAlignment).win v).switchPending = (s.win v).switchPending ∧ ((s.deliverAlignment).win v).role = (s.win v).role ∧ ((s.deliverAlignment).win v).miss = (s.win v).miss ∧ ((s.deliverAlignment).win v).lost = (s.win v).lost ∧ ((s.deliverAlignment).win v).blocked = (s.win v).blocked ∧ ((s.deliverAlignment).win v).drops = (s.win v).drops ∧ ((s.deliverAlignment).win v).lastSwap = (s.win v).lastSwap ∧ ((s.deliverAlignment).win v).published = (s.win v).published ∧ ((s.deliverAlignment).win v).refusal = (s.win v).refusal ∧ ((s.deliverAlignment).win v).carry = (s.win v).carry ∧ ((s.deliverAlignment).win v).coalesced = (s.win v).coalesced := by
  unfold State.deliverAlignment
  exact ⟨foldl_win_keeps Window.slotA State.align v (by simp [-win_endJob, -win_event, -win_drop, -win_dropEvent, -win_enqueueNotice]) _ s,
    foldl_win_keeps Window.slotB State.align v (by simp [-win_endJob, -win_event, -win_drop, -win_dropEvent, -win_enqueueNotice]) _ s,
    foldl_win_keeps Window.active State.align v (by simp [-win_endJob, -win_event, -win_drop, -win_dropEvent, -win_enqueueNotice]) _ s,
    foldl_win_keeps Window.valid State.align v (by simp [-win_endJob, -win_event, -win_drop, -win_dropEvent, -win_enqueueNotice]) _ s,
    foldl_win_keeps Window.held State.align v (by simp [-win_endJob, -win_event, -win_drop, -win_dropEvent, -win_enqueueNotice]) _ s,
    foldl_win_keeps Window.safe State.align v (by simp [-win_endJob, -win_event, -win_drop, -win_dropEvent, -win_enqueueNotice]) _ s,
    foldl_win_keeps Window.swapPending State.align v (by simp [-win_endJob, -win_event, -win_drop, -win_dropEvent, -win_enqueueNotice]) _ s,
    foldl_win_keeps Window.fence State.align v (by simp [-win_endJob, -win_event, -win_drop, -win_dropEvent, -win_enqueueNotice]) _ s,
    foldl_win_keeps Window.switchPending State.align v (by simp [-win_endJob, -win_event, -win_drop, -win_dropEvent, -win_enqueueNotice]) _ s,
    foldl_win_keeps Window.role State.align v (by simp [-win_endJob, -win_event, -win_drop, -win_dropEvent, -win_enqueueNotice]) _ s,
    foldl_win_keeps Window.miss State.align v (by simp [-win_endJob, -win_event, -win_drop, -win_dropEvent, -win_enqueueNotice]) _ s,
    foldl_win_keeps Window.lost State.align v (by simp [-win_endJob, -win_event, -win_drop, -win_dropEvent, -win_enqueueNotice]) _ s,
    foldl_win_keeps Window.blocked State.align v (by simp [-win_endJob, -win_event, -win_drop, -win_dropEvent, -win_enqueueNotice]) _ s,
    foldl_win_keeps Window.drops State.align v (by simp [-win_endJob, -win_event, -win_drop, -win_dropEvent, -win_enqueueNotice]) _ s,
    foldl_win_keeps Window.lastSwap State.align v (by simp [-win_endJob, -win_event, -win_drop, -win_dropEvent, -win_enqueueNotice]) _ s,
    foldl_win_keeps Window.published State.align v (by simp [-win_endJob, -win_event, -win_drop, -win_dropEvent, -win_enqueueNotice]) _ s,
    foldl_win_keeps Window.refusal State.align v (by simp [-win_endJob, -win_event, -win_drop, -win_dropEvent, -win_enqueueNotice]) _ s,
    foldl_win_keeps Window.carry State.align v (by simp [-win_endJob, -win_event, -win_drop, -win_dropEvent, -win_enqueueNotice]) _ s,
    foldl_win_keeps Window.coalesced State.align v (by simp [-win_endJob, -win_event, -win_drop, -win_dropEvent, -win_enqueueNotice]) _ s⟩

/-- Items that `lose` keeps. -/
@[simp] theorem lose_fields (s : State) (w : Win) (v : Win) :
    ((s.lose w).win v).slotA = (s.win v).slotA ∧ ((s.lose w).win v).slotB = (s.win v).slotB ∧
    ((s.lose w).win v).active = (s.win v).active ∧ ((s.lose w).win v).state = (s.win v).state ∧
    ((s.lose w).win v).valid = (s.win v).valid ∧ ((s.lose w).win v).held = (s.win v).held ∧
    ((s.lose w).win v).swapPending = (s.win v).swapPending ∧ ((s.lose w).win v).fence = (s.win v).fence ∧
    ((s.lose w).win v).switchPending = (s.win v).switchPending ∧ ((s.lose w).win v).role = (s.win v).role ∧
    ((s.lose w).win v).fill = (s.win v).fill ∧ ((s.lose w).win v).miss = (s.win v).miss ∧
    ((s.lose w).win v).lost = (s.win v).lost ∧ ((s.lose w).win v).blocked = (s.win v).blocked ∧
    ((s.lose w).win v).drops = (s.win v).drops ∧ ((s.lose w).win v).lastSwap = (s.win v).lastSwap ∧
    ((s.lose w).win v).events = (s.win v).events ∧ ((s.lose w).win v).published = (s.win v).published ∧
    ((s.lose w).win v).refusal = (s.win v).refusal ∧ ((s.lose w).win v).carry = (s.win v).carry ∧
    ((s.lose w).win v).waitSet = (s.win v).waitSet ∧ ((s.lose w).win v).coalesced = (s.win v).coalesced := by
  unfold State.lose
  split
  · simp [-win_endJob, -win_event, -win_drop, -win_dropEvent, -win_enqueueNotice]
  · split
    · by_cases h : v = w <;> simp [-win_endJob, -win_event, -win_drop, -win_dropEvent, -win_enqueueNotice, h]
    · simp [-win_endJob, -win_event, -win_drop, -win_dropEvent, -win_enqueueNotice]

/-- Items that the loss event keeps. -/
@[simp] theorem loseAll_fields (s : State) (v : Win) :
    ((allWindows.foldl State.lose s).win v).slotA = (s.win v).slotA ∧ ((allWindows.foldl State.lose s).win v).slotB = (s.win v).slotB ∧ ((allWindows.foldl State.lose s).win v).active = (s.win v).active ∧ ((allWindows.foldl State.lose s).win v).state = (s.win v).state ∧ ((allWindows.foldl State.lose s).win v).valid = (s.win v).valid ∧ ((allWindows.foldl State.lose s).win v).held = (s.win v).held ∧ ((allWindows.foldl State.lose s).win v).swapPending = (s.win v).swapPending ∧ ((allWindows.foldl State.lose s).win v).fence = (s.win v).fence ∧ ((allWindows.foldl State.lose s).win v).switchPending = (s.win v).switchPending ∧ ((allWindows.foldl State.lose s).win v).role = (s.win v).role ∧ ((allWindows.foldl State.lose s).win v).fill = (s.win v).fill ∧ ((allWindows.foldl State.lose s).win v).miss = (s.win v).miss ∧ ((allWindows.foldl State.lose s).win v).lost = (s.win v).lost ∧ ((allWindows.foldl State.lose s).win v).blocked = (s.win v).blocked ∧ ((allWindows.foldl State.lose s).win v).drops = (s.win v).drops ∧ ((allWindows.foldl State.lose s).win v).lastSwap = (s.win v).lastSwap ∧ ((allWindows.foldl State.lose s).win v).events = (s.win v).events ∧ ((allWindows.foldl State.lose s).win v).published = (s.win v).published ∧ ((allWindows.foldl State.lose s).win v).refusal = (s.win v).refusal ∧ ((allWindows.foldl State.lose s).win v).carry = (s.win v).carry ∧ ((allWindows.foldl State.lose s).win v).waitSet = (s.win v).waitSet ∧ ((allWindows.foldl State.lose s).win v).coalesced = (s.win v).coalesced :=
  ⟨foldl_win_keeps Window.slotA State.lose v (by simp [-win_endJob, -win_event, -win_drop, -win_dropEvent, -win_enqueueNotice]) _ s,
    foldl_win_keeps Window.slotB State.lose v (by simp [-win_endJob, -win_event, -win_drop, -win_dropEvent, -win_enqueueNotice]) _ s,
    foldl_win_keeps Window.active State.lose v (by simp [-win_endJob, -win_event, -win_drop, -win_dropEvent, -win_enqueueNotice]) _ s,
    foldl_win_keeps Window.state State.lose v (by simp [-win_endJob, -win_event, -win_drop, -win_dropEvent, -win_enqueueNotice]) _ s,
    foldl_win_keeps Window.valid State.lose v (by simp [-win_endJob, -win_event, -win_drop, -win_dropEvent, -win_enqueueNotice]) _ s,
    foldl_win_keeps Window.held State.lose v (by simp [-win_endJob, -win_event, -win_drop, -win_dropEvent, -win_enqueueNotice]) _ s,
    foldl_win_keeps Window.swapPending State.lose v (by simp [-win_endJob, -win_event, -win_drop, -win_dropEvent, -win_enqueueNotice]) _ s,
    foldl_win_keeps Window.fence State.lose v (by simp [-win_endJob, -win_event, -win_drop, -win_dropEvent, -win_enqueueNotice]) _ s,
    foldl_win_keeps Window.switchPending State.lose v (by simp [-win_endJob, -win_event, -win_drop, -win_dropEvent, -win_enqueueNotice]) _ s,
    foldl_win_keeps Window.role State.lose v (by simp [-win_endJob, -win_event, -win_drop, -win_dropEvent, -win_enqueueNotice]) _ s,
    foldl_win_keeps Window.fill State.lose v (by simp [-win_endJob, -win_event, -win_drop, -win_dropEvent, -win_enqueueNotice]) _ s,
    foldl_win_keeps Window.miss State.lose v (by simp [-win_endJob, -win_event, -win_drop, -win_dropEvent, -win_enqueueNotice]) _ s,
    foldl_win_keeps Window.lost State.lose v (by simp [-win_endJob, -win_event, -win_drop, -win_dropEvent, -win_enqueueNotice]) _ s,
    foldl_win_keeps Window.blocked State.lose v (by simp [-win_endJob, -win_event, -win_drop, -win_dropEvent, -win_enqueueNotice]) _ s,
    foldl_win_keeps Window.drops State.lose v (by simp [-win_endJob, -win_event, -win_drop, -win_dropEvent, -win_enqueueNotice]) _ s,
    foldl_win_keeps Window.lastSwap State.lose v (by simp [-win_endJob, -win_event, -win_drop, -win_dropEvent, -win_enqueueNotice]) _ s,
    foldl_win_keeps Window.events State.lose v (by simp [-win_endJob, -win_event, -win_drop, -win_dropEvent, -win_enqueueNotice]) _ s,
    foldl_win_keeps Window.published State.lose v (by simp [-win_endJob, -win_event, -win_drop, -win_dropEvent, -win_enqueueNotice]) _ s,
    foldl_win_keeps Window.refusal State.lose v (by simp [-win_endJob, -win_event, -win_drop, -win_dropEvent, -win_enqueueNotice]) _ s,
    foldl_win_keeps Window.carry State.lose v (by simp [-win_endJob, -win_event, -win_drop, -win_dropEvent, -win_enqueueNotice]) _ s,
    foldl_win_keeps Window.waitSet State.lose v (by simp [-win_endJob, -win_event, -win_drop, -win_dropEvent, -win_enqueueNotice]) _ s,
    foldl_win_keeps Window.coalesced State.lose v (by simp [-win_endJob, -win_event, -win_drop, -win_dropEvent, -win_enqueueNotice]) _ s⟩

/-- Changing the controller alone changes no record. -/
theorem win_cc (s : State) (c : CycleController) (v : Win) : ({ s with cc := c } : State).win v = s.win v := rfl

/-- Items that `armedPulse` keeps. -/
@[simp] theorem armedPulse_fields (s : State) (v : Win) :
    ((s.armedPulse).win v).slotA = (s.win v).slotA ∧ ((s.armedPulse).win v).slotB = (s.win v).slotB ∧
    ((s.armedPulse).win v).active = (s.win v).active ∧ ((s.armedPulse).win v).valid = (s.win v).valid ∧
    ((s.armedPulse).win v).held = (s.win v).held ∧ ((s.armedPulse).win v).safe = (s.win v).safe ∧
    ((s.armedPulse).win v).swapPending = (s.win v).swapPending ∧ ((s.armedPulse).win v).fence = (s.win v).fence ∧
    ((s.armedPulse).win v).switchPending = (s.win v).switchPending ∧ ((s.armedPulse).win v).role = (s.win v).role ∧
    ((s.armedPulse).win v).miss = (s.win v).miss ∧ ((s.armedPulse).win v).lost = (s.win v).lost ∧
    ((s.armedPulse).win v).blocked = (s.win v).blocked ∧ ((s.armedPulse).win v).drops = (s.win v).drops ∧
    ((s.armedPulse).win v).lastSwap = (s.win v).lastSwap ∧ ((s.armedPulse).win v).published = (s.win v).published ∧
    ((s.armedPulse).win v).refusal = (s.win v).refusal ∧ ((s.armedPulse).win v).carry = (s.win v).carry ∧
    ((s.armedPulse).win v).coalesced = (s.win v).coalesced := by
  have he : ∀ (t : State) c, (t.enter c).win v = t.win v := fun _ _ => rfl
  simp [-win_endJob, -win_event, -win_drop, -win_dropEvent, -win_enqueueNotice, State.armedPulse, he]

/-- Items that `lostPulse` keeps. -/
@[simp] theorem lostPulse_fields (s : State) (v : Win) :
    ((s.lostPulse).win v).slotA = (s.win v).slotA ∧ ((s.lostPulse).win v).slotB = (s.win v).slotB ∧
    ((s.lostPulse).win v).active = (s.win v).active ∧ ((s.lostPulse).win v).valid = (s.win v).valid ∧
    ((s.lostPulse).win v).held = (s.win v).held ∧ ((s.lostPulse).win v).safe = (s.win v).safe ∧
    ((s.lostPulse).win v).swapPending = (s.win v).swapPending ∧ ((s.lostPulse).win v).fence = (s.win v).fence ∧
    ((s.lostPulse).win v).switchPending = (s.win v).switchPending ∧ ((s.lostPulse).win v).role = (s.win v).role ∧
    ((s.lostPulse).win v).miss = (s.win v).miss ∧ ((s.lostPulse).win v).lost = (s.win v).lost ∧
    ((s.lostPulse).win v).blocked = (s.win v).blocked ∧ ((s.lostPulse).win v).drops = (s.win v).drops ∧
    ((s.lostPulse).win v).lastSwap = (s.win v).lastSwap ∧ ((s.lostPulse).win v).published = (s.win v).published ∧
    ((s.lostPulse).win v).refusal = (s.win v).refusal ∧ ((s.lostPulse).win v).carry = (s.win v).carry ∧
    ((s.lostPulse).win v).coalesced = (s.win v).coalesced := by
  have he : ∀ (t : State) c, (t.enter c).win v = t.win v := fun _ _ => rfl
  simp [-win_endJob, -win_event, -win_drop, -win_dropEvent, -win_enqueueNotice, State.lostPulse, he]

/-- Items that `aligningPulse` keeps. -/
@[simp] theorem aligningPulse_fields (s : State) (v : Win) :
    ((s.aligningPulse).win v).slotA = (s.win v).slotA ∧ ((s.aligningPulse).win v).slotB = (s.win v).slotB ∧
    ((s.aligningPulse).win v).drops = (s.win v).drops ∧ ((s.aligningPulse).win v).published = (s.win v).published ∧
    ((s.aligningPulse).win v).refusal = (s.win v).refusal := by
  simp [-win_endJob, -win_event, -win_drop, -win_dropEvent, -win_enqueueNotice, State.aligningPulse, win_of_windows]

/-- Items that `runningPulse` keeps. -/
@[simp] theorem runningPulse_fields (s : State) (v : Win) :
    ((s.runningPulse).win v).slotA = (s.win v).slotA ∧ ((s.runningPulse).win v).slotB = (s.win v).slotB ∧
    ((s.runningPulse).win v).drops = (s.win v).drops ∧ ((s.runningPulse).win v).published = (s.win v).published ∧
    ((s.runningPulse).win v).refusal = (s.win v).refusal := by
  simp [-win_endJob, -win_event, -win_drop, -win_dropEvent, -win_enqueueNotice, State.runningPulse, win_of_windows]

/-- Items that `frozenPulse` keeps. -/
@[simp] theorem frozenPulse_fields (s : State) (v : Win) :
    ((s.frozenPulse).win v).slotA = (s.win v).slotA ∧ ((s.frozenPulse).win v).slotB = (s.win v).slotB ∧
    ((s.frozenPulse).win v).drops = (s.win v).drops ∧ ((s.frozenPulse).win v).published = (s.win v).published ∧
    ((s.frozenPulse).win v).refusal = (s.win v).refusal := by
  unfold State.frozenPulse; simp only; split <;> simp [-win_endJob, -win_event, -win_drop, -win_dropEvent, -win_enqueueNotice]

/-- The freeze changes no record. -/
@[simp] theorem win_freeze (s : State) (v : Win) : s.freeze.win v = s.win v := rfl

/-- Items that `pulse` keeps. -/
@[simp] theorem pulse_fields (s : State) (v : Win) :
    ((s.pulse).win v).slotA = (s.win v).slotA ∧ ((s.pulse).win v).slotB = (s.win v).slotB ∧
    ((s.pulse).win v).drops = (s.win v).drops ∧ ((s.pulse).win v).published = (s.win v).published ∧
    ((s.pulse).win v).refusal = (s.win v).refusal := by
  unfold State.pulse
  split <;> try simp [-win_endJob, -win_event, -win_drop, -win_dropEvent, -win_enqueueNotice]
  all_goals split <;> simp [-win_endJob, -win_event, -win_drop, -win_dropEvent, -win_enqueueNotice]

/-- Items that `risingEdge` keeps. -/
@[simp] theorem risingEdge_fields (s : State) (v : Win) :
    ((s.risingEdge).win v).slotA = (s.win v).slotA ∧ ((s.risingEdge).win v).slotB = (s.win v).slotB ∧
    ((s.risingEdge).win v).drops = (s.win v).drops ∧ ((s.risingEdge).win v).published = (s.win v).published ∧
    ((s.risingEdge).win v).refusal = (s.win v).refusal := by
  unfold State.risingEdge
  split <;> try simp [-win_endJob, -win_event, -win_drop, -win_dropEvent, -win_enqueueNotice]
  all_goals split <;> simp [-win_endJob, -win_event, -win_drop, -win_dropEvent, -win_enqueueNotice]

/-- Items that `watchdogExpires` keeps. -/
@[simp] theorem watchdogExpires_fields (s : State) (v : Win) :
    ((s.watchdogExpires).win v).slotA = (s.win v).slotA ∧ ((s.watchdogExpires).win v).slotB = (s.win v).slotB ∧
    ((s.watchdogExpires).win v).active = (s.win v).active ∧ ((s.watchdogExpires).win v).state = (s.win v).state ∧
    ((s.watchdogExpires).win v).valid = (s.win v).valid ∧ ((s.watchdogExpires).win v).held = (s.win v).held ∧
    ((s.watchdogExpires).win v).swapPending = (s.win v).swapPending ∧
    ((s.watchdogExpires).win v).fence = (s.win v).fence ∧
    ((s.watchdogExpires).win v).switchPending = (s.win v).switchPending ∧
    ((s.watchdogExpires).win v).role = (s.win v).role ∧ ((s.watchdogExpires).win v).fill = (s.win v).fill ∧
    ((s.watchdogExpires).win v).miss = (s.win v).miss ∧ ((s.watchdogExpires).win v).lost = (s.win v).lost ∧
    ((s.watchdogExpires).win v).blocked = (s.win v).blocked ∧ ((s.watchdogExpires).win v).drops = (s.win v).drops ∧
    ((s.watchdogExpires).win v).lastSwap = (s.win v).lastSwap ∧
    ((s.watchdogExpires).win v).events = (s.win v).events ∧
    ((s.watchdogExpires).win v).published = (s.win v).published ∧
    ((s.watchdogExpires).win v).refusal = (s.win v).refusal ∧ ((s.watchdogExpires).win v).carry = (s.win v).carry ∧
    ((s.watchdogExpires).win v).waitSet = (s.win v).waitSet ∧
    ((s.watchdogExpires).win v).coalesced = (s.win v).coalesced := by
  unfold State.watchdogExpires; split <;> simp [-win_endJob, -win_event, -win_drop, -win_dropEvent, -win_enqueueNotice, win_cc]

/-! ## The M port and the Copy Engine -/

/-- A grant changes no record. -/
@[simp] theorem win_grantTo (s : State) (q : Requester) (g : Grant) (v : Win) : (s.grantTo q g).win v = s.win v := rfl

/-- The grant state is no record. -/
@[simp] theorem win_setGrant (s : State) (g : Grant) (v : Win) : (s.setGrant g).win v = s.win v := rfl

/-- A withdrawn request changes no record. -/
@[simp] theorem win_withdrawC (s : State) (v : Win) : s.withdrawC.win v = s.win v := rfl

/-- Items that `readClearAt` keeps. -/
@[simp] theorem readClearAt_fields (s : State) (a : Resp) (c : Option RecName) (v : Win) :
    ((s.readClearAt a c).win v).slotA = (s.win v).slotA ∧ ((s.readClearAt a c).win v).slotB = (s.win v).slotB ∧
    ((s.readClearAt a c).win v).active = (s.win v).active ∧ ((s.readClearAt a c).win v).state = (s.win v).state ∧
    ((s.readClearAt a c).win v).valid = (s.win v).valid ∧ ((s.readClearAt a c).win v).held = (s.win v).held ∧
    ((s.readClearAt a c).win v).safe = (s.win v).safe ∧
    ((s.readClearAt a c).win v).swapPending = (s.win v).swapPending ∧
    ((s.readClearAt a c).win v).fence = (s.win v).fence ∧
    ((s.readClearAt a c).win v).switchPending = (s.win v).switchPending ∧
    ((s.readClearAt a c).win v).role = (s.win v).role ∧ ((s.readClearAt a c).win v).fill = (s.win v).fill ∧
    ((s.readClearAt a c).win v).miss = (s.win v).miss ∧ ((s.readClearAt a c).win v).lost = (s.win v).lost ∧
    ((s.readClearAt a c).win v).blocked = (s.win v).blocked ∧ ((s.readClearAt a c).win v).drops = (s.win v).drops ∧
    ((s.readClearAt a c).win v).lastSwap = (s.win v).lastSwap ∧
    ((s.readClearAt a c).win v).refusal = (s.win v).refusal ∧ ((s.readClearAt a c).win v).carry = (s.win v).carry ∧
    ((s.readClearAt a c).win v).waitSet = (s.win v).waitSet ∧
    ((s.readClearAt a c).win v).coalesced = (s.win v).coalesced := by
  unfold State.readClearAt
  split
  · simp [-win_endJob, -win_event, -win_drop, -win_dropEvent, -win_enqueueNotice]
  · split <;> simp [-win_endJob, -win_event, -win_drop, -win_dropEvent, -win_enqueueNotice]

/-- Items that `grantItem` keeps. -/
@[simp] theorem grantItem_fields (s : State) (a : Resp) (x : PItem) (v : Win) :
    ((s.grantItem a x).win v).slotA = (s.win v).slotA ∧ ((s.grantItem a x).win v).slotB = (s.win v).slotB ∧
    ((s.grantItem a x).win v).active = (s.win v).active ∧ ((s.grantItem a x).win v).state = (s.win v).state ∧
    ((s.grantItem a x).win v).valid = (s.win v).valid ∧ ((s.grantItem a x).win v).held = (s.win v).held ∧
    ((s.grantItem a x).win v).safe = (s.win v).safe ∧
    ((s.grantItem a x).win v).swapPending = (s.win v).swapPending ∧
    ((s.grantItem a x).win v).fence = (s.win v).fence ∧
    ((s.grantItem a x).win v).switchPending = (s.win v).switchPending ∧
    ((s.grantItem a x).win v).role = (s.win v).role ∧ ((s.grantItem a x).win v).fill = (s.win v).fill ∧
    ((s.grantItem a x).win v).miss = (s.win v).miss ∧ ((s.grantItem a x).win v).lost = (s.win v).lost ∧
    ((s.grantItem a x).win v).blocked = (s.win v).blocked ∧ ((s.grantItem a x).win v).drops = (s.win v).drops ∧
    ((s.grantItem a x).win v).lastSwap = (s.win v).lastSwap ∧
    ((s.grantItem a x).win v).refusal = (s.win v).refusal ∧ ((s.grantItem a x).win v).carry = (s.win v).carry ∧
    ((s.grantItem a x).win v).waitSet = (s.win v).waitSet ∧
    ((s.grantItem a x).win v).coalesced = (s.win v).coalesced := by
  unfold State.grantItem
  split
  · split <;> simp [-win_endJob, -win_event, -win_drop, -win_dropEvent, -win_enqueueNotice]
  · simp [-win_endJob, -win_event, -win_drop, -win_dropEvent, -win_enqueueNotice]
  · simp [-win_endJob, -win_event, -win_drop, -win_dropEvent, -win_enqueueNotice]

/-- Items that `grantP` keeps. -/
@[simp] theorem grantP_fields (s : State) (a : Resp) (v : Win) :
    ((s.grantP a).win v).slotA = (s.win v).slotA ∧ ((s.grantP a).win v).slotB = (s.win v).slotB ∧
    ((s.grantP a).win v).active = (s.win v).active ∧ ((s.grantP a).win v).state = (s.win v).state ∧
    ((s.grantP a).win v).valid = (s.win v).valid ∧ ((s.grantP a).win v).held = (s.win v).held ∧
    ((s.grantP a).win v).safe = (s.win v).safe ∧ ((s.grantP a).win v).swapPending = (s.win v).swapPending ∧
    ((s.grantP a).win v).fence = (s.win v).fence ∧ ((s.grantP a).win v).switchPending = (s.win v).switchPending ∧
    ((s.grantP a).win v).role = (s.win v).role ∧ ((s.grantP a).win v).fill = (s.win v).fill ∧
    ((s.grantP a).win v).miss = (s.win v).miss ∧ ((s.grantP a).win v).lost = (s.win v).lost ∧
    ((s.grantP a).win v).blocked = (s.win v).blocked ∧ ((s.grantP a).win v).drops = (s.win v).drops ∧
    ((s.grantP a).win v).lastSwap = (s.win v).lastSwap ∧ ((s.grantP a).win v).refusal = (s.win v).refusal ∧
    ((s.grantP a).win v).carry = (s.win v).carry ∧ ((s.grantP a).win v).waitSet = (s.win v).waitSet ∧
    ((s.grantP a).win v).coalesced = (s.win v).coalesced := by
  unfold State.grantP
  split
  · simp [-win_endJob, -win_event, -win_drop, -win_dropEvent, -win_enqueueNotice]
  · split <;> simp [-win_endJob, -win_event, -win_drop, -win_dropEvent, -win_enqueueNotice]

/-- Items that `grantCarry` keeps. -/
@[simp] theorem grantCarry_fields (s : State) (w : Win) (v : Win) :
    ((s.grantCarry w).win v).slotA = (s.win v).slotA ∧ ((s.grantCarry w).win v).slotB = (s.win v).slotB ∧
    ((s.grantCarry w).win v).active = (s.win v).active ∧ ((s.grantCarry w).win v).state = (s.win v).state ∧
    ((s.grantCarry w).win v).valid = (s.win v).valid ∧ ((s.grantCarry w).win v).held = (s.win v).held ∧
    ((s.grantCarry w).win v).safe = (s.win v).safe ∧ ((s.grantCarry w).win v).swapPending = (s.win v).swapPending ∧
    ((s.grantCarry w).win v).fence = (s.win v).fence ∧
    ((s.grantCarry w).win v).switchPending = (s.win v).switchPending ∧
    ((s.grantCarry w).win v).role = (s.win v).role ∧ ((s.grantCarry w).win v).fill = (s.win v).fill ∧
    ((s.grantCarry w).win v).miss = (s.win v).miss ∧ ((s.grantCarry w).win v).lost = (s.win v).lost ∧
    ((s.grantCarry w).win v).blocked = (s.win v).blocked ∧ ((s.grantCarry w).win v).drops = (s.win v).drops ∧
    ((s.grantCarry w).win v).lastSwap = (s.win v).lastSwap ∧ ((s.grantCarry w).win v).events = (s.win v).events ∧
    ((s.grantCarry w).win v).published = (s.win v).published ∧
    ((s.grantCarry w).win v).refusal = (s.win v).refusal ∧ ((s.grantCarry w).win v).carry = (s.win v).carry ∧
    ((s.grantCarry w).win v).coalesced = (s.win v).coalesced := by
  unfold State.grantCarry; split <;> simp [-win_endJob, -win_event, -win_drop, -win_dropEvent, -win_enqueueNotice]

/-- Items that `grantLoop` keeps. -/
@[simp] theorem grantLoop_fields (s : State) (d q : Win) (k : Nat) (v : Win) :
    ((s.grantLoop d q k).win v).slotA = (s.win v).slotA ∧ ((s.grantLoop d q k).win v).slotB = (s.win v).slotB ∧
    ((s.grantLoop d q k).win v).active = (s.win v).active ∧ ((s.grantLoop d q k).win v).state = (s.win v).state ∧
    ((s.grantLoop d q k).win v).valid = (s.win v).valid ∧ ((s.grantLoop d q k).win v).held = (s.win v).held ∧
    ((s.grantLoop d q k).win v).safe = (s.win v).safe ∧
    ((s.grantLoop d q k).win v).swapPending = (s.win v).swapPending ∧
    ((s.grantLoop d q k).win v).fence = (s.win v).fence ∧
    ((s.grantLoop d q k).win v).switchPending = (s.win v).switchPending ∧
    ((s.grantLoop d q k).win v).role = (s.win v).role ∧ ((s.grantLoop d q k).win v).fill = (s.win v).fill ∧
    ((s.grantLoop d q k).win v).miss = (s.win v).miss ∧ ((s.grantLoop d q k).win v).lost = (s.win v).lost ∧
    ((s.grantLoop d q k).win v).blocked = (s.win v).blocked ∧ ((s.grantLoop d q k).win v).drops = (s.win v).drops ∧
    ((s.grantLoop d q k).win v).lastSwap = (s.win v).lastSwap ∧
    ((s.grantLoop d q k).win v).published = (s.win v).published ∧
    ((s.grantLoop d q k).win v).refusal = (s.win v).refusal ∧ ((s.grantLoop d q k).win v).carry = (s.win v).carry ∧
    ((s.grantLoop d q k).win v).coalesced = (s.win v).coalesced := by
  unfold State.grantLoop
  split
  · simp [-win_endJob, -win_event, -win_drop, -win_dropEvent, -win_enqueueNotice]
  · split
    · simp [-win_endJob, -win_event, -win_drop, -win_dropEvent, -win_enqueueNotice]
    · split
      · simp [-win_endJob, -win_event, -win_drop, -win_dropEvent, -win_enqueueNotice, State.endLoopNosrc]
      · split
        · simp [-win_endJob, -win_event, -win_drop, -win_dropEvent, -win_enqueueNotice]
        · split <;> simp [-win_endJob, -win_event, -win_drop, -win_dropEvent, -win_enqueueNotice]

/-- Items that `grantC` keeps. -/
@[simp] theorem grantC_fields (s : State) (v : Win) :
    ((s.grantC).win v).slotA = (s.win v).slotA ∧ ((s.grantC).win v).slotB = (s.win v).slotB ∧
    ((s.grantC).win v).active = (s.win v).active ∧ ((s.grantC).win v).state = (s.win v).state ∧
    ((s.grantC).win v).valid = (s.win v).valid ∧ ((s.grantC).win v).held = (s.win v).held ∧
    ((s.grantC).win v).safe = (s.win v).safe ∧ ((s.grantC).win v).swapPending = (s.win v).swapPending ∧
    ((s.grantC).win v).fence = (s.win v).fence ∧ ((s.grantC).win v).switchPending = (s.win v).switchPending ∧
    ((s.grantC).win v).role = (s.win v).role ∧ ((s.grantC).win v).fill = (s.win v).fill ∧
    ((s.grantC).win v).miss = (s.win v).miss ∧ ((s.grantC).win v).lost = (s.win v).lost ∧
    ((s.grantC).win v).blocked = (s.win v).blocked ∧ ((s.grantC).win v).drops = (s.win v).drops ∧
    ((s.grantC).win v).lastSwap = (s.win v).lastSwap ∧ ((s.grantC).win v).published = (s.win v).published ∧
    ((s.grantC).win v).refusal = (s.win v).refusal ∧ ((s.grantC).win v).carry = (s.win v).carry ∧
    ((s.grantC).win v).coalesced = (s.win v).coalesced := by
  unfold State.grantC
  split
  · simp [-win_endJob, -win_event, -win_drop, -win_dropEvent, -win_enqueueNotice]
  · split <;> simp [-win_endJob, -win_event, -win_drop, -win_dropEvent, -win_enqueueNotice]

/-- Items that `arbitrate` keeps. -/
@[simp] theorem arbitrate_fields (s : State) (a : Resp) (v : Win) :
    ((s.arbitrate a).win v).slotA = (s.win v).slotA ∧ ((s.arbitrate a).win v).slotB = (s.win v).slotB ∧
    ((s.arbitrate a).win v).active = (s.win v).active ∧ ((s.arbitrate a).win v).state = (s.win v).state ∧
    ((s.arbitrate a).win v).valid = (s.win v).valid ∧ ((s.arbitrate a).win v).held = (s.win v).held ∧
    ((s.arbitrate a).win v).safe = (s.win v).safe ∧ ((s.arbitrate a).win v).swapPending = (s.win v).swapPending ∧
    ((s.arbitrate a).win v).fence = (s.win v).fence ∧
    ((s.arbitrate a).win v).switchPending = (s.win v).switchPending ∧
    ((s.arbitrate a).win v).role = (s.win v).role ∧ ((s.arbitrate a).win v).fill = (s.win v).fill ∧
    ((s.arbitrate a).win v).miss = (s.win v).miss ∧ ((s.arbitrate a).win v).lost = (s.win v).lost ∧
    ((s.arbitrate a).win v).blocked = (s.win v).blocked ∧ ((s.arbitrate a).win v).drops = (s.win v).drops ∧
    ((s.arbitrate a).win v).lastSwap = (s.win v).lastSwap ∧ ((s.arbitrate a).win v).refusal = (s.win v).refusal ∧
    ((s.arbitrate a).win v).carry = (s.win v).carry ∧ ((s.arbitrate a).win v).coalesced = (s.win v).coalesced := by
  unfold State.arbitrate
  split
  · simp [-win_endJob, -win_event, -win_drop, -win_dropEvent, -win_enqueueNotice]
  · simp [-win_endJob, -win_event, -win_drop, -win_dropEvent, -win_enqueueNotice, win_congr (s := s) (t := s.grantF) (by simp [-win_endJob])]
  · simp [-win_endJob, -win_event, -win_drop, -win_dropEvent, -win_enqueueNotice]
  · simp [-win_endJob, -win_event, -win_drop, -win_dropEvent, -win_enqueueNotice, win_congr (s := s) (t := s.grantK) (by simp [-win_endJob])]
  · simp [-win_endJob, -win_event, -win_drop, -win_dropEvent, -win_enqueueNotice]

/-- Items that `readClear` keeps. -/
@[simp] theorem readClear_fields (s : State) (a : Resp) (v : Win) :
    ((s.readClear a).win v).slotA = (s.win v).slotA ∧ ((s.readClear a).win v).slotB = (s.win v).slotB ∧
    ((s.readClear a).win v).active = (s.win v).active ∧ ((s.readClear a).win v).state = (s.win v).state ∧
    ((s.readClear a).win v).valid = (s.win v).valid ∧ ((s.readClear a).win v).held = (s.win v).held ∧
    ((s.readClear a).win v).safe = (s.win v).safe ∧ ((s.readClear a).win v).swapPending = (s.win v).swapPending ∧
    ((s.readClear a).win v).fence = (s.win v).fence ∧
    ((s.readClear a).win v).switchPending = (s.win v).switchPending ∧
    ((s.readClear a).win v).role = (s.win v).role ∧ ((s.readClear a).win v).fill = (s.win v).fill ∧
    ((s.readClear a).win v).miss = (s.win v).miss ∧ ((s.readClear a).win v).lost = (s.win v).lost ∧
    ((s.readClear a).win v).blocked = (s.win v).blocked ∧ ((s.readClear a).win v).drops = (s.win v).drops ∧
    ((s.readClear a).win v).lastSwap = (s.win v).lastSwap ∧ ((s.readClear a).win v).refusal = (s.win v).refusal ∧
    ((s.readClear a).win v).carry = (s.win v).carry ∧ ((s.readClear a).win v).coalesced = (s.win v).coalesced := by
  unfold State.readClear; split <;> simp [-win_endJob, -win_event, -win_drop, -win_dropEvent, -win_enqueueNotice]

/-- Items that `pAccessComplete` keeps. -/
@[simp] theorem pAccessComplete_fields (s : State) (r : Resp) (v : Win) :
    ((s.pAccessComplete r).win v).slotA = (s.win v).slotA ∧ ((s.pAccessComplete r).win v).slotB = (s.win v).slotB ∧
    ((s.pAccessComplete r).win v).active = (s.win v).active ∧
    ((s.pAccessComplete r).win v).state = (s.win v).state ∧ ((s.pAccessComplete r).win v).valid = (s.win v).valid ∧
    ((s.pAccessComplete r).win v).held = (s.win v).held ∧ ((s.pAccessComplete r).win v).safe = (s.win v).safe ∧
    ((s.pAccessComplete r).win v).swapPending = (s.win v).swapPending ∧
    ((s.pAccessComplete r).win v).fence = (s.win v).fence ∧
    ((s.pAccessComplete r).win v).switchPending = (s.win v).switchPending ∧
    ((s.pAccessComplete r).win v).role = (s.win v).role ∧ ((s.pAccessComplete r).win v).fill = (s.win v).fill ∧
    ((s.pAccessComplete r).win v).miss = (s.win v).miss ∧ ((s.pAccessComplete r).win v).lost = (s.win v).lost ∧
    ((s.pAccessComplete r).win v).blocked = (s.win v).blocked ∧
    ((s.pAccessComplete r).win v).drops = (s.win v).drops ∧
    ((s.pAccessComplete r).win v).lastSwap = (s.win v).lastSwap ∧
    ((s.pAccessComplete r).win v).events = (s.win v).events ∧
    ((s.pAccessComplete r).win v).published = (s.win v).published ∧
    ((s.pAccessComplete r).win v).refusal = (s.win v).refusal ∧
    ((s.pAccessComplete r).win v).carry = (s.win v).carry ∧
    ((s.pAccessComplete r).win v).coalesced = (s.win v).coalesced := by
  unfold State.pAccessComplete
  split
  · split <;> simp [-win_endJob, -win_event, -win_drop, -win_dropEvent, -win_enqueueNotice]
  · simp [-win_endJob, -win_event, -win_drop, -win_dropEvent, -win_enqueueNotice]

/-- Items that `fAccessComplete` keeps. -/
@[simp] theorem fAccessComplete_fields (s : State) (r : Resp) (v : Win) :
    ((s.fAccessComplete r).win v).slotA = (s.win v).slotA ∧ ((s.fAccessComplete r).win v).slotB = (s.win v).slotB ∧
    ((s.fAccessComplete r).win v).active = (s.win v).active ∧
    ((s.fAccessComplete r).win v).state = (s.win v).state ∧ ((s.fAccessComplete r).win v).valid = (s.win v).valid ∧
    ((s.fAccessComplete r).win v).held = (s.win v).held ∧ ((s.fAccessComplete r).win v).safe = (s.win v).safe ∧
    ((s.fAccessComplete r).win v).swapPending = (s.win v).swapPending ∧
    ((s.fAccessComplete r).win v).fence = (s.win v).fence ∧
    ((s.fAccessComplete r).win v).switchPending = (s.win v).switchPending ∧
    ((s.fAccessComplete r).win v).role = (s.win v).role ∧ ((s.fAccessComplete r).win v).fill = (s.win v).fill ∧
    ((s.fAccessComplete r).win v).miss = (s.win v).miss ∧ ((s.fAccessComplete r).win v).lost = (s.win v).lost ∧
    ((s.fAccessComplete r).win v).blocked = (s.win v).blocked ∧
    ((s.fAccessComplete r).win v).drops = (s.win v).drops ∧
    ((s.fAccessComplete r).win v).lastSwap = (s.win v).lastSwap ∧
    ((s.fAccessComplete r).win v).events = (s.win v).events ∧
    ((s.fAccessComplete r).win v).published = (s.win v).published ∧
    ((s.fAccessComplete r).win v).refusal = (s.win v).refusal ∧
    ((s.fAccessComplete r).win v).carry = (s.win v).carry ∧
    ((s.fAccessComplete r).win v).coalesced = (s.win v).coalesced := by
  unfold State.fAccessComplete
  split
  · split <;> simp [-win_endJob, -win_event, -win_drop, -win_dropEvent, -win_enqueueNotice]
  · simp [-win_endJob, -win_event, -win_drop, -win_dropEvent, -win_enqueueNotice]

/-- Items that `mergePairComplete` keeps. -/
@[simp] theorem mergePairComplete_fields (s : State) (r : Resp) (v : Win) :
    ((s.mergePairComplete r).win v).slotA = (s.win v).slotA ∧
    ((s.mergePairComplete r).win v).slotB = (s.win v).slotB ∧
    ((s.mergePairComplete r).win v).active = (s.win v).active ∧
    ((s.mergePairComplete r).win v).state = (s.win v).state ∧
    ((s.mergePairComplete r).win v).valid = (s.win v).valid ∧
    ((s.mergePairComplete r).win v).held = (s.win v).held ∧ ((s.mergePairComplete r).win v).safe = (s.win v).safe ∧
    ((s.mergePairComplete r).win v).swapPending = (s.win v).swapPending ∧
    ((s.mergePairComplete r).win v).fence = (s.win v).fence ∧
    ((s.mergePairComplete r).win v).switchPending = (s.win v).switchPending ∧
    ((s.mergePairComplete r).win v).role = (s.win v).role ∧ ((s.mergePairComplete r).win v).fill = (s.win v).fill ∧
    ((s.mergePairComplete r).win v).miss = (s.win v).miss ∧ ((s.mergePairComplete r).win v).lost = (s.win v).lost ∧
    ((s.mergePairComplete r).win v).blocked = (s.win v).blocked ∧
    ((s.mergePairComplete r).win v).lastSwap = (s.win v).lastSwap ∧
    ((s.mergePairComplete r).win v).published = (s.win v).published ∧
    ((s.mergePairComplete r).win v).refusal = (s.win v).refusal ∧
    ((s.mergePairComplete r).win v).carry = (s.win v).carry ∧
    ((s.mergePairComplete r).win v).coalesced = (s.win v).coalesced := by
  unfold State.mergePairComplete
  split
  · split <;> simp [-win_endJob, -win_event, -win_drop, -win_dropEvent, -win_enqueueNotice]
  · split <;> simp [-win_endJob, -win_event, -win_drop, -win_dropEvent, -win_enqueueNotice]
  · simp [-win_endJob, -win_event, -win_drop, -win_dropEvent, -win_enqueueNotice]

/-- Items that `carryNext` keeps. -/
@[simp] theorem carryNext_fields (s : State) (w : Win) (v : Win) :
    ((s.carryNext w).win v).slotA = (s.win v).slotA ∧ ((s.carryNext w).win v).slotB = (s.win v).slotB ∧
    ((s.carryNext w).win v).active = (s.win v).active ∧ ((s.carryNext w).win v).state = (s.win v).state ∧
    ((s.carryNext w).win v).valid = (s.win v).valid ∧ ((s.carryNext w).win v).held = (s.win v).held ∧
    ((s.carryNext w).win v).safe = (s.win v).safe ∧ ((s.carryNext w).win v).swapPending = (s.win v).swapPending ∧
    ((s.carryNext w).win v).fence = (s.win v).fence ∧
    ((s.carryNext w).win v).switchPending = (s.win v).switchPending ∧
    ((s.carryNext w).win v).role = (s.win v).role ∧ ((s.carryNext w).win v).fill = (s.win v).fill ∧
    ((s.carryNext w).win v).miss = (s.win v).miss ∧ ((s.carryNext w).win v).lost = (s.win v).lost ∧
    ((s.carryNext w).win v).blocked = (s.win v).blocked ∧ ((s.carryNext w).win v).drops = (s.win v).drops ∧
    ((s.carryNext w).win v).lastSwap = (s.win v).lastSwap ∧ ((s.carryNext w).win v).events = (s.win v).events ∧
    ((s.carryNext w).win v).published = (s.win v).published ∧ ((s.carryNext w).win v).refusal = (s.win v).refusal ∧
    ((s.carryNext w).win v).carry = (s.win v).carry ∧ ((s.carryNext w).win v).coalesced = (s.win v).coalesced := by
  unfold State.carryNext; split <;> simp [-win_endJob, -win_event, -win_drop, -win_dropEvent, -win_enqueueNotice]

/-- Items that `loopNext` keeps. -/
@[simp] theorem loopNext_fields (s : State) (d q : Win) (k : Nat) (v : Win) :
    ((s.loopNext d q k).win v).slotA = (s.win v).slotA ∧ ((s.loopNext d q k).win v).slotB = (s.win v).slotB ∧
    ((s.loopNext d q k).win v).active = (s.win v).active ∧ ((s.loopNext d q k).win v).state = (s.win v).state ∧
    ((s.loopNext d q k).win v).valid = (s.win v).valid ∧ ((s.loopNext d q k).win v).held = (s.win v).held ∧
    ((s.loopNext d q k).win v).safe = (s.win v).safe ∧
    ((s.loopNext d q k).win v).swapPending = (s.win v).swapPending ∧
    ((s.loopNext d q k).win v).fence = (s.win v).fence ∧
    ((s.loopNext d q k).win v).switchPending = (s.win v).switchPending ∧
    ((s.loopNext d q k).win v).role = (s.win v).role ∧ ((s.loopNext d q k).win v).fill = (s.win v).fill ∧
    ((s.loopNext d q k).win v).miss = (s.win v).miss ∧ ((s.loopNext d q k).win v).lost = (s.win v).lost ∧
    ((s.loopNext d q k).win v).blocked = (s.win v).blocked ∧ ((s.loopNext d q k).win v).drops = (s.win v).drops ∧
    ((s.loopNext d q k).win v).lastSwap = (s.win v).lastSwap ∧
    ((s.loopNext d q k).win v).published = (s.win v).published ∧
    ((s.loopNext d q k).win v).refusal = (s.win v).refusal ∧ ((s.loopNext d q k).win v).carry = (s.win v).carry ∧
    ((s.loopNext d q k).win v).coalesced = (s.win v).coalesced := by
  unfold State.loopNext
  split
  · simp [-win_endJob, -win_event, -win_drop, -win_dropEvent, -win_enqueueNotice]
  · split
    · simp [-win_endJob, -win_event, -win_drop, -win_dropEvent, -win_enqueueNotice]
    · split
      · simp [-win_endJob, -win_event, -win_drop, -win_dropEvent, -win_enqueueNotice, State.endLoopNosrc]
      · split <;> simp [-win_endJob, -win_event, -win_drop, -win_dropEvent, -win_enqueueNotice]

/-- Items that `jobNext` keeps. -/
@[simp] theorem jobNext_fields (s : State) (v : Win) :
    ((s.jobNext).win v).slotA = (s.win v).slotA ∧ ((s.jobNext).win v).slotB = (s.win v).slotB ∧
    ((s.jobNext).win v).active = (s.win v).active ∧ ((s.jobNext).win v).state = (s.win v).state ∧
    ((s.jobNext).win v).valid = (s.win v).valid ∧ ((s.jobNext).win v).held = (s.win v).held ∧
    ((s.jobNext).win v).safe = (s.win v).safe ∧ ((s.jobNext).win v).swapPending = (s.win v).swapPending ∧
    ((s.jobNext).win v).fence = (s.win v).fence ∧ ((s.jobNext).win v).switchPending = (s.win v).switchPending ∧
    ((s.jobNext).win v).role = (s.win v).role ∧ ((s.jobNext).win v).fill = (s.win v).fill ∧
    ((s.jobNext).win v).miss = (s.win v).miss ∧ ((s.jobNext).win v).lost = (s.win v).lost ∧
    ((s.jobNext).win v).blocked = (s.win v).blocked ∧ ((s.jobNext).win v).drops = (s.win v).drops ∧
    ((s.jobNext).win v).lastSwap = (s.win v).lastSwap ∧ ((s.jobNext).win v).published = (s.win v).published ∧
    ((s.jobNext).win v).refusal = (s.win v).refusal ∧ ((s.jobNext).win v).carry = (s.win v).carry ∧
    ((s.jobNext).win v).coalesced = (s.win v).coalesced := by
  unfold State.jobNext
  split
  · simp [-win_endJob, -win_event, -win_drop, -win_dropEvent, -win_enqueueNotice]
  · split <;> simp [-win_endJob, -win_event, -win_drop, -win_dropEvent, -win_enqueueNotice]

/-- Items that `startJob` keeps. -/
@[simp] theorem startJob_fields (s : State) (v : Win) :
    ((s.startJob).win v).slotA = (s.win v).slotA ∧ ((s.startJob).win v).slotB = (s.win v).slotB ∧
    ((s.startJob).win v).active = (s.win v).active ∧ ((s.startJob).win v).state = (s.win v).state ∧
    ((s.startJob).win v).valid = (s.win v).valid ∧ ((s.startJob).win v).held = (s.win v).held ∧
    ((s.startJob).win v).safe = (s.win v).safe ∧ ((s.startJob).win v).swapPending = (s.win v).swapPending ∧
    ((s.startJob).win v).fence = (s.win v).fence ∧ ((s.startJob).win v).switchPending = (s.win v).switchPending ∧
    ((s.startJob).win v).role = (s.win v).role ∧ ((s.startJob).win v).fill = (s.win v).fill ∧
    ((s.startJob).win v).miss = (s.win v).miss ∧ ((s.startJob).win v).lost = (s.win v).lost ∧
    ((s.startJob).win v).blocked = (s.win v).blocked ∧ ((s.startJob).win v).drops = (s.win v).drops ∧
    ((s.startJob).win v).lastSwap = (s.win v).lastSwap ∧ ((s.startJob).win v).published = (s.win v).published ∧
    ((s.startJob).win v).refusal = (s.win v).refusal ∧ ((s.startJob).win v).carry = (s.win v).carry ∧
    ((s.startJob).win v).coalesced = (s.win v).coalesced := by
  unfold State.startJob
  split
  · simp [-win_endJob, -win_event, -win_drop, -win_dropEvent, -win_enqueueNotice]
  · simp only [jobNext_fields]; exact ⟨rfl, rfl, rfl, rfl, rfl, rfl, rfl, rfl, rfl, rfl, rfl, rfl, rfl, rfl, rfl, rfl, rfl, rfl, rfl, rfl, rfl⟩

/-- Items that `carryFailed` keeps. -/
@[simp] theorem carryFailed_fields (s : State) (w : Win) (v : Win) :
    ((s.carryFailed w).win v).slotA = (s.win v).slotA ∧ ((s.carryFailed w).win v).slotB = (s.win v).slotB ∧
    ((s.carryFailed w).win v).active = (s.win v).active ∧ ((s.carryFailed w).win v).valid = (s.win v).valid ∧
    ((s.carryFailed w).win v).held = (s.win v).held ∧ ((s.carryFailed w).win v).safe = (s.win v).safe ∧
    ((s.carryFailed w).win v).fence = (s.win v).fence ∧
    ((s.carryFailed w).win v).switchPending = (s.win v).switchPending ∧
    ((s.carryFailed w).win v).role = (s.win v).role ∧ ((s.carryFailed w).win v).fill = (s.win v).fill ∧
    ((s.carryFailed w).win v).miss = (s.win v).miss ∧ ((s.carryFailed w).win v).lost = (s.win v).lost ∧
    ((s.carryFailed w).win v).blocked = (s.win v).blocked ∧ ((s.carryFailed w).win v).drops = (s.win v).drops ∧
    ((s.carryFailed w).win v).lastSwap = (s.win v).lastSwap ∧ ((s.carryFailed w).win v).events = (s.win v).events ∧
    ((s.carryFailed w).win v).published = (s.win v).published ∧
    ((s.carryFailed w).win v).refusal = (s.win v).refusal := by
  unfold State.carryFailed; split <;> simp [-win_endJob, -win_event, -win_drop, -win_dropEvent, -win_enqueueNotice]

/-- Items that `carryDone` keeps. -/
@[simp] theorem carryDone_fields (s : State) (w : Win) (k : Nat) (v : Win) :
    ((s.carryDone w k).win v).slotA = (s.win v).slotA ∧ ((s.carryDone w k).win v).slotB = (s.win v).slotB ∧
    ((s.carryDone w k).win v).active = (s.win v).active ∧ ((s.carryDone w k).win v).state = (s.win v).state ∧
    ((s.carryDone w k).win v).valid = (s.win v).valid ∧ ((s.carryDone w k).win v).held = (s.win v).held ∧
    ((s.carryDone w k).win v).safe = (s.win v).safe ∧
    ((s.carryDone w k).win v).swapPending = (s.win v).swapPending ∧
    ((s.carryDone w k).win v).fence = (s.win v).fence ∧
    ((s.carryDone w k).win v).switchPending = (s.win v).switchPending ∧
    ((s.carryDone w k).win v).role = (s.win v).role ∧ ((s.carryDone w k).win v).fill = (s.win v).fill ∧
    ((s.carryDone w k).win v).miss = (s.win v).miss ∧ ((s.carryDone w k).win v).lost = (s.win v).lost ∧
    ((s.carryDone w k).win v).blocked = (s.win v).blocked ∧ ((s.carryDone w k).win v).drops = (s.win v).drops ∧
    ((s.carryDone w k).win v).lastSwap = (s.win v).lastSwap ∧
    ((s.carryDone w k).win v).published = (s.win v).published ∧
    ((s.carryDone w k).win v).refusal = (s.win v).refusal ∧
    ((s.carryDone w k).win v).coalesced = (s.win v).coalesced := by
  unfold State.carryDone; split <;> by_cases h : v = w <;> simp [-win_endJob, -win_event, -win_drop, -win_dropEvent, -win_enqueueNotice, h]

/-- Items that `loopFailed` keeps. -/
@[simp] theorem loopFailed_fields (s : State) (d : Win) (v : Win) :
    ((s.loopFailed d).win v).slotA = (s.win v).slotA ∧ ((s.loopFailed d).win v).slotB = (s.win v).slotB ∧
    ((s.loopFailed d).win v).active = (s.win v).active ∧ ((s.loopFailed d).win v).valid = (s.win v).valid ∧
    ((s.loopFailed d).win v).held = (s.win v).held ∧ ((s.loopFailed d).win v).safe = (s.win v).safe ∧
    ((s.loopFailed d).win v).swapPending = (s.win v).swapPending ∧
    ((s.loopFailed d).win v).fence = (s.win v).fence ∧
    ((s.loopFailed d).win v).switchPending = (s.win v).switchPending ∧
    ((s.loopFailed d).win v).role = (s.win v).role ∧ ((s.loopFailed d).win v).fill = (s.win v).fill ∧
    ((s.loopFailed d).win v).miss = (s.win v).miss ∧ ((s.loopFailed d).win v).lost = (s.win v).lost ∧
    ((s.loopFailed d).win v).blocked = (s.win v).blocked ∧ ((s.loopFailed d).win v).drops = (s.win v).drops ∧
    ((s.loopFailed d).win v).lastSwap = (s.win v).lastSwap ∧ ((s.loopFailed d).win v).events = (s.win v).events ∧
    ((s.loopFailed d).win v).published = (s.win v).published ∧
    ((s.loopFailed d).win v).refusal = (s.win v).refusal ∧ ((s.loopFailed d).win v).carry = (s.win v).carry ∧
    ((s.loopFailed d).win v).coalesced = (s.win v).coalesced := by
  unfold State.loopFailed
  split
  · split <;> simp [-win_endJob, -win_event, -win_drop, -win_dropEvent, -win_enqueueNotice]
  · simp [-win_endJob, -win_event, -win_drop, -win_dropEvent, -win_enqueueNotice]

/-- A loop job past its word changes no record. -/
@[simp] theorem win_loopAdvance (s : State) (v : Win) : s.loopAdvance.win v = s.win v := win_congr (by simp [-win_endJob, -win_event, -win_drop, -win_dropEvent, -win_enqueueNotice]) v

/-- Items that `loopDone` keeps. -/
@[simp] theorem loopDone_fields (s : State) (d : Win) (v : Win) :
    ((s.loopDone d).win v).slotA = (s.win v).slotA ∧ ((s.loopDone d).win v).slotB = (s.win v).slotB ∧
    ((s.loopDone d).win v).active = (s.win v).active ∧ ((s.loopDone d).win v).valid = (s.win v).valid ∧
    ((s.loopDone d).win v).held = (s.win v).held ∧ ((s.loopDone d).win v).safe = (s.win v).safe ∧
    ((s.loopDone d).win v).swapPending = (s.win v).swapPending ∧ ((s.loopDone d).win v).fence = (s.win v).fence ∧
    ((s.loopDone d).win v).switchPending = (s.win v).switchPending ∧ ((s.loopDone d).win v).role = (s.win v).role ∧
    ((s.loopDone d).win v).miss = (s.win v).miss ∧ ((s.loopDone d).win v).lost = (s.win v).lost ∧
    ((s.loopDone d).win v).blocked = (s.win v).blocked ∧ ((s.loopDone d).win v).drops = (s.win v).drops ∧
    ((s.loopDone d).win v).lastSwap = (s.win v).lastSwap ∧ ((s.loopDone d).win v).published = (s.win v).published ∧
    ((s.loopDone d).win v).refusal = (s.win v).refusal ∧ ((s.loopDone d).win v).carry = (s.win v).carry ∧
    ((s.loopDone d).win v).coalesced = (s.win v).coalesced := by
  unfold State.loopDone
  split
  · split
    · by_cases h : v = d <;> simp [-win_endJob, -win_event, -win_drop, -win_dropEvent, -win_enqueueNotice, h]
    · simp [-win_endJob, -win_event, -win_drop, -win_dropEvent, -win_enqueueNotice]
  · simp [-win_endJob, -win_event, -win_drop, -win_dropEvent, -win_enqueueNotice]

/-- Items that `loopPairComplete` keeps. -/
@[simp] theorem loopPairComplete_fields (s : State) (r : Resp) (v : Win) :
    ((s.loopPairComplete r).win v).slotA = (s.win v).slotA ∧
    ((s.loopPairComplete r).win v).slotB = (s.win v).slotB ∧
    ((s.loopPairComplete r).win v).active = (s.win v).active ∧
    ((s.loopPairComplete r).win v).valid = (s.win v).valid ∧ ((s.loopPairComplete r).win v).held = (s.win v).held ∧
    ((s.loopPairComplete r).win v).safe = (s.win v).safe ∧
    ((s.loopPairComplete r).win v).swapPending = (s.win v).swapPending ∧
    ((s.loopPairComplete r).win v).fence = (s.win v).fence ∧
    ((s.loopPairComplete r).win v).switchPending = (s.win v).switchPending ∧
    ((s.loopPairComplete r).win v).role = (s.win v).role ∧ ((s.loopPairComplete r).win v).miss = (s.win v).miss ∧
    ((s.loopPairComplete r).win v).lost = (s.win v).lost ∧
    ((s.loopPairComplete r).win v).blocked = (s.win v).blocked ∧
    ((s.loopPairComplete r).win v).drops = (s.win v).drops ∧
    ((s.loopPairComplete r).win v).lastSwap = (s.win v).lastSwap ∧
    ((s.loopPairComplete r).win v).published = (s.win v).published ∧
    ((s.loopPairComplete r).win v).refusal = (s.win v).refusal ∧
    ((s.loopPairComplete r).win v).carry = (s.win v).carry ∧
    ((s.loopPairComplete r).win v).coalesced = (s.win v).coalesced := by
  have hm : ∀ r (t : State) a b c, (State.memAnswered r t a b c).win v = t.win v := fun r t a b c => win_congr (by simp [-win_endJob, -win_event, -win_drop, -win_dropEvent, -win_enqueueNotice]) v
  unfold State.loopPairComplete
  split
  · split <;> simp [-win_endJob, -win_event, -win_drop, -win_dropEvent, -win_enqueueNotice]
  · split <;> simp [-win_endJob, -win_event, -win_drop, -win_dropEvent, -win_enqueueNotice]
  · split <;> simp [-win_endJob, -win_event, -win_drop, -win_dropEvent, -win_enqueueNotice, hm]
  · simp [-win_endJob, -win_event, -win_drop, -win_dropEvent, -win_enqueueNotice]

/-! ## Loads, write-backs, notices -/

/-- Items that `fillSlot` keeps where it fills one slot alone. -/
@[simp] theorem fillSlot_putSlot_fields (s : State) (w : Win) (n : SlotName) (l : List Word) (v : Win) :
    ((s.fillSlot w (putSlot n) l).win v).active = (s.win v).active ∧
    ((s.fillSlot w (putSlot n) l).win v).state = (s.win v).state ∧
    ((s.fillSlot w (putSlot n) l).win v).valid = (s.win v).valid ∧
    ((s.fillSlot w (putSlot n) l).win v).held = (s.win v).held ∧
    ((s.fillSlot w (putSlot n) l).win v).safe = (s.win v).safe ∧
    ((s.fillSlot w (putSlot n) l).win v).swapPending = (s.win v).swapPending ∧
    ((s.fillSlot w (putSlot n) l).win v).fence = (s.win v).fence ∧
    ((s.fillSlot w (putSlot n) l).win v).switchPending = (s.win v).switchPending ∧
    ((s.fillSlot w (putSlot n) l).win v).role = (s.win v).role ∧
    ((s.fillSlot w (putSlot n) l).win v).fill = (s.win v).fill ∧
    ((s.fillSlot w (putSlot n) l).win v).miss = (s.win v).miss ∧
    ((s.fillSlot w (putSlot n) l).win v).lost = (s.win v).lost ∧
    ((s.fillSlot w (putSlot n) l).win v).blocked = (s.win v).blocked ∧
    ((s.fillSlot w (putSlot n) l).win v).drops = (s.win v).drops ∧
    ((s.fillSlot w (putSlot n) l).win v).lastSwap = (s.win v).lastSwap ∧
    ((s.fillSlot w (putSlot n) l).win v).published = (s.win v).published ∧
    ((s.fillSlot w (putSlot n) l).win v).refusal = (s.win v).refusal ∧
    ((s.fillSlot w (putSlot n) l).win v).carry = (s.win v).carry ∧
    ((s.fillSlot w (putSlot n) l).win v).waitSet = (s.win v).waitSet ∧
    ((s.fillSlot w (putSlot n) l).win v).coalesced = (s.win v).coalesced := by
  unfold State.fillSlot putSlot; split <;> by_cases h : v = w <;> simp [-win_endJob, -win_event, -win_drop, -win_dropEvent, -win_enqueueNotice, h]

/-- Items that `fillSlot` keeps in the START load. -/
@[simp] theorem fillSlot_loadSlotOf_fields (s : State) (w : Win) (n : SlotName) (l : List Word) (v : Win) :
    ((s.fillSlot w (loadSlotOf n) l).win v).active = (s.win v).active ∧
    ((s.fillSlot w (loadSlotOf n) l).win v).state = (s.win v).state ∧
    ((s.fillSlot w (loadSlotOf n) l).win v).valid = (s.win v).valid ∧
    ((s.fillSlot w (loadSlotOf n) l).win v).swapPending = (s.win v).swapPending ∧
    ((s.fillSlot w (loadSlotOf n) l).win v).fence = (s.win v).fence ∧
    ((s.fillSlot w (loadSlotOf n) l).win v).switchPending = (s.win v).switchPending ∧
    ((s.fillSlot w (loadSlotOf n) l).win v).role = (s.win v).role ∧
    ((s.fillSlot w (loadSlotOf n) l).win v).miss = (s.win v).miss ∧
    ((s.fillSlot w (loadSlotOf n) l).win v).lost = (s.win v).lost ∧
    ((s.fillSlot w (loadSlotOf n) l).win v).blocked = (s.win v).blocked ∧
    ((s.fillSlot w (loadSlotOf n) l).win v).drops = (s.win v).drops ∧
    ((s.fillSlot w (loadSlotOf n) l).win v).lastSwap = (s.win v).lastSwap ∧
    ((s.fillSlot w (loadSlotOf n) l).win v).published = (s.win v).published ∧
    ((s.fillSlot w (loadSlotOf n) l).win v).refusal = (s.win v).refusal ∧
    ((s.fillSlot w (loadSlotOf n) l).win v).carry = (s.win v).carry ∧
    ((s.fillSlot w (loadSlotOf n) l).win v).waitSet = (s.win v).waitSet ∧
    ((s.fillSlot w (loadSlotOf n) l).win v).coalesced = (s.win v).coalesced := by
  cases n <;> unfold State.fillSlot loadSlotOf <;> split <;> by_cases h : v = w <;>
    simp [-win_endJob, -win_event, -win_drop, -win_dropEvent, -win_enqueueNotice, h]

/-- The load's own record is no window record. -/
@[simp] theorem win_setLoad (s : State) (l : Option StartLoad) (v : Win) : (s.setLoad l).win v = s.win v := rfl

/-- The fetch's own record is no window record. -/
@[simp] theorem win_setFetch (s : State) (f : Option Fetch) (v : Win) : (s.setFetch f).win v = s.win v := rfl

/-- Items that `loadRecord` keeps. -/
@[simp] theorem loadRecord_fields (s : State) (l : StartLoad) (n : Nat) (ws : List Word) (v : Win) :
    ((s.loadRecord l n ws).win v).active = (s.win v).active ∧ ((s.loadRecord l n ws).win v).state = (s.win v).state ∧
    ((s.loadRecord l n ws).win v).valid = (s.win v).valid ∧
    ((s.loadRecord l n ws).win v).swapPending = (s.win v).swapPending ∧
    ((s.loadRecord l n ws).win v).fence = (s.win v).fence ∧
    ((s.loadRecord l n ws).win v).switchPending = (s.win v).switchPending ∧
    ((s.loadRecord l n ws).win v).role = (s.win v).role ∧ ((s.loadRecord l n ws).win v).miss = (s.win v).miss ∧
    ((s.loadRecord l n ws).win v).lost = (s.win v).lost ∧ ((s.loadRecord l n ws).win v).blocked = (s.win v).blocked ∧
    ((s.loadRecord l n ws).win v).drops = (s.win v).drops ∧
    ((s.loadRecord l n ws).win v).lastSwap = (s.win v).lastSwap ∧
    ((s.loadRecord l n ws).win v).published = (s.win v).published ∧
    ((s.loadRecord l n ws).win v).refusal = (s.win v).refusal ∧
    ((s.loadRecord l n ws).win v).carry = (s.win v).carry ∧
    ((s.loadRecord l n ws).win v).waitSet = (s.win v).waitSet ∧
    ((s.loadRecord l n ws).win v).coalesced = (s.win v).coalesced := by
  unfold State.loadRecord
  split
  · split <;> simp [-win_endJob, -win_event, -win_drop, -win_dropEvent, -win_enqueueNotice]
  · simp [-win_endJob, -win_event, -win_drop, -win_dropEvent, -win_enqueueNotice]

/-- Items that `loadWord` keeps. -/
@[simp] theorem loadWord_fields (s : State) (l : StartLoad) (x : Word) (v : Win) :
    ((s.loadWord l x).win v).active = (s.win v).active ∧ ((s.loadWord l x).win v).state = (s.win v).state ∧
    ((s.loadWord l x).win v).valid = (s.win v).valid ∧ ((s.loadWord l x).win v).swapPending = (s.win v).swapPending ∧
    ((s.loadWord l x).win v).fence = (s.win v).fence ∧
    ((s.loadWord l x).win v).switchPending = (s.win v).switchPending ∧
    ((s.loadWord l x).win v).role = (s.win v).role ∧ ((s.loadWord l x).win v).miss = (s.win v).miss ∧
    ((s.loadWord l x).win v).lost = (s.win v).lost ∧ ((s.loadWord l x).win v).blocked = (s.win v).blocked ∧
    ((s.loadWord l x).win v).drops = (s.win v).drops ∧ ((s.loadWord l x).win v).lastSwap = (s.win v).lastSwap ∧
    ((s.loadWord l x).win v).published = (s.win v).published ∧ ((s.loadWord l x).win v).refusal = (s.win v).refusal ∧
    ((s.loadWord l x).win v).carry = (s.win v).carry ∧ ((s.loadWord l x).win v).waitSet = (s.win v).waitSet ∧
    ((s.loadWord l x).win v).coalesced = (s.win v).coalesced := by
  unfold State.loadWord; split <;> simp [-win_endJob, -win_event, -win_drop, -win_dropEvent, -win_enqueueNotice]

/-- Items that `loadAnswered` keeps. -/
@[simp] theorem loadAnswered_fields (s : State) (r : Resp) (x : Word) (v : Win) :
    ((s.loadAnswered r x).win v).active = (s.win v).active ∧ ((s.loadAnswered r x).win v).state = (s.win v).state ∧
    ((s.loadAnswered r x).win v).valid = (s.win v).valid ∧
    ((s.loadAnswered r x).win v).swapPending = (s.win v).swapPending ∧
    ((s.loadAnswered r x).win v).fence = (s.win v).fence ∧
    ((s.loadAnswered r x).win v).switchPending = (s.win v).switchPending ∧
    ((s.loadAnswered r x).win v).role = (s.win v).role ∧ ((s.loadAnswered r x).win v).miss = (s.win v).miss ∧
    ((s.loadAnswered r x).win v).lost = (s.win v).lost ∧ ((s.loadAnswered r x).win v).blocked = (s.win v).blocked ∧
    ((s.loadAnswered r x).win v).drops = (s.win v).drops ∧
    ((s.loadAnswered r x).win v).lastSwap = (s.win v).lastSwap ∧
    ((s.loadAnswered r x).win v).published = (s.win v).published ∧
    ((s.loadAnswered r x).win v).refusal = (s.win v).refusal ∧ ((s.loadAnswered r x).win v).carry = (s.win v).carry ∧
    ((s.loadAnswered r x).win v).waitSet = (s.win v).waitSet ∧
    ((s.loadAnswered r x).win v).coalesced = (s.win v).coalesced := by
  unfold State.loadAnswered
  split
  · simp [-win_endJob, -win_event, -win_drop, -win_dropEvent, -win_enqueueNotice]
  · split
    · simp [-win_endJob, -win_event, -win_drop, -win_dropEvent, -win_enqueueNotice]
    · split <;> simp [-win_endJob, -win_event, -win_drop, -win_dropEvent, -win_enqueueNotice]

/-- Items that `loadReadComplete` keeps. -/
@[simp] theorem loadReadComplete_fields (s : State) (r : Resp) (v : Win) :
    ((s.loadReadComplete r).win v).active = (s.win v).active ∧
    ((s.loadReadComplete r).win v).state = (s.win v).state ∧ ((s.loadReadComplete r).win v).valid = (s.win v).valid ∧
    ((s.loadReadComplete r).win v).swapPending = (s.win v).swapPending ∧
    ((s.loadReadComplete r).win v).fence = (s.win v).fence ∧
    ((s.loadReadComplete r).win v).switchPending = (s.win v).switchPending ∧
    ((s.loadReadComplete r).win v).role = (s.win v).role ∧ ((s.loadReadComplete r).win v).miss = (s.win v).miss ∧
    ((s.loadReadComplete r).win v).lost = (s.win v).lost ∧
    ((s.loadReadComplete r).win v).blocked = (s.win v).blocked ∧
    ((s.loadReadComplete r).win v).drops = (s.win v).drops ∧
    ((s.loadReadComplete r).win v).lastSwap = (s.win v).lastSwap ∧
    ((s.loadReadComplete r).win v).published = (s.win v).published ∧
    ((s.loadReadComplete r).win v).refusal = (s.win v).refusal ∧
    ((s.loadReadComplete r).win v).carry = (s.win v).carry ∧
    ((s.loadReadComplete r).win v).waitSet = (s.win v).waitSet ∧
    ((s.loadReadComplete r).win v).coalesced = (s.win v).coalesced := by
  unfold State.loadReadComplete
  split
  · split <;> simp [-win_endJob, -win_event, -win_drop, -win_dropEvent, -win_enqueueNotice]
  · simp [-win_endJob, -win_event, -win_drop, -win_dropEvent, -win_enqueueNotice]

/-- Items that `endFetch` keeps. -/
@[simp] theorem endFetch_fields (s : State) (v : Win) :
    ((s.endFetch).win v).active = (s.win v).active ∧ ((s.endFetch).win v).state = (s.win v).state ∧
    ((s.endFetch).win v).valid = (s.win v).valid ∧ ((s.endFetch).win v).held = (s.win v).held ∧
    ((s.endFetch).win v).safe = (s.win v).safe ∧ ((s.endFetch).win v).swapPending = (s.win v).swapPending ∧
    ((s.endFetch).win v).fence = (s.win v).fence ∧ ((s.endFetch).win v).switchPending = (s.win v).switchPending ∧
    ((s.endFetch).win v).role = (s.win v).role ∧ ((s.endFetch).win v).fill = (s.win v).fill ∧
    ((s.endFetch).win v).miss = (s.win v).miss ∧ ((s.endFetch).win v).lost = (s.win v).lost ∧
    ((s.endFetch).win v).blocked = (s.win v).blocked ∧ ((s.endFetch).win v).drops = (s.win v).drops ∧
    ((s.endFetch).win v).lastSwap = (s.win v).lastSwap ∧ ((s.endFetch).win v).published = (s.win v).published ∧
    ((s.endFetch).win v).refusal = (s.win v).refusal ∧ ((s.endFetch).win v).carry = (s.win v).carry ∧
    ((s.endFetch).win v).waitSet = (s.win v).waitSet ∧ ((s.endFetch).win v).coalesced = (s.win v).coalesced := by
  unfold State.endFetch
  simp only
  split
  · simp only [win_record]; exact ⟨rfl, rfl, rfl, rfl, rfl, rfl, rfl, rfl, rfl, rfl, rfl, rfl, rfl, rfl, rfl, rfl, rfl, rfl, rfl, rfl⟩
  · simp only [startFetch_fields]; exact ⟨rfl, rfl, rfl, rfl, rfl, rfl, rfl, rfl, rfl, rfl, rfl, rfl, rfl, rfl, rfl, rfl, rfl, rfl, rfl, rfl⟩

/-- Items that `fetchWord` keeps. -/
@[simp] theorem fetchWord_fields (s : State) (f : Fetch) (x : Word) (v : Win) :
    ((s.fetchWord f x).win v).active = (s.win v).active ∧ ((s.fetchWord f x).win v).state = (s.win v).state ∧
    ((s.fetchWord f x).win v).valid = (s.win v).valid ∧ ((s.fetchWord f x).win v).held = (s.win v).held ∧
    ((s.fetchWord f x).win v).safe = (s.win v).safe ∧
    ((s.fetchWord f x).win v).swapPending = (s.win v).swapPending ∧
    ((s.fetchWord f x).win v).fence = (s.win v).fence ∧
    ((s.fetchWord f x).win v).switchPending = (s.win v).switchPending ∧
    ((s.fetchWord f x).win v).role = (s.win v).role ∧ ((s.fetchWord f x).win v).fill = (s.win v).fill ∧
    ((s.fetchWord f x).win v).miss = (s.win v).miss ∧ ((s.fetchWord f x).win v).lost = (s.win v).lost ∧
    ((s.fetchWord f x).win v).blocked = (s.win v).blocked ∧ ((s.fetchWord f x).win v).drops = (s.win v).drops ∧
    ((s.fetchWord f x).win v).lastSwap = (s.win v).lastSwap ∧
    ((s.fetchWord f x).win v).published = (s.win v).published ∧
    ((s.fetchWord f x).win v).refusal = (s.win v).refusal ∧ ((s.fetchWord f x).win v).carry = (s.win v).carry ∧
    ((s.fetchWord f x).win v).waitSet = (s.win v).waitSet ∧
    ((s.fetchWord f x).win v).coalesced = (s.win v).coalesced := by
  unfold State.fetchWord; split <;> simp [-win_endJob, -win_event, -win_drop, -win_dropEvent, -win_enqueueNotice]

/-- Items that `fetchAnswered` keeps. -/
@[simp] theorem fetchAnswered_fields (s : State) (r : Resp) (x : Word) (v : Win) :
    ((s.fetchAnswered r x).win v).active = (s.win v).active ∧
    ((s.fetchAnswered r x).win v).state = (s.win v).state ∧ ((s.fetchAnswered r x).win v).valid = (s.win v).valid ∧
    ((s.fetchAnswered r x).win v).held = (s.win v).held ∧ ((s.fetchAnswered r x).win v).safe = (s.win v).safe ∧
    ((s.fetchAnswered r x).win v).swapPending = (s.win v).swapPending ∧
    ((s.fetchAnswered r x).win v).fence = (s.win v).fence ∧
    ((s.fetchAnswered r x).win v).switchPending = (s.win v).switchPending ∧
    ((s.fetchAnswered r x).win v).role = (s.win v).role ∧ ((s.fetchAnswered r x).win v).fill = (s.win v).fill ∧
    ((s.fetchAnswered r x).win v).miss = (s.win v).miss ∧ ((s.fetchAnswered r x).win v).lost = (s.win v).lost ∧
    ((s.fetchAnswered r x).win v).blocked = (s.win v).blocked ∧
    ((s.fetchAnswered r x).win v).drops = (s.win v).drops ∧
    ((s.fetchAnswered r x).win v).lastSwap = (s.win v).lastSwap ∧
    ((s.fetchAnswered r x).win v).published = (s.win v).published ∧
    ((s.fetchAnswered r x).win v).refusal = (s.win v).refusal ∧
    ((s.fetchAnswered r x).win v).carry = (s.win v).carry ∧
    ((s.fetchAnswered r x).win v).waitSet = (s.win v).waitSet ∧
    ((s.fetchAnswered r x).win v).coalesced = (s.win v).coalesced := by
  unfold State.fetchAnswered
  split
  · simp [-win_endJob, -win_event, -win_drop, -win_dropEvent, -win_enqueueNotice]
  · split
    · simp [-win_endJob, -win_event, -win_drop, -win_dropEvent, -win_enqueueNotice]
    · split <;> simp [-win_endJob, -win_event, -win_drop, -win_dropEvent, -win_enqueueNotice]

/-- Items that `fetchReadComplete` keeps. -/
@[simp] theorem fetchReadComplete_fields (s : State) (r : Resp) (v : Win) :
    ((s.fetchReadComplete r).win v).active = (s.win v).active ∧
    ((s.fetchReadComplete r).win v).state = (s.win v).state ∧
    ((s.fetchReadComplete r).win v).valid = (s.win v).valid ∧
    ((s.fetchReadComplete r).win v).held = (s.win v).held ∧ ((s.fetchReadComplete r).win v).safe = (s.win v).safe ∧
    ((s.fetchReadComplete r).win v).swapPending = (s.win v).swapPending ∧
    ((s.fetchReadComplete r).win v).fence = (s.win v).fence ∧
    ((s.fetchReadComplete r).win v).switchPending = (s.win v).switchPending ∧
    ((s.fetchReadComplete r).win v).role = (s.win v).role ∧ ((s.fetchReadComplete r).win v).fill = (s.win v).fill ∧
    ((s.fetchReadComplete r).win v).miss = (s.win v).miss ∧ ((s.fetchReadComplete r).win v).lost = (s.win v).lost ∧
    ((s.fetchReadComplete r).win v).blocked = (s.win v).blocked ∧
    ((s.fetchReadComplete r).win v).drops = (s.win v).drops ∧
    ((s.fetchReadComplete r).win v).lastSwap = (s.win v).lastSwap ∧
    ((s.fetchReadComplete r).win v).published = (s.win v).published ∧
    ((s.fetchReadComplete r).win v).refusal = (s.win v).refusal ∧
    ((s.fetchReadComplete r).win v).carry = (s.win v).carry ∧
    ((s.fetchReadComplete r).win v).waitSet = (s.win v).waitSet ∧
    ((s.fetchReadComplete r).win v).coalesced = (s.win v).coalesced := by
  unfold State.fetchReadComplete
  split
  · split <;> simp [-win_endJob, -win_event, -win_drop, -win_dropEvent, -win_enqueueNotice]
  · simp [-win_endJob, -win_event, -win_drop, -win_dropEvent, -win_enqueueNotice]

/-- Items that a published set keeps in the record (R158). -/
@[simp] theorem publish_fields (s : State) (x : Word) (r : RecName) (v : Win) :
    ((s.publish x r).win v).slotA = (s.win v).slotA ∧ ((s.publish x r).win v).slotB = (s.win v).slotB ∧ ((s.publish x r).win v).active = (s.win v).active ∧ ((s.publish x r).win v).state = (s.win v).state ∧ ((s.publish x r).win v).valid = (s.win v).valid ∧ ((s.publish x r).win v).held = (s.win v).held ∧ ((s.publish x r).win v).safe = (s.win v).safe ∧ ((s.publish x r).win v).swapPending = (s.win v).swapPending ∧ ((s.publish x r).win v).fence = (s.win v).fence ∧ ((s.publish x r).win v).switchPending = (s.win v).switchPending ∧ ((s.publish x r).win v).role = (s.win v).role ∧ ((s.publish x r).win v).fill = (s.win v).fill ∧ ((s.publish x r).win v).miss = (s.win v).miss ∧ ((s.publish x r).win v).lost = (s.win v).lost ∧ ((s.publish x r).win v).blocked = (s.win v).blocked ∧ ((s.publish x r).win v).drops = (s.win v).drops ∧ ((s.publish x r).win v).lastSwap = (s.win v).lastSwap ∧ ((s.publish x r).win v).events = (s.win v).events ∧ ((s.publish x r).win v).refusal = (s.win v).refusal ∧ ((s.publish x r).win v).carry = (s.win v).carry ∧ ((s.publish x r).win v).waitSet = (s.win v).waitSet ∧ ((s.publish x r).win v).coalesced = (s.win v).coalesced := by
  cases r with
  | global => exact ⟨rfl, rfl, rfl, rfl, rfl, rfl, rfl, rfl, rfl, rfl, rfl, rfl, rfl, rfl, rfl, rfl, rfl, rfl, rfl, rfl, rfl, rfl⟩
  | result => simp [-win_endJob, -win_event, -win_drop, -win_dropEvent, -win_enqueueNotice, State.publish]
  | win w => by_cases h : v = w <;> simp [-win_endJob, -win_event, -win_drop, -win_dropEvent, -win_enqueueNotice, State.publish, h]

/-- Items that `publishAnswered` keeps. -/
@[simp] theorem publishAnswered_fields (r : Resp) (s : State) (n : RecName) (i : Nat) (x : Word) (v : Win) :
    ((State.publishAnswered r s n i x).win v).slotA = (s.win v).slotA ∧
    ((State.publishAnswered r s n i x).win v).slotB = (s.win v).slotB ∧
    ((State.publishAnswered r s n i x).win v).active = (s.win v).active ∧
    ((State.publishAnswered r s n i x).win v).state = (s.win v).state ∧
    ((State.publishAnswered r s n i x).win v).valid = (s.win v).valid ∧
    ((State.publishAnswered r s n i x).win v).held = (s.win v).held ∧
    ((State.publishAnswered r s n i x).win v).safe = (s.win v).safe ∧
    ((State.publishAnswered r s n i x).win v).swapPending = (s.win v).swapPending ∧
    ((State.publishAnswered r s n i x).win v).fence = (s.win v).fence ∧
    ((State.publishAnswered r s n i x).win v).switchPending = (s.win v).switchPending ∧
    ((State.publishAnswered r s n i x).win v).role = (s.win v).role ∧
    ((State.publishAnswered r s n i x).win v).fill = (s.win v).fill ∧
    ((State.publishAnswered r s n i x).win v).miss = (s.win v).miss ∧
    ((State.publishAnswered r s n i x).win v).lost = (s.win v).lost ∧
    ((State.publishAnswered r s n i x).win v).blocked = (s.win v).blocked ∧
    ((State.publishAnswered r s n i x).win v).drops = (s.win v).drops ∧
    ((State.publishAnswered r s n i x).win v).lastSwap = (s.win v).lastSwap ∧
    ((State.publishAnswered r s n i x).win v).events = (s.win v).events ∧
    ((State.publishAnswered r s n i x).win v).refusal = (s.win v).refusal ∧
    ((State.publishAnswered r s n i x).win v).carry = (s.win v).carry ∧
    ((State.publishAnswered r s n i x).win v).waitSet = (s.win v).waitSet ∧
    ((State.publishAnswered r s n i x).win v).coalesced = (s.win v).coalesced := by
  unfold State.publishAnswered
  split
  · simp [-win_endJob, -win_event, -win_drop, -win_dropEvent, -win_enqueueNotice]
  · split <;> simp [-win_endJob, -win_event, -win_drop, -win_dropEvent, -win_enqueueNotice]

/-- Items that `writebackWordComplete` keeps. -/
@[simp] theorem writebackWordComplete_fields (s : State) (r : Resp) (v : Win) :
    ((s.writebackWordComplete r).win v).slotA = (s.win v).slotA ∧
    ((s.writebackWordComplete r).win v).slotB = (s.win v).slotB ∧
    ((s.writebackWordComplete r).win v).active = (s.win v).active ∧
    ((s.writebackWordComplete r).win v).state = (s.win v).state ∧
    ((s.writebackWordComplete r).win v).valid = (s.win v).valid ∧
    ((s.writebackWordComplete r).win v).held = (s.win v).held ∧
    ((s.writebackWordComplete r).win v).safe = (s.win v).safe ∧
    ((s.writebackWordComplete r).win v).swapPending = (s.win v).swapPending ∧
    ((s.writebackWordComplete r).win v).fence = (s.win v).fence ∧
    ((s.writebackWordComplete r).win v).switchPending = (s.win v).switchPending ∧
    ((s.writebackWordComplete r).win v).role = (s.win v).role ∧
    ((s.writebackWordComplete r).win v).fill = (s.win v).fill ∧
    ((s.writebackWordComplete r).win v).miss = (s.win v).miss ∧
    ((s.writebackWordComplete r).win v).lost = (s.win v).lost ∧
    ((s.writebackWordComplete r).win v).blocked = (s.win v).blocked ∧
    ((s.writebackWordComplete r).win v).drops = (s.win v).drops ∧
    ((s.writebackWordComplete r).win v).lastSwap = (s.win v).lastSwap ∧
    ((s.writebackWordComplete r).win v).events = (s.win v).events ∧
    ((s.writebackWordComplete r).win v).refusal = (s.win v).refusal ∧
    ((s.writebackWordComplete r).win v).carry = (s.win v).carry ∧
    ((s.writebackWordComplete r).win v).waitSet = (s.win v).waitSet ∧
    ((s.writebackWordComplete r).win v).coalesced = (s.win v).coalesced := by
  have hm : ∀ r (t : State) a b c, (State.memAnswered r t a b c).win v = t.win v := fun r t a b c => win_congr (by simp [-win_endJob, -win_event, -win_drop, -win_dropEvent, -win_enqueueNotice]) v
  unfold State.writebackWordComplete
  split
  · split
    · simp [-win_endJob, -win_event, -win_drop, -win_dropEvent, -win_enqueueNotice, hm, win_of_windows]
    · simp [-win_endJob, -win_event, -win_drop, -win_dropEvent, -win_enqueueNotice]
  · simp [-win_endJob, -win_event, -win_drop, -win_dropEvent, -win_enqueueNotice]

end Sys2Proof.Laws
end

