-- ==== Sys2Proof/WellFormed.lean ====
section
/-! DEFINITION. Which commands are well formed. Addresses, enables, data, strap codes and window
numbers are in range by their types, so one check is left: a read access carries no data word
(00_scope.md, "Access": R90 gives the data word to a write alone). -/

namespace Sys2Proof

/-- A read access carries no data word. -/
def Access.wf (a : Access) : Bool := a.write || a.data == 0

/-- A new F access is well formed; the other forms name an access the port already holds. -/
def IssueAt.wf : IssueAt → Bool
  | .p => true
  | .f a => a.wf
  | .fHeld => true

/-- The operands of a command are as the bus carries them. -/
def Instr.wf : Instr → Bool
  | .cycRise => true
  | .cycFall => true
  | .frzChange => true
  | .intervalTimerExpiry => true
  | .watchdogExpiry => true
  | .pinReset => true
  | .rstRelease _ _ _ => true
  | .pWriteTake _ _ _ => true
  | .pReadTake _ _ => true
  | .accessIssue q => q.wf
  | .start => true
  | .stop => true
  | .reset => true
  | .clearerr => true
  | .load => true
  | .switch => true
  | .cancel => true
  | .hold => true
  | .release => true
  | .commit => true
  | .rearm => true
  | .unknownCommand => true
  | .readClear _ => true
  | .mpGrant _ => true
  | .pAccessComplete _ => true
  | .fAccessComplete _ => true
  | .mergePairComplete _ => true
  | .demandCopyComplete _ => true
  | .copyJobStart => true
  | .carryPairComplete _ => true
  | .loopPairComplete _ => true
  | .swapPerform _ => true
  | .loadReadComplete _ => true
  | .startLoadEnd => true
  | .fetchReadComplete _ => true
  | .writebackRecord => true
  | .writebackWordComplete _ => true
  | .noticeOffer _ => true
  | .noticeAccept => true
  | .noticeTimeout => true
  | .drainEnd => true
  | .resetValues => true
  | .resetPassEnd => true
  | .readHalfResponse => true

end Sys2Proof
end

