-- ==== Sys2Proof/Tests/Slice0.lean ====
section
/-! SUPPORT. Tests: the check of WellFormed, one step of each row on a small state, and for the statements of
Certificates/Slice0/Obligations.lean states that meet their hypotheses (test_meets_…). -/

set_option Elab.async false

namespace Sys2Proof.Tests

open Sys2Proof Sys2Proof.Machine Sys2Proof.Safety

/-! ## Small states -/

/-- An input descriptor: views at 10000 and 11000, banks at 12000 and 13000, four words, the first live. -/
def inD : Descriptor where
  enable := true
  kind := .input
  cached := true
  policy := .keepLast
  transparent := false
  loop := false
  loopSrc := 1
  missLimit := 2
  expect := 1
  len := 4
  liveOff := 0
  liveLen := 1
  pview := 0x10000
  fview := 0x11000
  bank0 := 0x12000
  bank1 := 0x13000
  safepat := 0x5AFE0000

/-- An output descriptor, at 20000. -/
def outD : Descriptor :=
  { inD with kind := .output, policy := .safe, pview := 0x20000, fview := 0x21000, bank0 := 0x22000, bank1 := 0x23000
             expect := 0 }

/-- An input descriptor with LOOP set, reading window 1. -/
def loopD : Descriptor := { inD with loop := true }

/-- 1 MiB of memory with the Control Block at F0000. -/
def base : State := { State.reset with lines := { State.reset.lines with cbsel := 0x0F } }

/-- A controller state. -/
def cc (c : CState) (s : State) : State := { s with cc := { s.cc with state := c } }

/-- A window in use on slot A. -/
def use (d : Descriptor) (st : WState) : Window := { Window.reset with slotA := some d, state := st, valid := true }

/-- Window 0 is an input and window 1 an output, in these states. -/
def pair (a b : WState) : State := ((cc .running base).setWin 0 { use inD a with fill := 1 }).setWin 1 (use outD b)

/-- RUNNING, with window 0 FILLING and window 1 COMPOSING, and a pulse waiting. -/
def run : State := { pair .filling .composing with pending := [.cycRise] }

/-- Window 0 loops the output window 1, its job in progress at offset 1. -/
def looping : State :=
  { run.setWin 0 { use loopD .filling with fill := 1 } with
    ce := { jobs := [{ kind := .loop 1 1, dest := 0, urgent := false }], running := true, request := false } }

/-- Window 1 has word 2 left to carry, its job in progress. -/
def carrying : State :=
  { run.setWin 1 { use outD .composing with carry := [2] } with
    ce := { jobs := [{ kind := .carry, dest := 1, urgent := false }], running := true, request := true } }

/-- A processor write stands at issue. -/
def wr (s : State) (a : Addr) (d : Word) : State := { s with pp := { s.pp with pwq := [{ addr := a, be := 0xF, data := d }] } }

/-- A processor read stands at issue. -/
def rd (s : State) (a : Addr) : State := { s with pp := { s.pp with readSlot := some { addr := a, be := 0xF } } }

/-- A command word stands at issue. -/
def cmd (s : State) (d : Word) : State := wr s 0xF0000 d

/-- A field access. -/
def fw (a : Addr) (d : Word) : Access := { write := true, addr := a, be := 0xF, data := d }

/-- A field read. -/
def fr (a : Addr) : Access := { write := false, addr := a, be := 0xF, data := 0 }

/-- A single transaction is granted. -/
def single (s : State) (work : SingleWork) (dir : Dir) (a : Addr) (d : Word) : State :=
  { s with mp := { s.mp with grant := .single { work := work, dir := dir, addr := a, be := 0xF, data := d, foretold := none } } }

/-- The write half of a pair is granted. -/
def half2 (s : State) (work : PairWork) (src dst : Addr) (d : Word) : State :=
  { s with mp := { s.mp with grant := .pairWrite { work := work, src := src, dst := dst } d } }

/-- The read half of a pair is granted. -/
def half1 (s : State) (work : PairWork) (src dst : Addr) : State :=
  { s with mp := { s.mp with grant := .pairRead { work := work, src := src, dst := dst } } }

/-- The P access in flight. -/
def inFlightP (s : State) (items : List PItem) : State :=
  { s with pp := { s.pp with current := some { win := some 1, bankWrite := false, items := items } } }

/-- The state a command leaves. -/
def after (c : Instr) (s : State) : State :=
  match exec c s with
  | .next t => t
  | _ => s

/-! ## WellFormed -/

/-- A read access that carries a data word is refused. -/
theorem test_wf_read_with_data : Instr.wf (.accessIssue (.f { write := false, addr := 0x11000, be := 0xF, data := 1 })) = false := by
  decide

theorem test_wf_read_without_data : Instr.wf (.accessIssue (.f (fr 0x11000))) = true := by decide

theorem test_wf_write_with_data : Instr.wf (.accessIssue (.f (fw 0x11000 1))) = true := by decide

/-- No row of the table gives bits, so no word spells a command. -/
theorem test_decode_none : decodeTableWord 32 0 = none := by decide

/-! ## One step of each row -/

theorem test_step : (match step { run with pending := [.cycFall, .cycRise] } with
    | .next t => t.pending == [.cycRise]
    | _ => false) = true := by decide +kernel

theorem test_cyc_rise : (after .cycRise run).cc.cycle = 1 ∧ ((after .cycRise run).win 0).miss = 1 ∧
    ((after .cycRise run).win 1).safe = true := by decide +kernel

theorem test_cyc_rise_trips : ((after .cycRise (after .cycRise run)).win 0).state = .tripped := by decide +kernel

theorem test_cyc_fall : (after .cycFall (cc .armed base)).cc.lowSeen = true := by decide +kernel

theorem test_frz_change :
    (after .frzChange { run with cba := { run.cba with config := { run.cba.config with freezeMode := .all } } }).cc.freezeReq = true := by
  decide +kernel

theorem test_interval_timer_expiry :
    (after .intervalTimerExpiry { run with cc := { run.cc with interval := true } }).cc.interval = false := by decide +kernel

theorem test_watchdog_expiry :
    let t := after .watchdogExpiry { run with cc := { run.cc with watchdog := true } }
    t.cc.state = .lost ∧ (t.win 1).safe = true ∧ (t.win 0).safe = false := by decide +kernel

theorem test_pin_reset : (after .pinReset run).cc.state = .stopped ∧ ((after .pinReset run).win 0).slotA = none := by
  decide +kernel

theorem test_rst_release : (after (.rstRelease 4 0x80 true) (after .pinReset run)).memSize = 0x1000000 ∧
    (after (.rstRelease 4 0x80 true) (after .pinReset run)).cbBase = 0x800000#24 := by decide +kernel

theorem test_p_write_take : ((after (.pWriteTake 0x10003 0xF 7) run).pp.pwq.map PWrite.addr) = [0x10000] := by decide +kernel

theorem test_p_read_take : (after (.pReadTake 0x10006 0xF) run).pp.readSlot = some { addr := 0x10004, be := 0xF } := by
  decide +kernel

theorem test_access_issue_p : (after (.accessIssue .p) (wr run 0x20004 9)).pp.current =
    some { win := some 1, bankWrite := true, items := [.plain .write 0x22004 0xF 9 none] } := by decide +kernel

theorem test_access_issue_f : ((after (.accessIssue (.f (fw 0x11004 9))) run).win 0).fill = 0 ∧
    ((after (.accessIssue (.f (fw 0x11004 9))) run).fp.inFlight.map FAccess.addr) = some 0x13004 := by decide +kernel

theorem test_start : (after .start (cmd base 0x00000001)).cc.state = .loading ∧
    (after .start (cmd base 0x00000001)).cba.load = some { count := 0, words := [], config := none, ending := none } := by decide +kernel

theorem test_stop : (after .stop (cmd run 0x00000002)).cc.drainSet = [.p] ∧
    ((after .stop (cmd run 0x00000002)).win 1).state = .idle := by decide +kernel

theorem test_reset : (after .reset (cmd run 0x00000003)).cc.state = .resetting := by decide +kernel

theorem test_clearerr :
    (after .clearerr (cmd { run with mp := { run.mp with latch := { ErrorLatch.empty with valid := true } } } 0x00000004)).errLine = false := by
  decide +kernel

theorem test_load : (after .load (cmd run 0x00030010)).cba.loadQueue = [0, 1] ∧
    (after .load (cmd run 0x00030010)).cba.fetch = some { win := 0, slot := .b, words := [] } := by decide +kernel

theorem test_switch : ((after .switch (cmd run 0x00010011)).win 0).refusal = .invalid ∧
    (after .switch (cmd run 0x00010011)).cba.result.result = .refused := by decide +kernel

theorem test_cancel :
    ((after .cancel (cmd (run.setWin 0 { use inD .filling with switchPending := true }) 0x00010012)).win 0).switchPending = false := by
  decide +kernel

theorem test_hold : ((after .hold (cmd run 0x00030020)).win 0).held = true ∧
    (after .hold (cmd run 0x00030020)).cba.result.refused = 2 ∧
    (after .hold (cmd run 0x00030020)).cba.result.result = .partly := by decide +kernel

theorem test_release :
    ((after .release (cmd (run.setWin 0 { use inD .blocked with held := true }) 0x00010021)).win 0).held = false := by
  decide +kernel

theorem test_commit : ((after .commit (cmd run 0x00020022)).win 1).state = .committed := by decide +kernel

theorem test_rearm : ((after .rearm (cmd (pair .tripped .fault) 0x00030023)).win 0).state = .filling ∧
    ((after .rearm (cmd (pair .tripped .fault) 0x00030023)).win 1).state = .composing := by decide +kernel

theorem test_unknown_command : (after .unknownCommand (cmd run 0x00000077)).cba.result =
    { code := 0x77, result := .unknown, refused := 0, seq := 1 } := by decide +kernel

/-- A read-clear of GLOBAL's flags, 5 of them set and 1 of these published. -/
def clearing : State :=
  { inFlightP run [.plain .read 0xF0020 0xF 0 (some .global)] with cba := { run.cba with causes := 5, published := 1 } }

theorem test_read_clear : (after (.readClear .ok) clearing).cba.causes = 4 ∧ (after (.readClear .err) clearing).cba.causes = 5 := by
  decide +kernel

theorem test_mp_grant : (after (.mpGrant .ok) carrying).mp.grant =
    .pairRead { work := .carry 1 2, src := 0x23008, dst := 0x22008 } := by decide +kernel

theorem test_p_access_complete :
    let s := single (inFlightP run [.plain .write 0x22004 0xF 0xA1B2C3D4 none]) .pPlain .write 0x22004 0xA1B2C3D4
    (after (.pAccessComplete .ok) s).mem = [(0x22004, 0xD4), (0x22005, 0xC3), (0x22006, 0xB2), (0x22007, 0xA1)] ∧
      (after (.pAccessComplete .ok) s).pp.current = none := by decide +kernel

theorem test_f_access_complete :
    let s := single { run with mem := [(0x12000, 0x11)] } .fAccess .read 0x12000 0
    (after (.fAccessComplete .ok) s).lines.fBus = .data 0x11 ∧ (after (.fAccessComplete .err) s).mp.latch.source = some .f := by
  decide +kernel

theorem test_merge_pair_complete :
    let s := half2 (inFlightP run [.merge 1 .or 0x1 0xF0 0x22004]) (.merge 1 .or 0x1 0xF0) 0x22004 0x22004 0xF1F1
    (after (.mergePairComplete .ok) s).mem = [(0x22004, 0xF1)] := by decide +kernel

theorem test_demand_copy_complete :
    let s := inFlightP carrying [.demand 1 2 0x23008 0x22008, .plain .read 0x22008 0xF 0 none]
    ((after (.demandCopyComplete .ok) (half2 s (.demand 1 2) 0x23008 0x22008 7)).win 1).carry = [] ∧
      ((after (.demandCopyComplete .err) (half1 s (.demand 1 2) 0x23008 0x22008)).win 1).state = .fault := by decide +kernel

theorem test_copy_job_start :
    (after .copyJobStart { carrying with ce := { carrying.ce with running := false, request := false } }).ce.request = true := by
  decide +kernel

theorem test_carry_pair_complete :
    (after (.carryPairComplete .ok) (half2 carrying (.carry 1 2) 0x23008 0x22008 7)).ce.jobs = [] := by decide +kernel

theorem test_loop_pair_complete :
    ((after (.loopPairComplete .ok) (half2 looping (.loop 0) 0x23004 0x13004 7)).win 0).fill = 0 ∧
      ((after (.loopPairComplete .ok) (half2 looping (.loop 0) 0x23004 0x13004 7)).ce.jobs.map Job.kind) = [.loop 1 2] := by
  decide +kernel

theorem test_swap_perform :
    let t := after (.swapPerform 1) (run.setWin 1 { use outD .committed with swapPending := true })
    (t.win 1).role = true ∧ (t.win 1).carry = [1, 2, 3] ∧ t.ce.jobs = [{ kind := .carry, dest := 1, urgent := false }] := by
  decide +kernel

/-- A pair that leaves marks standing changes no shown item and makes no record dirty; the last one does (R81). -/
theorem test_carry_pair_dirties_at_the_end :
    let s := carrying.setWin 1 { use outD .composing with carry := [2, 3] }
    (after (.carryPairComplete .ok) (half2 s (.carry 1 2) 0x23008 0x22008 7)).cba.dirty = [] ∧
      (after (.carryPairComplete .ok) (half2 carrying (.carry 1 2) 0x23008 0x22008 7)).cba.dirty = [.global, .win 1] := by
  decide +kernel

/-- A START load with 7 of its reads done. -/
def loading : State :=
  { cc .loading base with cba := { base.cba with
      load := some { count := 7, words := [1, 0, 1, 0, 0, 0, 0], config := none, ending := none }
      request := some .load } }

theorem test_load_read_complete :
    ((after (.loadReadComplete .ok) (single loading .loadRead .read 0xF005C 0)).cba.load.bind StartLoad.config).map ConfigRecord.arbMode
      = some .rotating := by decide +kernel

theorem test_start_load_end :
    let s : State := { loading.setWin 0 { Window.reset with slotA := some inD } with cba := { loading.cba with
      load := some { count := 264, words := [], config := some ConfigRecord.reset, ending := some true }
      request := none } }
    (after .startLoadEnd s).cc.state = .armed ∧ ((after .startLoadEnd s).win 0).state = .filling ∧
      ((after .startLoadEnd s).win 1).state = .idle := by decide +kernel

/-- A START load's descriptor for slot A of window 0, its last word to come: an output's, at a window stopped as a held
input. -/
def reloading : State :=
  { loading.setWin 0 { Window.reset with held := true, fill := 3 } with cba := { loading.cba with
      load := some { count := 15, words := [3, 4, 0x30000, 0x31000, 0x32000, 0x33000, 0], config := none, ending := none } } }

/-- The record of an output shows HELD and the fill counter as 0 from the fill of its slot on (R59, R162; log 38). -/
theorem test_load_clears_by_kind :
    let t := after (.loadReadComplete .ok) (single reloading .loadRead .read 0xF041C 0)
    ((t.win 0).slotA.map Descriptor.kind) = some .output ∧ (t.win 0).held = false ∧ (t.win 0).fill = 0 ∧
      t.cba.dirty = [.win 0] := by decide +kernel

/-- A fetch into slot B of window 2, its last word to come; `e` is the descriptor's first word. -/
def fetching (e : Word) : State :=
  { run with cba := { run.cba with
      loadQueue := [2]
      fetch := some { win := 2, slot := .b, words := [e, 4, 0x30000, 0x31000, 0x32000, 0x33000, 0] }
      request := some .fetch } }

theorem test_fetch_read_complete :
    let t := after (.fetchReadComplete .ok) (single (fetching 1) .fetchRead .read 0xF065C 0)
    ((t.win 2).slotB.map Descriptor.len) = some 4 ∧ t.cba.fetch = none ∧
      t.cba.causes = Cause.mask .loadDone := by decide +kernel

theorem test_writeback_record :
    (after .writebackRecord { run with cba := { run.cba with dirty := [.win 3, .global] } }).cba.writeback =
      some { name := .win 3, word := 0 } := by decide +kernel

theorem test_writeback_word_complete :
    let s := single { run with cba := { run.cba with writeback := some { name := .global, word := 0 }, request := some .writeback } }
      (.writebackWord .global 0) .write 0xF0020 0x00000103
    (after (.writebackWordComplete .ok) s).cba.published = 0x103 ∧
      (after (.writebackWordComplete .err) s).cba.published = 0 := by decide +kernel

/-- A notice of window 0 is queued. -/
def noticed : State :=
  let s := run.setWin 0 { use inD .filling with fence := true }
  { s with nu := { s.nu with queue := [{ win := 0, base := 0x10000, len := 16 }] } }

/-- It is offered. -/
def offered : State := { noticed with nu := { noticed.nu with offer := noticed.nu.queue.head?, timer := true } }

theorem test_notice_offer : (after (.noticeOffer false) noticed).nu.offer = some { win := 0, base := 0x10000, len := 16 } := by
  decide +kernel

theorem test_notice_accept : (after .noticeAccept offered).nu.queue = [] ∧ ((after .noticeAccept offered).win 0).fence = false := by
  decide +kernel

theorem test_notice_timeout : (after .noticeTimeout offered).nu.queue = [] ∧
    (after .noticeTimeout offered).cba.causes = Cause.mask .noticeTimeout := by decide +kernel

theorem test_drain_end : (after .drainEnd (cc .draining base)).cc.state = .stopped := by decide +kernel

/-- RESETTING, in this phase. -/
def resetting (p : ResetPhase) : State := { base with cc := { base.cc with state := .resetting, phase := p } }

theorem test_reset_values : (after .resetValues (resetting .waiting)).cba.dirty.length = 18 ∧
    (after .resetValues (resetting .waiting)).cc.phase = .pass := by decide +kernel

theorem test_reset_pass_end : (after .resetPassEnd (resetting .passDone)).cc.state = .stopped := by decide +kernel

/-- The end of the pass dirties GLOBAL, also where its retry takes a RESET word at the head of the PWQ (R38, R160). -/
theorem test_reset_pass_end_dirties_global :
    (after .resetPassEnd (resetting .passDone)).cba.dirty = [.global] ∧
    (let t := after .resetPassEnd (cmd (resetting .passDone) 0x00000003)
     t.cc.state = .resetting ∧ .global ∈ t.cba.dirty) := by decide +kernel

/-- A window write with no byte enables is answered or completed at issue, with no transaction; a counted one is counted
(R90, R105; log 37). -/
theorem test_no_lanes :
    (let t := after (.accessIssue (.f { fw 0x11004 9 with be := 0 })) run
     (t.win 0).fill = 0 ∧ t.fp.inFlight = none ∧ t.lines.fBus = .writeOk) ∧
    (let t := after (.accessIssue (.f { fw 0x11000 9 with be := 0 })) run
     (t.win 0).fill = 1 ∧ t.fp.inFlight = none ∧ t.lines.fBus = .writeOk) ∧
    (let t := after (.accessIssue (.f { fw 0x21000 9 with be := 0 })) run
     t.fp.inFlight = none ∧ t.lines.fBus = .writeOk) ∧
    (let t := after (.accessIssue .p) { run with pp := { run.pp with pwq := [{ addr := 0x10000, be := 0, data := 9 }] } }
     t.pp.pwq = [] ∧ t.pp.current = none) := by decide +kernel

theorem test_read_half_response :
    (after .readHalfResponse (half1 { run with mem := [(0x22004, 0x0F)] } (.merge 1 .toggle 0xF 0xFF) 0x22004 0x22004)).mp.grant =
      .pairWrite { work := .merge 1 .toggle 0xF 0xFF, src := 0x22004, dst := 0x22004 } 0xF0 := by decide +kernel

/-! ## Hypotheses met: steps, laws, records -/

theorem run_rest : ∀ w, w ≠ 1 → w ≠ 0 → run.win w = Window.reset := by decide +kernel

/-- A window in use obeys the law of its kind; the windows left as reset obey it too. -/
theorem run_windows : WindowsLaw run := by
  intro w
  rcases eq_or_ne w 1 with rfl | h1
  · exact ⟨fun _ => ⟨outD, by decide +kernel, by decide, by simp [KindLaw, outD]; decide +kernel⟩,
      fun h => absurd h (by decide +kernel), fun _ _ _ => rfl, fun _ _ _ => ⟨rfl, rfl⟩⟩
  rcases eq_or_ne w 0 with rfl | h0
  · exact ⟨fun _ => ⟨inD, by decide +kernel, by decide, by simp [KindLaw, inD]; decide +kernel⟩,
      fun h => absurd h (by decide +kernel), fun _ _ _ => rfl,
      fun d h k => absurd (show inD.kind = .output from (Option.some.inj (show some inD = some d from h)) ▸ k) (by decide)⟩
  rw [run_rest w h1 h0]
  exact ⟨fun h => absurd rfl h, fun _ => ⟨rfl, rfl⟩, fun _ _ _ => rfl, fun _ _ _ => ⟨rfl, rfl⟩⟩

/-- The laws hold in RUNNING with two windows in use. -/
theorem run_laws : Laws run where
  still :=
    have hs : ¬ Still run := by unfold Still; decide +kernel
    ⟨fun h => absurd h hs, fun h => absurd h hs, fun h => absurd h hs, fun h => absurd h hs, fun h => absurd h hs,
      fun h => absurd h hs, fun h => absurd rfl h, by decide +kernel⟩
  notice := ⟨by decide +kernel, by decide +kernel, by decide +kernel, by decide +kernel, by decide +kernel,
    by decide +kernel, (fun n h => nomatch (show none = some n from h))⟩
  load := ⟨by decide +kernel, by decide +kernel, (fun f h => nomatch (show none = some f from h)),
    (fun f h => nomatch (show none = some f from h))⟩
  windows := run_windows

/-- The eighth law holds there. -/
theorem run_miss : MissLaw run := by
  intro w d h hd hm
  rcases eq_or_ne w 1 with rfl | h1
  · cases (show some outD = some d from h); exact absurd hm (by decide +kernel)
  rcases eq_or_ne w 0 with rfl | h0
  · cases (show some inD = some d from h); exact absurd hm (by decide +kernel)
  rw [run_rest w h1 h0] at h
  cases h

/-- The slots there. -/
theorem run_slots (w : Win) (n : SlotName) (d : Descriptor) (h : (run.win w).slot n = some d) :
    (w = 0 ∧ d = inD) ∨ (w = 1 ∧ d = outD) := by
  rcases eq_or_ne w 1 with rfl | h1
  · cases n
    · cases (show some outD = some d from h); exact .inr ⟨rfl, rfl⟩
    · cases (show none = some d from h)
  rcases eq_or_ne w 0 with rfl | h0
  · cases n
    · cases (show some inD = some d from h); exact .inl ⟨rfl, rfl⟩
    · cases (show none = some d from h)
  rw [run_rest w h1 h0] at h
  cases n <;> cases h

/-- The third law holds there. -/
theorem run_slotLaw : SlotLaw run where
  ok w n d h := by rcases run_slots w n d h with ⟨_, rfl⟩ | ⟨_, rfl⟩ <;> decide +kernel
  apart v w m n d e hvw h h' := by
    rcases run_slots v m d h with ⟨rfl, rfl⟩ | ⟨rfl, rfl⟩ <;> rcases run_slots w n e h' with ⟨rfl, rfl⟩ | ⟨rfl, rfl⟩ <;>
      first | exact absurd rfl hvw | decide +kernel
  reset h := absurd h (by decide)

/-- The law of the P port there. -/
theorem run_portLaw : PortLaw run := ⟨nofun, nofun, nofun⟩

theorem test_meets_laws : ∃ t, Laws run ∧ MissLaw run ∧ SlotLaw run ∧ PwqLaw run ∧ CopyLaw run ∧ DirtyLaw run ∧ MemoryLaw run ∧
    PortLaw run ∧ step run = .next t :=
  ⟨_, run_laws, run_miss, run_slotLaw, by unfold PwqLaw; decide, by unfold CopyLaw; decide, by unfold DirtyLaw; decide,
    by unfold MemoryLaw; decide, run_portLaw, rfl⟩

theorem test_meets_steps : run.pending = [.cycRise] ∧ base.pending = [] ∧
    (after .pinReset run).lines.rst = true ∧ exec .cycFall (after .pinReset run) = .next (after .cycFall (after .pinReset run)) :=
  ⟨rfl, rfl, rfl, rfl⟩

/-- A write of word 22004 is granted; the words around it are outside its store. -/
theorem test_meets_stores :
    let s := single (inFlightP run []) .pPlain .write 0x22004 7
    MemoryLaw s ∧ storeOf (.pAccessComplete .ok) s = some 0x22004 ∧ (0x22003 < 0x22004 ∨ 0x22007 < 0x22003) ∧
      exec (.pAccessComplete .ok) s = .next (after (.pAccessComplete .ok) s) ∧ storeOf .pinReset run = none :=
  ⟨by unfold MemoryLaw; decide +kernel, by decide +kernel, by decide, rfl, by decide +kernel⟩

/-- A word read has the byte at its address in its lowest lane (log 6), and 0 where no entry is (log 5). -/
theorem test_meets_reads_of_memory :
    let m : Memory := [(0x100, 0x11), (0x101, 0x22), (0x103, 0x44)]
    m.wf = true ∧ (0x103, 0x44#8) ∈ m ∧ m.readWord 0x100 = 0x44002211 ∧ m.readByte 0x102 = 0 := by decide +kernel

theorem test_meets_lanes : (0xFFFFC#24).toNat < base.memSize ∧ (8#4).getLsbD 3 = true ∧ (7#4).getLsbD 3 = false := by
  decide +kernel

/-- A record that changes, and K with nothing outstanding and nothing to present. -/
theorem test_meets_dirty : joinsRecords .cycRise = true ∧ exec .cycRise run = .next (after .cycRise run) ∧
    (after .cycRise run).recordWord .global 2 ≠ run.recordWord .global 2 ∧ run.lines.rst = false ∧
    (after .cycRise run).cba.request = none ∧ (after .cycRise run).kHeld = false :=
  ⟨rfl, rfl, by decide +kernel, rfl, by decide +kernel, by decide +kernel⟩

/-- A write-back of RESULT in progress, its next word to be presented. -/
def writing (s : State) : State := { s with cba := { s.cba with writeback := some { name := .result, word := 1 } } }

/-- What K does next: it keeps a request; STOP withdraws an ungranted read; RESETTING holds K; a read is presented at its
turn, at a write-back's turn with none to make, and not at one with one to make; a write-back's word is presented. -/
theorem test_meets_requests :
    (loading.cba.request = some .load ∧ (after .cycFall loading).cba.request = some .load) ∧
    (let s := single loading .loadRead .read 0xF005C 0
     completesK (.loadReadComplete .ok) s = true ∧ (after (.loadReadComplete .ok) s).cba.request = some .load) ∧
    (let s := cmd loading 0x00000002
     s.mp.grant.holder ≠ some .k ∧ (after .stop s).cc.state = .draining ∧ (after .stop s).cba.request = none) ∧
    ((after .cycFall (writing (resetting .waiting))).cba.request = none ∧ (writing (resetting .waiting)).cc.phase ≠ .pass) ∧
    (let s := { fetching 1 with cba := { (fetching 1).cba with request := none, turn := .read } }
     (after .cycFall (writing s)).cba.turn = .read ∧ (after .cycFall (writing s)).cba.request = some .fetch) ∧
    (let s := { fetching 1 with cba := { (fetching 1).cba with request := none, turn := .writeback } }
     (after .cycFall s).cba.writeback = none ∧ (after .cycFall s).cba.dirty = [] ∧
       (after .cycFall s).cba.request = some .fetch ∧ (after .cycFall (writing s)).cba.request = some .writeback) ∧
    (after .cycFall (writing run)).cba.request = some .writeback ∧ (after .cycFall run).cba.request = none := by decide +kernel

/-- A write-back may begin, in RUNNING and in the reset pass; and the cases in which none begins. -/
theorem test_meets_writeback :
    (∀ c ∈ [run, resetting .pass],
      let s := { c with cba := { c.cba with dirty := [RecName.global, .win 15] } }
      s.lines.rst = false ∧ s.cba.dirty = .global :: [.win 15] ∧ s.cba.writeback = none ∧ s.cba.request = none ∧
        (s.cc.state = .resetting → s.cc.phase = .pass) ∧ (s.readWaits = true → s.cba.turn = .writeback)) ∧
    run.cba.dirty = [] ∧ loading.cba.request ≠ none ∧
    (single run (.writebackWord (.win 15) 3) .write 0xF01FC 0).mp.grant =
      .single { work := .writebackWord (.win 15) 3, dir := .write, addr := 0xF01FC, be := 0xF, data := 0, foretold := none } ∧
    (∀ p ∈ [ResetPhase.waiting, .passDone], (resetting p).cc.state = .resetting ∧ (resetting p).cc.phase ≠ .pass) ∧
    (let s := { fetching 1 with cba := { (fetching 1).cba with turn := .read } }
     s.readWaits = true ∧ s.cba.turn = .read) := by
  decide +kernel

/-- The queues of `run` are within the bounds of the words of GLOBAL, and its words there are those of the record formats:
RUNNING is 4 in the state field, the memory size and CBSEL of the straps stand in the sixth word. -/
theorem test_meets_words : run.ce.jobs.length ≤ 16 ∧ run.nu.queue.length + run.nu.reservations.length ≤ 8 ∧
    run.cba.loadQueue.length ≤ 16 ∧ run.recordWord .global 1 = 4 ∧ (noticed.recordWord .global 1).toNat / 2 ^ 21 = 1 ∧
    (run.recordWord .global 5).extractLsb' 16 8 = 0x0F ∧
    run.recordWord (.win 0) 0 = 0x00400121 ∧ run.recordWord (.win 1) 0 = 0x0000012C := by decide +kernel

/-- The flags of a word of each kind, by bit: a slip and a refused command. -/
theorem test_flag_bits :
    (run.event 1 .slip).recordWord (.win 1) 3 = 0x10 ∧ (run.event 1 .slip).recordWord .global 0 = 0x40 ∧
    (run.event 1 .excess).recordWord .global 0 = 0 ∧ (run.record .cmdRefused).recordWord .global 0 = 0x4000 := by
  decide +kernel

/-- A flag that is recorded again makes its record dirty: a second RUNT (R157). -/
theorem test_runt_again :
    let s := { run with cc := { run.cc with interval := true }, cba := { run.cba with causes := Cause.mask .runt } }
    (after .cycRise s).cba.causes = s.cba.causes ∧ (after .cycRise s).cba.dirty = [.global] := by decide +kernel

theorem test_meets_rst : (after .pinReset run).lines.rst = true ∧ run.lines.rst = false := by decide +kernel

theorem test_meets_resetting :
    (let s := resetting .waiting
     s.lines.rst = false ∧ s.cc.state = .resetting ∧ s.cc.phase = .waiting ∧ s.mp.grant = .free ∧ s.pp.current = none ∧
       s.fp.inFlight = none ∧ s.ce.request = false ∧ s.cba.request = none) ∧
    (single run .pPlain .read 0 0).mp.grant ≠ .free ∧ (inFlightP run []).pp.current ≠ none ∧ carrying.ce.request = true ∧
    loading.cba.request ≠ none ∧
    (resetting .passDone).cc.state = .resetting ∧ (resetting .passDone).cc.phase = .passDone := by decide +kernel

theorem test_meets_drain :
    (let s := cc .draining base
     s.lines.rst = false ∧ s.cc.state = .draining ∧ s.cc.drainSet = [] ∧ s.nu.queue = [] ∧ s.nu.reservations = []) ∧
    run.cc.state ≠ .draining ∧ noticed.nu.queue ≠ [] := by decide +kernel

/-! ## Hypotheses met: pulses -/

theorem test_meets_edges :
    (∀ c ∈ [CState.aligning, .running, .frozen, .lost],
      let s := { cc c run with cc := { (cc c run).cc with interval := true } }
      s.lines.rst = false ∧ (s.cc.state = .aligning ∨ s.cc.state = .running ∨ s.cc.state = .frozen ∨ s.cc.state = .lost) ∧
        s.cc.interval = true) ∧
    (∀ c ∈ [CState.stopped, .loading, .draining, .resetting, .armed],
      (cc c base).lines.rst = false ∧ (c = .armed → (cc c base).cc.lowSeen = false)) := by decide +kernel

theorem test_meets_alignment :
    (let s := { cc .armed run with cc := { (cc .armed run).cc with lowSeen := true } }
     s.lines.rst = false ∧ s.cc.state = .armed ∧ s.cc.lowSeen = true) ∧
    (cc .lost run).cc.state = .lost ∧ (cc .lost run).cc.interval = false ∧ (cc .lost run).lines.rst = false := by decide +kernel

theorem test_meets_pulses :
    (∀ c ∈ [CState.aligning, .running, .frozen], (cc c run).lines.rst = false ∧ (cc c run).cc.interval = false ∧
      (cc c run).cc.freezeReq = false ∧ (cc c run).cc.frz = false) ∧
    (let s := { run with cc := { run.cc with freezeReq := true } }
     s.cc.state = .running ∧ s.cc.interval = false ∧ s.cc.freezeReq = true) ∧
    (let s := { cc .frozen run with cc := { (cc .frozen run).cc with frz := true } }
     s.cc.state = .frozen ∧ s.cc.interval = false ∧ s.cc.frz = true) := by decide +kernel

theorem test_meets_watchdog :
    (∀ c ∈ [CState.aligning, .running],
      let s := { cc c run with cc := { (cc c run).cc with watchdog := true } }
      s.lines.rst = false ∧ s.cc.watchdog = true ∧ (s.cc.state = .aligning ∨ s.cc.state = .running)) ∧
    run.cc.watchdog = false := by decide +kernel

/-- An input FILLING and an output COMPOSING, priming or not. -/
theorem test_meets_misses :
    ((run.win 0).switchPending = false ∧ (run.win 0).inUse = some inD ∧ inD.kind = .input ∧ (run.win 0).state = .filling ∧
      (run.win 0).swapPending = false) ∧
    ((run.win 1).switchPending = false ∧ (run.win 1).inUse = some outD ∧ outD.kind = .output ∧ (run.win 1).state = .composing ∧
      (run.win 1).swapPending = false ∧ (run.win 1).valid = true) ∧
    (let x := { use outD .composing with valid := false }
     x.inUse = some outD ∧ x.state = .composing ∧ x.swapPending = false ∧ x.valid = false) := by decide +kernel

/-- Eight notices of other windows are queued. -/
def full (s : State) : State :=
  { s with nu := { s.nu with queue := [8, 9, 10, 11, 12, 13, 14, 15].map fun w => { win := w, base := 0, len := 4 } } }

theorem no_place (s : State) : NoPlace (full s) 0 inD ∧ NoPlace (full s) 1 outD :=
  ⟨⟨rfl, .inr ⟨rfl, by simp [full]⟩⟩, ⟨rfl, .inr ⟨rfl, by simp [full]⟩⟩⟩

theorem test_meets_held_back :
    (run.win 2).inUse = none ∧
    (∀ st ∈ [WState.filled, .blocked], (((pair st .committed).setWin 0 { use inD st with held := true }).win 0).inUse = some inD) ∧
    (∀ st ∈ [WState.filled, .blocked],
      ((full (pair st .committed)).win 0).inUse = some inD ∧ ((full (pair st .committed)).win 0).held = false ∧
        ((full (pair st .committed)).win 0).swapPending = false) ∧
    ((full (pair .filled .committed)).win 1).inUse = some outD ∧ ((full (pair .filled .committed)).win 1).state = .committed ∧
    (∀ st ∈ [WState.tripped, .fault], ((pair st st).win 0).inUse = some inD ∧ ((pair st st).win 1).inUse = some outD) ∧
    (let s := run.setWin 1 { use outD .committed with swapPending := true }
     (s.win 1).inUse = some outD ∧ (s.win 1).swapPending = true) := by decide +kernel

theorem place (s : State) (h : s.nu.queue = []) (h' : s.nu.reservations = []) (w : Win) (d : Descriptor) : ¬ NoPlace s w d := by
  simp [NoPlace, h, h']

/-- An output COMMITTED, an input FILLED, an input BLOCKED: with nothing in flight, and with a field access in flight. -/
theorem test_meets_decision :
    (¬ NoPlace (pair .filled .committed) 1 outD ∧ ¬ NoPlace (pair .filled .committed) 0 inD ∧
      ¬ NoPlace (pair .blocked .committed) 0 inD) ∧
    (∀ st ∈ [WState.filled, .blocked],
      let s := pair st .committed
      (s.win 0).inUse = some inD ∧ (s.win 0).state = st ∧ (s.win 0).held = false ∧ (s.win 0).swapPending = false ∧
        (s.win 0).switchPending = false ∧ s.swapWaits 0 .input = [] ∧ 0 ∉ s.nu.reservations) ∧
    (let s := pair .filled .committed
     (s.win 1).inUse = some outD ∧ (s.win 1).state = .committed ∧ (s.win 1).swapPending = false ∧
       (s.win 1).switchPending = false ∧ s.swapWaits 1 .output = [] ∧ 1 ∉ s.nu.reservations) ∧
    (let s := { pair .filled .committed with
       fp := { held := none, inFlight := some { win := some 0, bankWrite := true, dir := .write, addr := 0x13004, be := 0xF, data := 0 } } }
     s.swapWaits 0 .input ≠ []) ∧
    (carrying.setWin 1 (use outD .committed)).swapWaits 1 .output ≠ [] := by
  refine ⟨⟨place _ rfl rfl _ _, place _ rfl rfl _ _, place _ rfl rfl _ _⟩, ?_⟩
  decide +kernel

/-- The carry job of window 1 waits behind the loop job of window 0, in progress, one that is urgent, and one that is not. -/
def behindJobs : State :=
  { (pair .filling .committed).setWin 0 { use loopD .filling with fill := 1 } with
    ce := { jobs := [{ kind := .loop 1 1, dest := 0, urgent := false }, { kind := .carry, dest := 5, urgent := false },
                     { kind := .carry, dest := 1, urgent := false }, { kind := .carry, dest := 6, urgent := true }]
            running := true, request := true } }

/-- The job that its swap waits for comes behind the job in progress and the urgent one, with its mark set (R80); the wait
set has the loop job that reads the window too. -/
theorem test_urgent_job_order :
    behindJobs.swapWaits 1 .output = [.job 1, .job 0] ∧ ¬ NoPlace behindJobs 1 outD ∧
    (behindJobs.takePulse false false 1).ce.jobs.map (fun j => (j.dest, j.urgent)) =
      [(0, false), (6, true), (1, true), (5, false)] ∧
    (behindJobs.takePulse false false 1).cba.dirty = [.win 1] :=
  ⟨by decide +kernel, place _ rfl rfl _ _, by decide +kernel, by decide +kernel⟩

/-- A switch pending at window 0, into slot B. -/
def switching (b : Option Descriptor) : State := run.setWin 0 { use inD .filling with switchPending := true, slotB := b }

/-- Switches that are taken, to a slot that is enabled, disabled and INVALID; and switches that are late for each reason. -/
theorem test_meets_switch :
    (∀ b ∈ [some outD, some { outD with enable := false }, none], ((switching b).win 0).switchPending = true ∧
      ((switching b).win 0).slotB = b ∧ ((switching b).win 0).swapPending = false ∧ (switching b).pp.current = none ∧
      (switching b).fp.inFlight = none ∧ (switching b).mp.grant.copyDest ≠ some 0) ∧
    (∀ b, ¬ NoPlace (switching b) 0 inD) ∧
    ((full (switching none)).win 0).switchPending = true ∧ ((full (switching none)).win 0).inUse = some inD ∧
    NoPlace (full (switching none)) 0 inD ∧
    ((run.setWin 0 { use inD .filled with switchPending := true, swapPending := true }).win 0).swapPending = true ∧
    (half1 (switching none) (.loop 0) 0x22004 0x13004).mp.grant.copyDest = some 0 := by
  refine ⟨by decide +kernel, fun b => place _ rfl rfl _ _, by decide +kernel, by decide +kernel, (no_place _).1, by decide +kernel,
    by decide +kernel⟩

/-! ## Hypotheses met: accesses -/

theorem test_meets_taking :
    (run.pp.pwq.length < 4 ∧ run.pp.readSlot = none ∧ run.pp.pwq = [] ∧ run.pp.current = none) ∧
    (let s := { run with pp := { run.pp with pwq := List.replicate 3 { addr := 0, be := 0xF, data := 0 } } }
     s.pp.pwq.length < 4 ∧ s.pp.pwq ≠ []) ∧
    (let s := { run with pp := { run.pp with pwq := List.replicate 4 { addr := 0, be := 0xF, data := 0 } } }
     4 ≤ s.pp.pwq.length) ∧
    (rd run 0).pp.readSlot ≠ none ∧ (inFlightP run []).pp.current ≠ none := by decide +kernel

theorem running_is_open : CState.running ≠ .resetting := by decide

theorem write_at_issue (a b : WState) (x : Addr) (d : Word) : WriteAtIssue (wr (pair a b) x d) { addr := x, be := 0xF, data := d } [] :=
  ⟨rfl, running_is_open, rfl, rfl, rfl⟩

theorem read_at_issue (a b : WState) (x : Addr) : ReadAtIssue (rd (pair a b) x) { addr := x, be := 0xF } :=
  ⟨rfl, running_is_open, rfl, rfl, rfl, rfl⟩

theorem field_port_free (a b : WState) : FieldPortFree (pair a b) := ⟨rfl, running_is_open, rfl⟩

/-- Where addresses fall, at the edges of each range: beyond memory, in the Control Block, in a bank, in no range. -/
theorem test_meets_outside :
    (base.memSize ≤ (0x100000#24).toNat ∧ (0xFFFFC#24).toNat < base.memSize) ∧
    [0xF0010#24, 0xF0034, 0xF0100, 0xF01FC, 0xF0004, 0xF000C, 0xF0038, 0xF00FC, 0xF0200, 0xF0FFC, 0xF0020, 0xF010C].all base.inCB =
      true ∧
    base.inCB 0xF1000 = false ∧ base.inCB 0xEFFFC = false ∧ base.cbBase = 0xF0000#24 ∧
    (∀ c ∈ [CState.stopped, .loading], (cc c base).cc.state = c) ∧
    (∀ v, run.inView .p 0x14000 v = false ∧ run.inBank 0x14000 v = false ∧ run.inView .f 0x14000 v = false) ∧
    (∀ v, run.inView .p 0x10010 v = false ∧ run.inView .f 0x1100C v = false ∨ v = 0) := by decide +kernel

/-- The edges of the ranges: a view's and a bank's first word, last word and the word past it, and the last byte of memory
that a word counted from a base can reach. -/
theorem test_meets_geometry :
    (run.inView .p 0x10000 0 = true ∧ run.inView .p 0x1000C 0 = true ∧ run.inView .p 0x10010 0 = false ∧
      run.inView .p 0x2003C 1 = true ∧ run.inView .p 0x20040 1 = false ∧
      run.inView .f 0x2100C 1 = true ∧ run.inView .f 0x21010 1 = false) ∧
    (run.inBank 0x12000 0 = true ∧ run.inBank 0x1300C 0 = true ∧ run.inBank 0x13010 0 = false) ∧
    ((0xFFFFFC#24).toNat + 4 * 0 + 3 < 2 ^ 24 ∧ wordsFrom 0xFFFFFC#24 (BitVec.ofNat 24 ((0xFFFFFC#24).toNat + 4 * 0 + 3)) = 0) ∧
    (run.win 0).inUse = some inD ∧ (run.win 2).inUse = none := by decide +kernel

theorem test_meets_decoded : Decoded run 0x14000 ∧ WriteAtIssue (wr run 0x14000 1) { addr := 0x14000, be := 0xF, data := 1 } [] ∧
    ReadAtIssue (rd run 0x14000) { addr := 0x14000, be := 0xF } ∧ FieldPortFree run :=
  ⟨⟨by decide +kernel, by decide +kernel, by decide +kernel⟩, ⟨rfl, (by decide), rfl, rfl, rfl⟩, ⟨rfl, (by decide), rfl, rfl, rfl, rfl⟩,
    ⟨rfl, (by decide), rfl⟩⟩

theorem test_meets_banks : (∀ q, InBank run q 0x12000 0) ∧ (∀ q, InBank run q 0x2300C 1) := by
  constructor <;> intro q <;> cases q <;> refine ⟨⟨?_, ?_, ?_⟩, ?_, ?_, ?_⟩ <;> decide +kernel

/-- The windows' views in each state, first word and last, and the first word that is not live. -/
theorem in_input (st : WState) (h : st ≠ .idle) (q : Port) (x : Addr)
    (hx : (q = .p ∧ (x = 0x10000 ∨ x = 0x10004 ∨ x = 0x1000C)) ∨ (q = .f ∧ (x = 0x11000 ∨ x = 0x11004 ∨ x = 0x1100C))) :
    InWindow (pair st .composing) q x 0 inD := by
  rcases hx with ⟨rfl, rfl | rfl | rfl⟩ | ⟨rfl, rfl | rfl | rfl⟩ <;> cases st <;> (try contradiction) <;>
    refine ⟨⟨?_, ?_, ?_⟩, ?_, ?_, ?_⟩ <;> decide +kernel

theorem in_output (st : WState) (h : st ≠ .idle) (q : Port) (x : Addr)
    (hx : (q = .p ∧ (x = 0x20000 ∨ x = 0x20004 ∨ x = 0x2001C ∨ x = 0x2003C)) ∨ (q = .f ∧ (x = 0x21000 ∨ x = 0x2100C))) :
    InWindow (pair .filling st) q x 1 outD := by
  rcases hx with ⟨rfl, rfl | rfl | rfl | rfl⟩ | ⟨rfl, rfl | rfl⟩ <;> cases st <;> (try contradiction) <;>
    refine ⟨⟨?_, ?_, ?_⟩, ?_, ?_, ?_⟩ <;> decide +kernel

/-- What the accesses at these addresses meet: live words and others, no pending swap, no fence, both ports free. -/
theorem test_meets_views :
    (∀ st, WriteAtIssue (wr (pair .filling st) 0x20004 0) { addr := 0x20004, be := 0xF, data := 0 } [] ∧
      ReadAtIssue (rd (pair st .composing) 0x10004) { addr := 0x10004, be := 0xF } ∧ FieldPortFree (pair st .composing)) ∧
    (∀ st, Open ((pair st .composing).win 0) ∧ Open ((pair .filling st).win 1)) ∧
    (inD.live (wordsFrom inD.pview 0x10000) = true ∧ inD.live (wordsFrom inD.pview 0x10004) = false ∧
      inD.live (wordsFrom inD.fview 0x11000) = true ∧ inD.live (wordsFrom inD.fview 0x11004) = false ∧
      outD.live (wordsFrom outD.fview 0x21000) = true ∧ outD.live (wordsFrom outD.fview 0x2100C) = false) ∧
    (wordsFrom outD.pview 0x20004 / outD.len = 0 ∧ wordsFrom outD.pview 0x2001C / outD.len = 1 ∧
      wordsFrom outD.pview 0x2003C / outD.len = 3 ∧ outD.live (wordsFrom outD.pview 0x2003C % outD.len) = false) :=
  ⟨fun st => ⟨write_at_issue _ _ _ _, read_at_issue _ _ _, field_port_free _ _⟩, by
    intro st; cases st <;> exact ⟨⟨rfl, rfl⟩, rfl, rfl⟩, by decide, by decide⟩

/-- Writes with no byte enables, at the live words of an input and of an output. -/
theorem test_meets_no_lanes :
    WriteAtIssue { run with pp := { run.pp with pwq := [{ addr := 0x10000, be := 0, data := 9 }] } }
      { addr := 0x10000, be := 0, data := 9 } [] ∧
    (inD.liveOff ≤ wordsFrom inD.pview 0x10000 ∧ wordsFrom inD.pview 0x10000 < inD.liveOff + inD.liveLen) ∧
    (outD.liveOff ≤ wordsFrom outD.fview 0x21000 ∧ wordsFrom outD.fview 0x21000 < outD.liveOff + outD.liveLen) ∧
    ({ fw 0x11000 9 with be := 0 }).be = 0 :=
  ⟨⟨rfl, running_is_open, rfl, rfl, rfl⟩, by decide, by decide, rfl⟩

/-- The field writes of each state and descriptor that `FieldWriteFillsTheImage` tells apart. -/
theorem test_meets_field_writes :
    (((pair .filling .composing).win 0).fill = 1 ∧ ((pair .filling .composing).win 0).state = .filling) ∧
    (run.setWin 0 (use inD .filling)).win 0 = use inD .filling ∧ (use inD .filling).fill = 0 ∧
    (∀ st ∈ [WState.filled, .blocked, .tripped, .fault], ((pair st .composing).win 0).state = st) ∧
    inD.loop = false ∧ loopD.loop = true ∧ (looping.win 0).inUse = some loopD ∧ looping.inView .f 0x11004 0 = true ∧
    (∀ v, looping.inView .f 0x11004 v = true → v = 0) ∧ looping.fp = { held := none, inFlight := none } := by decide +kernel

/-- Reads that are answered with SAFEPAT, and reads that are made, at both kinds of window. -/
theorem test_meets_reads :
    (run.win 0).valid = true ∧ (run.win 1).valid = true ∧ (run.win 1).safe = false ∧
    ((pair .tripped .tripped).win 0).state = .tripped ∧ ((pair .fault .fault).win 1).state = .fault ∧
    (carrying.win 1).inUse = some outD ∧ 2 ∈ (carrying.win 1).carry ∧ outD.live 2 = false ∧ carrying.inView .p 0x20008 1 = true ∧
    (∀ v, carrying.inView .p 0x20008 v = true → v = 1) ∧ wordsFrom outD.pview 0x20008 % outD.len = 2 := by decide +kernel

/-- Stalls: a swap pending, a fence, RESETTING, and the retry of a field access that a finished swap releases. -/
theorem test_meets_stalls :
    (let s := run.setWin 0 { use inD .filled with swapPending := true }
     (s.win 0).swapPending = true ∧ (s.win 0).inUse = some inD ∧ s.inView .f 0x11004 0 = true ∧ s.inView .p 0x10004 0 = true ∧
       (∀ v, s.inView .f 0x11004 v = true → v = 0) ∧ (∀ v, s.inView .p 0x10004 v = true → v = 0) ∧
       s.stalls .f true 0x11004 = true ∧ run.stalls .f true 0x11004 = false) ∧
    ((noticed.win 0).fence = true ∧ noticed.inView .p 0x10004 0 = true ∧ (∀ v, noticed.inView .p 0x10004 v = true → v = 0)) ∧
    (resetting .waiting).cc.state = .resetting ∧
    (let s := { run with fp := { held := some (fw 0x11004 1), inFlight := none } }
     s.fp = { held := some (fw 0x11004 1), inFlight := none } ∧ (fw 0x11004 1).addr &&& 0xFFFFFC#24 = (fw 0x11004 1).addr ∧
       s.pp.pwq = [] ∧ s.pp.readSlot = none) := by decide +kernel

/-- Window 0 with its swap pending, or with a notice queued that fences it. -/
def halted (swap : Bool) : State := if swap then run.setWin 0 { use inD .filled with swapPending := true } else noticed

/-- A read and a write of window 0 stand at issue, and the F port holds an access of it. -/
def waiting (s : State) : State :=
  { wr s 0x10000 1 with fp := { held := some (fw 0x11004 1), inFlight := none } }

/-- Retries: the processor's write or read alone, the field access alone, both; and a write that stalls on. -/
theorem test_meets_retries :
    (∀ swap ∈ [true, false], (wr (halted swap) 0x10000 1).stalls .p true 0x10000 = true ∧
      (rd (halted swap) 0x10004).stalls .p false 0x10004 = true) ∧
    (wr run 0x10000 1).stalls .p true 0x10000 = false ∧ (rd run 0x10004).stalls .p false 0x10004 = false ∧
    (rd run 0x10004).pp.pwq = [] ∧
    (let s := waiting (halted true)
     let u := (waiting run).issueP
     s.stalls .p true 0x10000 = true ∧ s.stalls .f true 0x11004 = true ∧ (waiting run).stalls .p true 0x10000 = false ∧
       u.fp = { held := some (fw 0x11004 1), inFlight := none } ∧ u.stalls .f true 0x11004 = false ∧
       u.pp.current ≠ none ∧ (retryStalled s (waiting run)).pp.current ≠ none ∧
       (retryStalled s (waiting run)).fp.inFlight ≠ none) ∧
    (let s := waiting (halted true)
     (retryStalled s s).pp.current = none ∧ (retryStalled s s).fp.inFlight = none) ∧
    ((resetting .waiting).stalls .p true 0x10000 = true ∧ (resetting .waiting).cc.state = .resetting) := by decide +kernel

/-- A switch pending at window 0, whose notice is queued and offered: into slot B, whose views lie elsewhere, at the next
boundary. -/
def leaving (d : Descriptor) : State :=
  let s := offered.setWin 0 { use inD .filling with fence := true, switchPending := true, slotB := some d }
  { s with cba := { s.cba with config := { s.cba.config with groupLen := 1 } } }

/-- Slot B elsewhere. -/
def awayD : Descriptor := { inD with pview := 0x40000, fview := 0x41000, bank0 := 0x42000, bank1 := 0x43000 }

/-- An access stalled at the FENCE stays stalled when the switch takes the views away, and reaches issue when the FENCE
clears, to pass through (R140; log 39). -/
theorem test_fence_outlives_the_view :
    (let s := after .cycRise (wr (leaving awayD) 0x10004 9)
     (s.win 0).active = .b ∧ s.stalls .p true 0x10004 = false ∧ s.pp.fenced = some 0 ∧ s.pp.current = none ∧
       s.pp.pwq.length = 1 ∧ after (.accessIssue .p) s = s ∧
       (after .noticeAccept s).pp = { pwq := [], readSlot := none, fenced := none, current := some {
         win := none, bankWrite := false, items := [.plain .write 0x10004 0xF 9 none] } }) ∧
    (let s := after .cycRise (rd (leaving awayD) 0x10004)
     s.pp.fenced = some 0 ∧ (after (.accessIssue .p) s).pp.current = none ∧
       (after .noticeTimeout s).pp.current = some {
         win := none, bankWrite := false, items := [.plain .read 0x10004 0xF 0 none] }) := by decide +kernel

/-- The law of the P port with an access that stays stalled, and with a read-clear read in flight and granted. -/
theorem test_meets_port_law :
    PortLaw (after .cycRise (wr (leaving awayD) 0x10004 9)) ∧
    PortLaw clearing ∧ PortLaw (after (.readClear .ok) clearing) := by
  have items (s : State) (l : List PItem) (hc : (s.pp.current.map PAccess.items) = some l)
      (hl : ∀ i ∈ l, i = .plain .read 0xF0020 0xF 0 (some .global)) (hf : s.pp.fenced = none) : PortLaw s :=
    ⟨fun c dir a be d r e m => by
        have : c.items = l := by simpa [e] using hc
        have := hl _ (this ▸ m)
        simp_all,
      fun _ e => by simp [e] at hc, fun w e => by simp [hf] at e⟩
  refine ⟨⟨fun c _ _ _ _ _ e => ?_, fun e => absurd e (by decide +kernel), fun w e => ?_⟩,
    items _ [.plain .read 0xF0020 0xF 0 (some .global)] (by decide +kernel) (by simp) (by decide +kernel),
    items _ [.plain .read 0xF0020 0xF 0 (some .global)] (by decide +kernel) (by simp) (by decide +kernel)⟩
  · have h : (after .cycRise (wr (leaving awayD) 0x10004 9)).pp.current = none := by decide +kernel
    exact absurd (h.symm.trans e) nofun
  · have h : (after .cycRise (wr (leaving awayD) 0x10004 9)).pp.fenced = some 0 := by decide +kernel
    obtain rfl : 0 = w := Option.some.inj (h.symm.trans e)
    exact ⟨by decide +kernel, by decide +kernel, by decide +kernel, by decide +kernel, 0x10004, by decide +kernel,
      by decide +kernel, by decide +kernel⟩

/-- A switch into a disabled slot leaves the window IDLE, and the access passes through in that event (R100). -/
theorem test_fence_ends_at_idle :
    let s := after .cycRise (wr (leaving { awayD with enable := false }) 0x10004 9)
    (s.win 0).state = .idle ∧ (s.win 0).fence = true ∧ s.pp.fenced = none ∧ s.pp.current.isSome = true := by decide +kernel

/-- A FENCE that stands, that has cleared, and that an IDLE window has; and the FENCE at which the access at issue stalls. -/
theorem test_meets_fence :
    (let s := after .cycRise (wr (leaving awayD) 0x10004 9)
     s.fenceStands = true ∧ s.headStalls = true ∧ (s.win 0).inUse ≠ none ∧ s.lines.rst = false ∧
       (after .noticeAccept s).fenceStands = false) ∧
    (wr (leaving awayD) 0x10004 9).headFence = some 0 ∧ (rd (leaving awayD) 0x10004).headFence = some 0 ∧
    (wr run 0x10004 9).headFence = none ∧ (wr run 0x10004 9).stalls .p true 0x10004 = false ∧ run.headFence = none ∧
    (wr (halted true) 0x10004 9).headFence = none ∧ (wr (halted true) 0x10004 9).headStalls = true := by decide +kernel

/-! ## Hypotheses met: commands -/

/-- A command word at issue in any controller state but RESETTING. -/
theorem command_at_issue (s : State) (x : Word) (c : Command) (hs : s = run ∨ s = base) (st : CState) (h : st ≠ .resetting)
    (hc : commandOf (cmdCode x) = some c) : CommandAtIssue (cmd (cc st s) x) { addr := 0xF0000, be := 0xF, data := x } [] c := by
  have ha : 0xF0000#24 = base.cbBase := by decide +kernel
  have hm : base.cbBase.toNat < base.memSize := by decide +kernel
  rcases hs with rfl | rfl <;> exact ⟨⟨rfl, h, rfl, rfl, rfl⟩, ha, hm, rfl, hc⟩

theorem test_meets_commands :
    CommandAtIssue (cmd (cc .stopped base) 0x01) { addr := 0xF0000, be := 0xF, data := 0x01 } [] .start ∧
    CommandAtIssue (cmd (cc .loading base) 0x02) { addr := 0xF0000, be := 0xF, data := 0x02 } [] .stop ∧
    CommandAtIssue (cmd (cc .lost run) 0x02) { addr := 0xF0000, be := 0xF, data := 0x02 } [] .stop ∧
    CommandAtIssue (cmd (cc .draining base) 0x03) { addr := 0xF0000, be := 0xF, data := 0x03 } [] .reset ∧
    CommandAtIssue (cmd (cc .running run) 0x04) { addr := 0xF0000, be := 0xF, data := 0x04 } [] .clearerr ∧
    (∀ c ∈ [Command.load, .switch, .cancel, .hold, .release, .commit, .rearm],
      ∃ x : Word, CommandAtIssue (cmd (cc .armed run) x) { addr := 0xF0000, be := 0xF, data := x } [] c ∧
        CommandAtIssue (cmd (cc .stopped base) x) { addr := 0xF0000, be := 0xF, data := x } [] c) ∧
    Armed CState.armed ∧ Armed CState.lost ∧ ¬ Armed CState.stopped := by
  refine ⟨command_at_issue _ _ _ (.inr rfl) _ (by decide) (by decide), command_at_issue _ _ _ (.inr rfl) _ (by decide) (by decide),
    command_at_issue _ _ _ (.inl rfl) _ (by decide) (by decide), command_at_issue _ _ _ (.inr rfl) _ (by decide) (by decide),
    command_at_issue _ _ _ (.inl rfl) _ (by decide) (by decide), ?_, .inl rfl, .inr (.inr (.inr (.inr rfl))), by simp [Armed]⟩
  have all (c : Command) (x : Word) (hc : commandOf (cmdCode x) = some c) :
      ∃ x : Word, CommandAtIssue (cmd (cc .armed run) x) { addr := 0xF0000, be := 0xF, data := x } [] c ∧
        CommandAtIssue (cmd (cc .stopped base) x) { addr := 0xF0000, be := 0xF, data := x } [] c :=
    ⟨x, command_at_issue _ _ _ (.inl rfl) _ (by decide) hc, command_at_issue _ _ _ (.inr rfl) _ (by decide) hc⟩
  intro c h
  simp only [List.mem_cons, List.not_mem_nil, or_false] at h
  rcases h with rfl | rfl | rfl | rfl | rfl | rfl | rfl
  exacts [all _ 0x10 (by decide), all _ 0x11 (by decide), all _ 0x12 (by decide), all _ 0x20 (by decide), all _ 0x21 (by decide),
    all _ 0x22 (by decide), all _ 0x23 (by decide)]

/-- A command word with three enables, and one whose code names no command; and the states that START and STOP do not
accept. -/
theorem test_meets_unknown : (7#4 ≠ 0xF#4) ∧ commandOf (cmdCode 0x77) = none ∧ commandOf (cmdCode 0x00) = none ∧
    WriteAtIssue (cmd run 0x77) { addr := 0xF0000, be := 0xF, data := 0x77 } [] ∧ (cc .loading base).cc.state ≠ .stopped ∧
    ¬ Armed CState.draining :=
  ⟨by decide, by decide, by decide, ⟨rfl, (by decide), rfl, rfl, rfl⟩, by decide, by simp [Armed]⟩

/-- Reasons for which REARM refuses: an IDLE window, a swap pending, a copy pair in flight; and none. -/
theorem test_meets_rearm :
    (run.win 2).inUse = none ∧ (run.win 0).inUse ≠ none ∧ (run.win 0).swapPending = false ∧
    (half1 run (.loop 0) 0x22004 0x13004).mp.grant.copyDest = some 0 ∧ run.fp.inFlight = none ∧ run.mp.grant.copyDest ≠ some 0 ∧
    ((run.setWin 0 { use inD .filled with swapPending := true }).win 0).swapPending = true := by decide +kernel

/-! ## Hypotheses met: the Memory Port, copies, loads, notices -/

/-- Each winner of an arbitration, in both modes, and what it presents. -/
theorem test_meets_grants :
    run.winner = none ∧ (half1 run (.loop 0) 0 0).mp.grant ≠ .free ∧
    (let s := { carrying with fp := { held := none, inFlight := some { win := none, bankWrite := false, dir := .read, addr := 0x14000, be := 0xF, data := 0 } } }
     s.winner = some .f ∧ s.lines.rst = false ∧ s.mp.grant = .free) ∧
    (∀ i ∈ [PItem.plain .read 0x14000 0xF 0 none, .plain .read 0xF0020 0xF 0 (some .global), .merge 1 .or 0xF 1 0x22004,
        .demand 1 2 0x23008 0x22008], (inFlightP run [i]).winner = some .p) ∧
    (loading.winner = some .k ∧ loading.cba.request = some .load) ∧
    ((fetching 1).winner = some .k ∧ (fetching 1).cba.request = some .fetch) ∧
    (let s := { run with cba := { run.cba with writeback := some { name := .win 15, word := 3 }, request := some .writeback } }
     s.winner = some .k) ∧
    (carrying.winner = some .c ∧ carrying.job = some { kind := .carry, dest := 1, urgent := false } ∧
      (carrying.win 1).inUse = some outD ∧ (carrying.win 1).carry = 2 :: [] ∧ outD.live 2 = false) ∧
    (let s := { looping with ce := { looping.ce with request := true } }
     s.winner = some .c ∧ s.job = some { kind := .loop 1 1, dest := 0, urgent := false } ∧ (s.win 0).inUse = some loopD ∧
       (s.win 0).state = .filling ∧ (s.win 1).inUse = some outD ∧ outD.kind = .output ∧ 1 < min loopD.len outD.len ∧
       loopD.live 1 = false) ∧
    (let s := { inFlightP carrying [.plain .write 0x14000 0xF 0 none] with
       ce := { carrying.ce with jobs := [{ kind := .carry, dest := 1, urgent := true }] } }
     s.winner = some .c) ∧
    (let s := { inFlightP carrying [.plain .write 0x14000 0xF 0 none] with
       cba := { run.cba with config := { run.cba.config with arbMode := .rotating } } }
     s.winner = some .p) := by decide +kernel

/-- The grants that a job finds without a pair to make: no mark left, a destination not FILLING, a source gone. -/
theorem test_meets_withdrawn :
    (let s := { carrying.setWin 1 (use outD .composing) with ce := carrying.ce }
     s.winner = some .c ∧ (s.win 1).carry = []) ∧
    (let s := { looping.setWin 0 (use loopD .tripped) with ce := { looping.ce with request := true } }
     s.winner = some .c ∧ (s.win 0).state ≠ .filling) ∧
    (let s := { looping with ce := { jobs := [{ kind := .loop 1 4, dest := 0, urgent := false }], running := true, request := true } }
     s.winner = some .c ∧ s.job = some { kind := .loop 1 4, dest := 0, urgent := false } ∧ (s.win 0).inUse = some loopD ∧
       (s.win 0).state = .filling ∧ (s.win 1).inUse = some outD ∧ min loopD.len outD.len ≤ 4) ∧
    (let s := { looping.setWin 1 Window.reset with ce := { looping.ce with request := true } }
     s.winner = some .c ∧ (s.win 1).inUse = none ∧ (s.win 0).state = .filling) := by decide +kernel

theorem test_meets_read_clear : clearing.lines.rst = false ∧ clearing.winner = some .p ∧
    (clearing.pp.current.map PAccess.items) = some [.plain .read 0xF0020 0xF 0 (some .global)] := by decide +kernel

/-- Transactions and halves granted, each to be answered either way. -/
theorem test_meets_completions :
    (∀ w ∈ [SingleWork.pPlain, .fAccess], ∀ d ∈ [Dir.read, .write],
      (single run w d 0x14000 7).mp.grant =
        .single { work := w, dir := d, addr := 0x14000, be := 0xF, data := 7, foretold := none } ∧
      (single run w d 0x14000 7).lines.rst = false) ∧
    (∀ w ∈ [PairWork.merge 1 .or 0xF 1, .demand 1 2, .carry 1 2, .loop 0],
      (half1 run w 0x23008 0x22008).mp.grant = .pairRead { work := w, src := 0x23008, dst := 0x22008 } ∧
      (half2 run w 0x23008 0x22008 7).mp.grant = .pairWrite { work := w, src := 0x23008, dst := 0x22008 } 7) := by decide +kernel

/-- A read-clear read is granted with its answer foretold: one completion is that answer, the other is not. -/
theorem test_meets_foretold :
    let g : Single := { work := .pPlain, dir := .read, addr := 0xF0020, be := 0xF, data := 0, foretold := some .ok }
    let s := { clearing with mp := { clearing.mp with grant := .single g } }
    s.lines.rst = false ∧ g.foretold = some .ok ∧ g.foretold ≠ none ∧ g.foretold ≠ some .err ∧
      (after (.pAccessComplete .ok) s).pp.current = none ∧ after (.pAccessComplete .err) s = s := by decide +kernel

/-- The windows that a demand copy and a carry pair find, and the jobs in progress or ended. -/
theorem test_meets_copies :
    (∀ st ∈ [WState.composing, .committed, .tripped, .fault, .idle], ((pair .filling st).win 1).state = st) ∧
    run.ce.running = false ∧ carrying.ce.running = true ∧ (carrying.win 1).carry.erase 2 = [] ∧
    (let s := carrying.setWin 1 { use outD .composing with carry := [2, 3] }
     (s.win 1).carry.erase 2 ≠ [] ∧ s.job = some { kind := .carry, dest := 1, urgent := false } ∧ s.cc.state ≠ .resetting ∧
       (cc .resetting s).cc.state = .resetting) := by decide +kernel

/-- A job that may start: each first test. -/
theorem test_meets_job_start :
    (let s := { carrying with ce := { carrying.ce with running := false, request := false } }
     s.ce.running = false ∧ s.ce.jobs ≠ [] ∧ s.mp.grant.holder ≠ some .c ∧ s.cc.state ≠ .resetting ∧ (s.win 1).carry ≠ []) ∧
    (let s := { looping with ce := { looping.ce with running := false } }
     s.ce.running = false ∧ (s.win 0).inUse = some loopD ∧ (s.win 0).state = .filling ∧ (s.win 1).inUse = some outD ∧
       1 < min loopD.len outD.len ∧ min loopD.len outD.len ≤ 4) ∧
    carrying.ce.running = true ∧ run.ce.jobs = [] ∧ (half1 run (.loop 0) 0 0).mp.grant.holder = some .c := by decide +kernel

/-- A loop word that is counted, that is the terminal one, and that finds its destination away or its source gone. -/
theorem test_meets_loop_words :
    (looping.ce.running = true ∧ looping.ce.jobs = [{ kind := .loop 1 1, dest := 0, urgent := false }] ∧
      (looping.win 0).inUse = some loopD ∧ (looping.win 0).state = .filling ∧ (looping.win 0).fill ≠ 0 ∧
      (looping.win 1).inUse = some outD ∧ 1 + 1 < min loopD.len outD.len ∧ min loopD.len outD.len ≤ 3 + 1) ∧
    (let s := looping.setWin 0 (use loopD .filling)
     (s.win 0).fill = 0 ∧ (s.win 0).inUse = some loopD ∧ s.ce.running = true) ∧
    ((looping.setWin 0 (use loopD .filled)).win 0).state ≠ .filling ∧
    ((looping.setWin 1 (use inD .filling)).win 1).inUse = some inD := by decide +kernel

/-- A swap that is performed, of either kind, with a place reserved; and the swaps that wait. -/
theorem test_meets_swap :
    (∀ p ∈ [(inD, (0 : Win), WState.filled), (outD, 1, .committed)],
      let s := { run.setWin p.2.1 { use p.1 p.2.2 with swapPending := true } with nu := { run.nu with reservations := [p.2.1] } }
      s.lines.rst = false ∧ s.cc.state ≠ .resetting ∧ (s.win p.2.1).swapPending = true ∧ (s.win p.2.1).waitSet = [] ∧
        (s.win p.2.1).inUse = some p.1) ∧
    (run.win 0).swapPending = false ∧
    ((run.setWin 1 { use outD .committed with swapPending := true, waitSet := [.job 1] }).win 1).waitSet ≠ [] := by
  decide +kernel

/-- The reads of a START load: a word, the configuration record, a descriptor that is valid or not; and its ends. -/
theorem test_meets_load :
    (single loading .loadRead .read 0xF005C 0).cba.load ≠ none ∧ loading.cc.state ≠ .resetting ∧ run.cba.load = none ∧
    decodeConfig [1, 0, 1, 0, 0, 0, 0, 0] ≠ none ∧ decodeConfig [1, 3, 1, 0, 0, 0, 0, 0] = none ∧
    decodeConfig [1, 0, 2, 0, 0, 0, 0, 0] = none ∧
    reloading.cba.load ≠ none ∧ reloading.validate 0 (decodeDescriptor [3, 4, 0x30000, 0x31000, 0x32000, 0x33000, 0, 0]) = true ∧
    (decodeDescriptor [3, 4, 0x30000, 0x31000, 0x32000, 0x33000, 0, 0]).kind = .output ∧
    run.validate 2 (decodeDescriptor [1, 4, 0x30000, 0x31000, 0x32000, 0x33000, 0, 0]) = true ∧
    run.validate 2 (decodeDescriptor [1, 4, 0x10000, 0x31000, 0x32000, 0x33000, 0, 0]) = false ∧
    run.validate 2 (decodeDescriptor [1, 0, 0x30000, 0x31000, 0x32000, 0x33000, 0, 0]) = false ∧
    loading.cc.state = .loading ∧ loading.lines.rst = false := by decide +kernel

theorem test_meets_fetch :
    let s := single (fetching 1) .fetchRead .read 0xF065C 0
    s.lines.rst = false ∧ s.cba.fetch ≠ none ∧ s.cc.state ≠ .resetting ∧ s.cba.loadQueue.tail = [] ∧ run.cba.fetch = none ∧
      (∀ f, s.cba.fetch = some f → (f.words ++ [s.mem.readWord 0xF065C]).length = 8) :=
  ⟨by decide +kernel, by decide +kernel, by decide +kernel, by decide +kernel, by decide +kernel,
    fun _ h => by cases h; rfl⟩

theorem test_meets_notices :
    (noticed.lines.rst = false ∧ noticed.nu.queue = { win := 0, base := 0x10000, len := 16 } :: [] ∧ noticed.nu.offer = none) ∧
    (offered.nu.offer = some { win := 0, base := 0x10000, len := 16 } ∧ offered.nu.timer = true) ∧
    run.nu.queue = [] ∧ run.nu.offer = none := by decide +kernel

end Sys2Proof.Tests
end

section
/-! An evaluated pulse that finds an input window FILLING (R48, R49, R56, R58). The pulse is three operations one
after another: the reload, the miss of a window with VALID set, and the loop window's next job. For each there is one
lemma on the records, one on the Copy Engine, one on the cause flags and one on the dirty set. -/

namespace Sys2Proof.Laws

open Sys2Proof.Machine Sys2Proof.Safety

/-! ## Saturating counts -/

theorem satInc4_eq (n : BitVec 4) : satInc4 n = if n = 15 then 15 else n + 1 := by
  unfold satInc4; split <;> simp_all

theorem satInc8_eq (n : BitVec 8) : satInc8 n = if n = 255 then 255 else n + 1 := by
  unfold satInc8; split <;> simp_all

/-! ## The dirty set -/

@[simp] theorem mem_dirty_touch (s : State) (q r : RecName) :
    r ∈ (s.touch q).cba.dirty ↔ r ∈ s.cba.dirty ∨ r = q := by
  unfold State.touch
  split
  · exact ⟨.inl, fun h => h.elim id (fun e => e ▸ ‹_›)⟩
  · simp

theorem mem_dirty_record (s : State) (c : Cause) (r : RecName) :
    r ∈ (s.record c).cba.dirty ↔ r ∈ s.cba.dirty ∨ r = .global := by
  simp [State.record]

/-- An event makes its window's record dirty, and GLOBAL where it has a cause flag (R157). -/
theorem mem_dirty_event (s : State) (w : Win) (e : WEvent) (r : RecName) :
    r ∈ (s.event w e).cba.dirty ↔ r ∈ s.cba.dirty ∨ r = .win w ∨ (e.cause.isSome ∧ r = .global) := by
  unfold State.event State.recordCauseOf
  cases e.cause <;> simp [mem_dirty_record, or_assoc]

/-! ## The end of a job -/

/-- What is left of the Copy Engine when a job is removed or ended (R87). -/
theorem endJob_ce (s : State) (w : Win) : (s.endJob w).ce = withoutJobs s.ce fun v => v == w := by
  unfold State.endJob
  split
  next =>
    simp only [touch_keeps, leaveWait_keeps, withoutJobs, State.job, CopyEngine.mk.injEq]
    refine ⟨rfl, ?_, ?_⟩ <;> cases s.ce.running <;> simp
  next hnone =>
    have others (j) (hj : j ∈ s.ce.jobs) : (j.dest == w) = false := by
      simp only [State.hasJob, Bool.not_eq_true, List.any_eq_false] at hnone
      simpa using hnone j hj
    have headOther : (s.ce.jobs.head?.any fun j => j.dest == w) = false := by
      cases hjobs : s.ce.jobs with
      | nil => rfl
      | cons j js => exact others j (by simp [hjobs])
    have keepAll : (s.ce.jobs.filter fun j => !(j.dest == w)) = s.ce.jobs :=
      List.filter_eq_self.mpr fun j hj => by simp [others j hj]
    simp [withoutJobs, headOther, keepAll]

/-- A record when a job has been removed or ended (R14). -/
theorem win_endJob_jobsLeave (s : State) (w v : Win) : (s.endJob w).win v =
    { s.win v with waitSet := jobsLeave (if s.hasJob w then [w] else []) (s.win v).waitSet } := by
  rw [win_endJob]
  cases s.hasJob w <;> rfl

theorem hasJob_endJob (s : State) (w : Win) : (s.endJob w).hasJob w = false := by
  simp [State.hasJob, endJob_jobs]

/-! ## The reload -/

/-- The reload of an input window at a pulse (R46, R48, R58): its loop job ends and the fill counter is EXPECT. -/
def reloadFill (s : State) (w : Win) (d : Descriptor) : State :=
  ((s.endJob w).modWin w fun x => { x with fill := d.expect }).touch (.win w)

theorem win_reloadFill (s : State) (w : Win) (d : Descriptor) (v : Win) : (reloadFill s w d).win v =
    { s.win v with
      fill := if v = w then d.expect else (s.win v).fill
      waitSet := jobsLeave (if s.hasJob w then [w] else []) (s.win v).waitSet } := by
  by_cases h : v = w <;> simp [reloadFill, -win_endJob, win_endJob_jobsLeave, h]

theorem reloadFill_ce (s : State) (w : Win) (d : Descriptor) :
    (reloadFill s w d).ce = withoutJobs s.ce fun v => v == w := by
  simp [reloadFill, endJob_ce]

theorem hasJob_reloadFill (s : State) (w : Win) (d : Descriptor) : (reloadFill s w d).hasJob w = false := by
  simpa [State.hasJob, reloadFill] using hasJob_endJob s w

theorem reloadFill_causes (s : State) (w : Win) (d : Descriptor) :
    (reloadFill s w d).cba.causes = s.cba.causes := by
  simp [reloadFill]

theorem mem_dirty_reloadFill (s : State) (w : Win) (d : Descriptor) :
    RecName.win w ∈ (reloadFill s w d).cba.dirty := by
  simp [reloadFill]

/-! ## The miss -/

/-- A miss now would trip the window (R49). -/
def missTrips (x : Window) (d : Descriptor) : Bool := d.missLimit != 0 && satInc4 x.miss == d.missLimit

theorem missTrips_iff (x : Window) (d : Descriptor) :
    missTrips x d = true ↔ d.missLimit ≠ 0 ∧ satInc4 x.miss = d.missLimit := by
  simp [missTrips]

theorem missed_eq (x : Window) (d : Descriptor) : x.missed d =
    { x with
      miss := satInc4 x.miss
      lost := satInc8 x.lost
      state := if missTrips x d then .tripped else x.state } := by
  unfold Window.missed
  by_cases trips : missTrips x d = true
  · rw [if_pos ((missTrips_iff x d).mp trips), if_pos trips]
  · rw [if_neg (mt (missTrips_iff x d).mpr trips), if_neg trips]

/-- A miss of a window that is not TRIPPED records TRIP exactly when it trips (R49). -/
theorem miss_eq (s : State) (w : Win) (d : Descriptor) (h : (s.win w).state ≠ .tripped) : s.miss w d =
    if missTrips (s.win w) d then ((s.modWin w fun x => x.missed d).touch (.win w)).event w .trip
    else (s.modWin w fun x => x.missed d).touch (.win w) := by
  cases trips : missTrips (s.win w) d <;> simp [State.miss, missed_eq, trips, h]

theorem win_miss (s : State) (w : Win) (d : Descriptor) (h : (s.win w).state ≠ .tripped) (v : Win) :
    (s.miss w d).win v =
      if v = w then
        { (s.win w).missed d with
          events := (s.win w).events ||| if missTrips (s.win w) d then WEvent.mask .trip else 0 }
      else s.win v := by
  rw [miss_eq s w d h]
  cases trips : missTrips (s.win w) d <;> by_cases hv : v = w <;> simp [trips, hv, missed_eq]

theorem miss_causes (s : State) (w : Win) (d : Descriptor) (h : (s.win w).state ≠ .tripped) :
    (s.miss w d).cba.causes = s.cba.causes ||| if missTrips (s.win w) d then Cause.mask .trip else 0 := by
  rw [miss_eq s w d h]
  split <;> simp [event_causes, WEvent.cause]

theorem mem_dirty_miss {s : State} {r : RecName} (w : Win) (d : Descriptor) (h : r ∈ s.cba.dirty) :
    r ∈ (s.miss w d).cba.dirty := by
  unfold State.miss
  simp only
  split <;> simp [mem_dirty_event, h]

/-- The miss of a window with VALID set, with its UNDERRUN (R48); nothing while priming. -/
def missIfValid (s : State) (w : Win) (d : Descriptor) : State :=
  if (s.win w).valid then (s.miss w d).event w .underrun else s

theorem win_missIfValid (s : State) (w : Win) (d : Descriptor) (h : (s.win w).state ≠ .tripped) (v : Win) :
    (missIfValid s w d).win v =
      if v = w ∧ (s.win w).valid then
        { (s.win w).missed d with
          events := (s.win w).events ||| (if missTrips (s.win w) d then WEvent.mask .trip else 0) |||
            WEvent.mask .underrun }
      else s.win v := by
  by_cases valid : (s.win w).valid = true <;> by_cases hv : v = w <;> simp [missIfValid, valid, hv, win_miss s w d h]

theorem missIfValid_ce (s : State) (w : Win) (d : Descriptor) : (missIfValid s w d).ce = s.ce := by
  unfold missIfValid; split <;> simp

theorem missIfValid_causes (s : State) (w : Win) (d : Descriptor) (h : (s.win w).state ≠ .tripped) :
    (missIfValid s w d).cba.causes =
      s.cba.causes ||| (if (s.win w).valid ∧ missTrips (s.win w) d then Cause.mask .trip else 0) |||
        (if (s.win w).valid then Cause.mask .underrun else 0) := by
  unfold missIfValid
  split <;> simp_all [event_causes, WEvent.cause, miss_causes s w d h]

theorem mem_dirty_missIfValid {s : State} {r : RecName} (w : Win) (d : Descriptor) (h : r ∈ s.cba.dirty) :
    r ∈ (missIfValid s w d).cba.dirty := by
  unfold missIfValid
  split
  · exact (mem_dirty_event ..).mpr (.inl (mem_dirty_miss w d h))
  · exact h

theorem global_mem_dirty_missIfValid {s : State} {w : Win} (d : Descriptor) (h : (s.win w).valid = true) :
    RecName.global ∈ (missIfValid s w d).cba.dirty := by
  simp [missIfValid, h, mem_dirty_event, WEvent.cause]

/-! ## The next loop job -/

/-- A loop window that is FILLING and has no job asks for one (R56). -/
theorem enqueueLoop_eq {s : State} {w : Win} {d : Descriptor} (use : (s.win w).inUse = some d)
    (input : d.kind = .input) (free : s.hasJob w = false) : s.enqueueLoop w =
      if d.loop ∧ (s.win w).state = .filling then
        if (s.loopSource d.loopSrc).isSome then
          (s.enqueueJob { kind := .loop d.loopSrc 0, dest := w, urgent := false }).touch (.win w)
        else s.event w .loopNosrc
      else s := by
  unfold State.enqueueLoop
  simp only [use, input, free]
  cases s.loopSource d.loopSrc <;> simp

section
variable {s : State} {w : Win} {d : Descriptor} (use : (s.win w).inUse = some d) (input : d.kind = .input)
  (free : s.hasJob w = false)
include use input free

theorem win_enqueueLoop_eq (v : Win) : (s.enqueueLoop w).win v =
    if v = w then
      { s.win w with
        events := (s.win w).events |||
          if d.loop ∧ (s.win w).state = .filling ∧ ¬ (s.loopSource d.loopSrc).isSome then WEvent.mask .loopNosrc else 0 }
    else s.win v := by
  rw [enqueueLoop_eq use input free]
  by_cases hv : v = w
  · subst hv
    split
    next asks =>
      split
      next source => simp [source]
      next noSource => simp [noSource, asks]
    next idle => simp [idle, ← and_assoc]
  · rw [if_neg hv]
    split
    next asks =>
      split
      next source => rw [win_touch, win_enqueueJob]
      next noSource => rw [win_event, if_neg hv]
    next idle => rfl

theorem enqueueLoop_jobs : (s.enqueueLoop w).ce.jobs =
    s.ce.jobs ++ if d.loop ∧ (s.win w).state = .filling ∧ (s.loopSource d.loopSrc).isSome then
      [{ kind := .loop d.loopSrc 0, dest := w, urgent := false }] else [] := by
  rw [enqueueLoop_eq use input free]
  split
  next asks => split <;> simp_all [enqueueJob_jobs]
  next idle => simp_all

end

/-- LOOP_NOSRC has no cause flag (R39). -/
theorem enqueueLoop_causes (s : State) (w : Win) : (s.enqueueLoop w).cba.causes = s.cba.causes := by
  unfold State.enqueueLoop
  split
  · rfl
  · split
    · split <;> simp [event_causes, WEvent.cause]
    · rfl

theorem mem_dirty_enqueueLoop {s : State} {r : RecName} (w : Win) (h : r ∈ s.cba.dirty) :
    r ∈ (s.enqueueLoop w).cba.dirty := by
  unfold State.enqueueLoop
  split
  · exact h
  · split
    · split <;> simp [mem_dirty_event, h]
    · exact h

/-! ## The descriptor in use -/

/-- The descriptor in use depends on the slots, and on the state only in whether it is IDLE. -/
theorem inUse_congr {x y : Window} (slotA : x.slotA = y.slotA) (slotB : x.slotB = y.slotB) (active : x.active = y.active)
    (idle : x.state = .idle ↔ y.state = .idle) : x.inUse = y.inUse := by
  have desc : x.desc = y.desc := by
    unfold Window.desc Window.slot
    rw [slotA, slotB, active]
  simp only [Window.inUse, desc, idle]

/-- The source of a loop depends on the descriptor its window has in use. -/
theorem loopSource_congr {s t : State} {v : Win} (h : (t.win v).inUse = (s.win v).inUse) :
    t.loopSource v = s.loopSource v := by
  simp only [State.loopSource, h]

/-! ## The pulse -/

/-- The state a pulse leaves an input window FILLING in, its next loop job apart (R48). -/
def underfilled (s : State) (w : Win) (d : Descriptor) : State := missIfValid (reloadFill s w d) w d

theorem underfill_eq (s : State) (w : Win) (d : Descriptor) :
    s.underfill w d = (underfilled s w d).enqueueLoop w := by
  have valid : ((reloadFill s w d).win w).valid = (s.win w).valid := by rw [win_reloadFill]
  unfold underfilled missIfValid
  rw [valid]
  rfl

theorem underfilled_ce (s : State) (w : Win) (d : Descriptor) :
    (underfilled s w d).ce = withoutJobs s.ce fun v => v == w := by
  rw [underfilled, missIfValid_ce, reloadFill_ce]

theorem hasJob_underfilled (s : State) (w : Win) (d : Descriptor) : (underfilled s w d).hasJob w = false := by
  simpa [State.hasJob, underfilled, missIfValid_ce] using hasJob_reloadFill s w d

theorem mem_dirty_underfilled (s : State) (w : Win) (d : Descriptor) :
    RecName.win w ∈ (underfilled s w d).cba.dirty :=
  mem_dirty_missIfValid w d (mem_dirty_reloadFill s w d)

/-- GLOBAL is dirty after a miss, for UNDERRUN is recorded (R157). -/
theorem global_mem_dirty_underfilled {s : State} {w : Win} (d : Descriptor) (h : (s.win w).valid = true) :
    RecName.global ∈ (underfilled s w d).cba.dirty :=
  global_mem_dirty_missIfValid d (by rw [win_reloadFill]; exact h)

section
variable {s : State} {w : Win} (d : Descriptor) (filling : (s.win w).state = .filling)
include filling

theorem reloadFill_not_tripped : ((reloadFill s w d).win w).state ≠ .tripped := by
  rw [win_reloadFill, filling]; decide

/-- The window after the reload and, with VALID set, the miss (R48, R49). -/
theorem win_underfilled : (underfilled s w d).win w =
    { s.win w with
      state := if (s.win w).valid ∧ missTrips (s.win w) d then .tripped else .filling
      fill := d.expect
      miss := if (s.win w).valid then satInc4 (s.win w).miss else (s.win w).miss
      lost := if (s.win w).valid then satInc8 (s.win w).lost else (s.win w).lost
      events := (s.win w).events ||| (if (s.win w).valid ∧ missTrips (s.win w) d then WEvent.mask .trip else 0) |||
        (if (s.win w).valid then WEvent.mask .underrun else 0)
      waitSet := jobsLeave (if s.hasJob w then [w] else []) (s.win w).waitSet } := by
  rw [underfilled, win_missIfValid _ _ _ (reloadFill_not_tripped d filling), win_reloadFill]
  cases valid : (s.win w).valid <;> simp [valid, missed_eq, filling, missTrips]

/-- TRIP and UNDERRUN set the cause flags of their names (R39, R157). -/
theorem underfilled_causes : (underfilled s w d).cba.causes =
    s.cba.causes ||| (if (s.win w).valid ∧ missTrips (s.win w) d then Cause.mask .trip else 0) |||
      (if (s.win w).valid then Cause.mask .underrun else 0) := by
  rw [underfilled, missIfValid_causes _ _ _ (reloadFill_not_tripped d filling), win_reloadFill, reloadFill_causes]
  rfl

/-- Another window only loses the ended job from its wait set. -/
theorem win_underfilled_other {v : Win} (hv : v ≠ w) : (underfilled s w d).win v =
    { s.win v with waitSet := jobsLeave (if s.hasJob w then [w] else []) (s.win v).waitSet } := by
  rw [underfilled, win_missIfValid _ _ _ (reloadFill_not_tripped d filling), if_neg fun h => hv h.1, win_reloadFill,
    if_neg hv]

/-- A trip does not make the window IDLE, so every window keeps the descriptor it has in use. -/
theorem inUse_underfilled (v : Win) : ((underfilled s w d).win v).inUse = (s.win v).inUse := by
  by_cases hv : v = w
  · subst hv
    rw [win_underfilled d filling]
    refine inUse_congr rfl rfl rfl ?_
    simp only [filling]
    split <;> decide
  · rw [win_underfilled_other d filling hv]
    exact inUse_congr rfl rfl rfl Iff.rfl

theorem underfilled_filling_iff :
    ((underfilled s w d).win w).state = .filling ↔ ¬ ((s.win w).valid ∧ missTrips (s.win w) d) := by
  rw [win_underfilled d filling]
  simp only
  split <;> simp_all

end

section
variable {s : State} {w : Win} {d : Descriptor} (use : (s.win w).inUse = some d) (input : d.kind = .input)
  (filling : (s.win w).state = .filling)
include use input filling

/-- LOOP_NOSRC is recorded for a loop window that has not tripped and has no source (R56). -/
theorem win_underfill : (s.underfill w d).win w =
    { (underfilled s w d).win w with
      events := ((underfilled s w d).win w).events |||
        if d.loop ∧ ¬ ((s.win w).valid ∧ missTrips (s.win w) d) ∧ ¬ (s.loopSource d.loopSrc).isSome then
          WEvent.mask .loopNosrc else 0 } := by
  rw [underfill_eq, win_enqueueLoop_eq ((inUse_underfilled d filling w).trans use) input (hasJob_underfilled s w d),
    if_pos rfl, loopSource_congr (inUse_underfilled d filling _)]
  simp only [underfilled_filling_iff d filling]

/-- The new job is in no wait set. -/
theorem win_underfill_other {v : Win} (hv : v ≠ w) : (s.underfill w d).win v =
    { s.win v with waitSet := jobsLeave (if s.hasJob w then [w] else []) (s.win v).waitSet } := by
  rw [underfill_eq, win_enqueueLoop_eq ((inUse_underfilled d filling w).trans use) input (hasJob_underfilled s w d),
    if_neg hv, win_underfilled_other d filling hv]

/-- The old job is gone, and a loop window that has not tripped has a new one (R56, R58). -/
theorem underfill_ce : (s.underfill w d).ce =
    { withoutJobs s.ce (fun v => v == w) with
      jobs := (withoutJobs s.ce fun v => v == w).jobs ++
        if d.loop ∧ ¬ ((s.win w).valid ∧ missTrips (s.win w) d) ∧ (s.loopSource d.loopSrc).isSome then
          [{ kind := .loop d.loopSrc 0, dest := w, urgent := false }] else [] } := by
  have jobs := enqueueLoop_jobs ((inUse_underfilled d filling w).trans use) input (hasJob_underfilled s w d)
  rw [loopSource_congr (inUse_underfilled d filling _)] at jobs
  simp only [underfilled_filling_iff d filling, underfilled_ce] at jobs
  rw [underfill_eq, ← jobs, ← underfilled_ce s w d]
  simp only [← enqueueLoop_keeps (underfilled s w d) w]

end

/-- What an underfill can change. -/
theorem underfill_frame (s : State) (w : Win) (d : Descriptor) : s.underfill w d =
    { s with
      windows := (s.underfill w d).windows
      ce := (s.underfill w d).ce
      cba := { s.cba with causes := (s.underfill w d).cba.causes, dirty := (s.underfill w d).cba.dirty } } := by
  have keeps := underfill_keeps s w d
  revert keeps
  generalize s.underfill w d = t
  obtain ⟨lines, cc, windows, pp, fp, ce, nu, cba, mp, mem, free, pending⟩ := t
  obtain ⟨⟩ := cba
  simp +contextual

/-- An evaluated pulse with no switch to test, at an input window FILLING without SWAP PENDING. -/
theorem takePulse_filling {s : State} {w : Win} {d : Descriptor} {boundary : Bool}
    (noSwitch : boundary = true → (s.win w).switchPending = false) (use : (s.win w).inUse = some d)
    (input : d.kind = .input) (filling : (s.win w).state = .filling) (noSwap : (s.win w).swapPending = false) :
    s.takePulse boundary false w = s.underfill w d := by
  have evaluated : s.takePulse boundary false w = s.evaluate false w := by
    cases boundary with
    | false => simp [State.takePulse]
    | true => simp [State.takePulse, noSwitch rfl]
  simp [evaluated, State.evaluate, use, noSwap, input, State.evalInput, filling]

/-- Settles O26: the pulse is an underfill, and each clause is the lemma on that part of the state after one. -/
theorem pulseFindsAnInputFilling : Obligations.PulseFindsAnInputFilling := by
  unfold Obligations.PulseFindsAnInputFilling
  intro s w d boundary noSwitch use input filling noSwap
  simp only [takePulse_filling noSwitch use input filling noSwap, ← satInc4_eq, ← satInc8_eq, ← missTrips_iff]
  refine ⟨?_, fun v hv => win_underfill_other use input filling hv, ?_, ?_, fun valid => ?_, ?_⟩
  · rw [win_underfill use input filling, win_underfilled d filling]
  · rw [underfill_eq, enqueueLoop_causes, underfilled_causes d filling]
  · rw [underfill_eq]
    exact mem_dirty_enqueueLoop w (mem_dirty_underfilled s w d)
  · rw [underfill_eq]
    exact mem_dirty_enqueueLoop w (global_mem_dirty_underfilled d valid)
  · rw [← underfill_ce use input filling]
    exact underfill_frame s w d

end Sys2Proof.Laws
end

section
/-! An evaluated pulse that finds an output window COMPOSING (R71). With VALID set the underrun is the miss of
`missIfValid` followed by SAFE under POLICY SAFE, so its record, cause flags and dirty set are those of the miss. -/

namespace Sys2Proof.Laws

open Sys2Proof.Machine Sys2Proof.Safety

/-! ## The underrun -/

/-- While priming the pulse finds nothing missed (R71). -/
theorem underrun_of_not_valid {s : State} {w : Win} (d : Descriptor) (h : (s.win w).valid = false) :
    s.underrun w d = s := by
  simp [State.underrun, h]

/-- What an underrun can change. -/
theorem underrun_frame (s : State) (w : Win) (d : Descriptor) : s.underrun w d =
    { s with
      windows := (s.underrun w d).windows
      cba := { s.cba with causes := (s.underrun w d).cba.causes, dirty := (s.underrun w d).cba.dirty } } := by
  have keeps := underrun_keeps s w d
  revert keeps
  generalize s.underrun w d = t
  obtain ⟨lines, cc, windows, pp, fp, ce, nu, cba, mp, mem, free, pending⟩ := t
  obtain ⟨⟩ := cba
  simp +contextual

section
variable {s : State} {w : Win} (d : Descriptor) (valid : (s.win w).valid = true)
include valid

theorem underrun_of_valid : s.underrun w d =
    (missIfValid s w d).modWin w fun x => { x with safe := x.safe || d.policy == .safe } := by
  simp [State.underrun, missIfValid, valid]

/-- The underrun makes its window's record dirty, and GLOBAL, for UNDERRUN has a cause flag (R157). -/
theorem mem_dirty_underrun : RecName.win w ∈ (s.underrun w d).cba.dirty ∧ RecName.global ∈ (s.underrun w d).cba.dirty := by
  rw [underrun_of_valid d valid, modWin_cba]
  refine ⟨?_, global_mem_dirty_missIfValid d valid⟩
  simp [missIfValid, valid, mem_dirty_event]

variable (composing : (s.win w).state = .composing)
include composing

/-- The record of the window after the underrun (R49, R71); the other records are as they were. -/
theorem underrun_windows : (s.underrun w d).windows = (s.setWin w
    { s.win w with
      state := if missTrips (s.win w) d then .tripped else .composing
      miss := satInc4 (s.win w).miss
      lost := satInc8 (s.win w).lost
      events := (s.win w).events ||| (if missTrips (s.win w) d then WEvent.mask .trip else 0) ||| WEvent.mask .underrun
      safe := (s.win w).safe || d.policy == .safe }).windows := by
  refine windows_ext fun v => ?_
  have notTripped : (s.win w).state ≠ .tripped := by simp [composing]
  rw [underrun_of_valid d valid, win_modWin, win_setWin]
  by_cases hv : v = w
  · simp [hv, win_missIfValid s w d notTripped, valid, missed_eq, composing]
  · rw [if_neg hv, if_neg hv, win_missIfValid s w d notTripped, if_neg fun h => hv h.1]

/-- TRIP and UNDERRUN set the cause flags of their names (R157). -/
theorem underrun_causes : (s.underrun w d).cba.causes =
    s.cba.causes ||| (if missTrips (s.win w) d then Cause.mask .trip else 0) ||| Cause.mask .underrun := by
  rw [underrun_of_valid d valid, modWin_cba, missIfValid_causes s w d (by simp [composing])]
  simp [valid]

end

/-! ## The pulse -/

/-- With no switch to test, a pulse is its evaluation (R25, R138). -/
theorem takePulse_eq_evaluate {s : State} {w : Win} {boundary : Bool} (outputOnly : Bool)
    (noSwitch : boundary = true → (s.win w).switchPending = false) :
    s.takePulse boundary outputOnly w = s.evaluate outputOnly w := by
  cases boundary with
  | false => simp [State.takePulse]
  | true => simp [State.takePulse, noSwitch rfl]

/-- An output window COMPOSING without SWAP PENDING is in the scope of every evaluated pulse, and underruns (R71). -/
theorem evaluate_composing {s : State} {w : Win} {d : Descriptor} (outputOnly : Bool) (use : (s.win w).inUse = some d)
    (output : d.kind = .output) (composing : (s.win w).state = .composing) (noSwap : (s.win w).swapPending = false) :
    s.evaluate outputOnly w = s.underrun w d := by
  simp [State.evaluate, use, output, noSwap, State.evalOutput, composing]

/-- Settles O27: the pulse is an underrun, and with VALID set its frame is filled in with the record and the cause flags
it leaves. -/
theorem pulseFindsAnOutputComposing : Obligations.PulseFindsAnOutputComposing := by
  unfold Obligations.PulseFindsAnOutputComposing
  intro s w d boundary outputOnly noSwitch use output composing noSwap
  simp only [takePulse_eq_evaluate outputOnly noSwitch, evaluate_composing outputOnly use output composing noSwap,
    ← satInc4_eq, ← satInc8_eq, ← missTrips_iff]
  refine ⟨fun valid => ?_, underrun_of_not_valid d⟩
  obtain ⟨windowDirty, globalDirty⟩ := mem_dirty_underrun d valid
  refine ⟨windowDirty, globalDirty, ?_⟩
  have frame := underrun_frame s w d
  rwa [underrun_windows d valid composing, underrun_causes d valid composing] at frame

end Sys2Proof.Laws
end

section
/-! CLEARERR at its taking (R149). The row of an accepted command, whichever it is, is the command itself with the
word's own write as the current access (R94, R152); CLEARERR is accepted everywhere, and only empties the latch. -/

namespace Sys2Proof.Laws

open Sys2Proof.Machine Sys2Proof.Safety

/-! ## The taking of an accepted command -/

/-- DONE overwrites the result record and records no cause flag (R151, R154). -/
theorem setResult_done (s : State) (code : BitVec 8) (refused : BitVec 16) :
    s.setResult code .done refused =
      { s with cba := { s.cba with result := resultRecord s code .done refused } } := rfl

/-- A word with four enables that codes an accepted command runs it (R151, R152). -/
theorem takeCommand_of_accepted {s : State} {be : Lanes} {x : Word} {c : Command} (enables : be = 0xF#4)
    (code : commandOf (cmdCode x) = some c) (accepted : c.accepted s.cc.state = true) :
    s.takeCommand be x = s.runCommand x c := by
  have spelled : spelling be x = .known c := by simp [spelling, enables, code]
  simp [State.takeCommand, spelled, accepted]

/-- The row of an accepted command issues its word, whose own write becomes the current access, and runs it (R94). -/
theorem commandRow_of_accepted {s : State} {x : PWrite} {rest : List PWrite} {c : Command}
    (h : CommandAtIssue s x rest c) (accepted : c.accepted s.cc.state = true) :
    s.commandRow (.known c) = ({ s with pp := wordIssued s.pp x rest } : State).runCommand x.data c := by
  have issued : s.commandRow (.known c) = s.issueP := if_pos (commandAtIssue_eq h)
  rw [issued, issueP_command h]
  exact takeCommand_of_accepted h.enables h.code accepted

/-! ## CLEARERR -/

/-- CLEARERR is accepted in every controller state and names no windows (R149, R152). -/
theorem commandRow_clearerr {s : State} {x : PWrite} {rest : List PWrite} (h : CommandAtIssue s x rest .clearerr) :
    s.commandRow (.known .clearerr) =
      { s with
        pp := wordIssued s.pp x rest
        mp := { s.mp with latch := ErrorLatch.empty }
        cba := { s.cba with result := resultRecord s (cmdCode x.data) .done 0 } } := by
  rw [commandRow_of_accepted h rfl, State.runCommand, setResult_done]
  rfl

/-- ERR is that of the state ended in. -/
theorem endsIn_errLine {t u : State} (h : EndsIn t u) : t.errLine = u.errLine := by rw [h.1]; rfl

/-- Settles O44: the row ends in the state with the latch emptied, and ERR and the cause flags are read off it. -/
theorem clearerrEmptiesTheLatch : Obligations.ClearerrEmptiesTheLatch := by
  unfold Obligations.ClearerrEmptiesTheLatch
  intro s x rest h
  obtain ⟨t, next, ends⟩ := act_ends (fun s => s.commandRow (.known .clearerr)) h.issue.rst
  simp only [commandRow_clearerr h] at ends
  have errFalls := endsIn_errLine ends
  have causesKept := endsIn_causes ends
  exact ⟨t, next, errFalls, causesKept, ends⟩

end Sys2Proof.Laws
end

section
/-! The shape of a command. With RST released most commands bring a line level, do their effect and end the event;
while RST is asserted they move line levels alone (log 11). PIN_RESET, RST_RELEASE, RESET_VALUES and
WRITEBACK_RECORD answer their effect as it is. -/

namespace Sys2Proof.Laws

open Sys2Proof Sys2Proof.Machine Sys2Proof.Safety

/-- The line level that a command brings, if it brings one (log 12). -/
def levelled (c : Instr) (s : State) : State :=
  match c with
  | .cycRise => s.setCyc true
  | .cycFall => s.setCyc false
  | .noticeOffer v => s.setAccept v
  | .noticeAccept => s.setAccept true
  | _ => s

/-- What a command leaves while RST is asserted: a line level (log 11). -/
def underRst (c : Instr) (s : State) : State :=
  match c with
  | .frzChange => { s with cc := { s.cc with frz := !s.cc.frz } }
  | _ => levelled c s

/-- What a command does, its line level and the end of its event apart. -/
def effect (c : Instr) (s : State) : State :=
  match c with
  | .cycRise => s.edgeTaken
  | .cycFall => s.fallingEdge
  | .frzChange => s.frzChange
  | .intervalTimerExpiry => s.intervalExpires
  | .watchdogExpiry => s.watchdogExpires
  | .pinReset => s.pinReset
  | .rstRelease memsz cbsel frz => s.releaseRst memsz cbsel frz
  | .pWriteTake addr be data => s.takeWrite addr be data
  | .pReadTake addr be => s.takeRead addr be
  | .accessIssue port => s.issue port
  | .start => s.commandRow (.known .start)
  | .stop => s.commandRow (.known .stop)
  | .reset => s.commandRow (.known .reset)
  | .clearerr => s.commandRow (.known .clearerr)
  | .load => s.commandRow (.known .load)
  | .switch => s.commandRow (.known .switch)
  | .cancel => s.commandRow (.known .cancel)
  | .hold => s.commandRow (.known .hold)
  | .release => s.commandRow (.known .release)
  | .commit => s.commandRow (.known .commit)
  | .rearm => s.commandRow (.known .rearm)
  | .unknownCommand => s.commandRow .unknown
  | .readClear answer => s.readClear answer
  | .mpGrant answer => s.arbitrate answer
  | .pAccessComplete r => s.pAccessComplete r
  | .fAccessComplete r => s.fAccessComplete r
  | .mergePairComplete r => s.mergePairComplete r
  | .demandCopyComplete r => s.demandCopyComplete r
  | .copyJobStart => s.startJob
  | .carryPairComplete r => s.carryPairComplete r
  | .loopPairComplete r => s.loopPairComplete r
  | .swapPerform w => s.swapPerform w
  | .loadReadComplete r => s.loadReadComplete r
  | .startLoadEnd => s.startLoadEnd
  | .fetchReadComplete r => s.fetchReadComplete r
  | .writebackRecord => s.beginWriteback
  | .writebackWordComplete r => s.writebackWordComplete r
  | .noticeOffer _ => s.raiseOffer
  | .noticeAccept => s.acceptNotice
  | .noticeTimeout => s.noticeExpires
  | .drainEnd => s.endDrain
  | .resetValues => s.takeResetValues
  | .resetPassEnd => s.endPass
  | .readHalfResponse => s.readHalf

/-- How a command answers. -/
inductive Answers (c : Instr) (s : State) : State → Prop
  /-- while RST is asserted -/
  | held (rst : s.lines.rst = true) (notReset : c ≠ .pinReset) (notRelease : ∀ m k f, c ≠ .rstRelease m k f) :
      Answers c s (underRst c s)
  /-- in an event that joins records to the dirty set -/
  | event (rst : s.lines.rst = false) (joins : joinsRecords c = true) :
      Answers c s (finish (levelled c s) (effect c (levelled c s)))
  /-- with the effect as it is -/
  | direct (joins : joinsRecords c = false)
      (released : c = .resetValues ∨ c = .writebackRecord → s.lines.rst = false) : Answers c s (effect c s)

@[simp] theorem levelled_rst (c : Instr) (s : State) : (levelled c s).lines.rst = s.lines.rst := by
  cases c <;> rfl

/-- A command that ends an event in the common way is its effect at its line level. -/
theorem exec_eq_act {c : Instr} (joins : joinsRecords c = true) (other : c ≠ .frzChange) (s : State) :
    exec c s = act (effect c) (levelled c s) := by
  cases c with
  | frzChange => exact absurd rfl other
  | pinReset | rstRelease | resetValues | writebackRecord => exact absurd joins Bool.false_ne_true
  | _ => rfl

theorem act_held (f : State → State) {s : State} (h : s.lines.rst = true) : act f s = .next s := by
  simp [act, h]

/-- FRZ level follows its line while RST is asserted too (R20). -/
theorem exec_frzChange_answers (s : State) : ∃ t, exec .frzChange s = .next t ∧ Answers .frzChange s t := by
  cases hrst : s.lines.rst with
  | true => exact ⟨_, by simp only [exec, execFrzChange, hrst, if_true]; rfl, .held hrst nofun nofun⟩
  | false =>
    refine ⟨_, ?_, .event hrst rfl⟩
    simp only [exec, execFrzChange, hrst, Bool.false_eq_true, if_false]
    exact act_released _ _ hrst

/-- A command that ends no event in the common way. -/
theorem exec_direct_answers {c : Instr} (joins : joinsRecords c = false) (s : State) :
    ∃ t, exec c s = .next t ∧ Answers c s t := by
  cases c with
  | pinReset => exact ⟨_, rfl, .direct rfl (by simp)⟩
  | rstRelease m k f => exact ⟨_, rfl, .direct rfl (by simp)⟩
  | resetValues =>
    cases hrst : s.lines.rst with
    | true => exact ⟨s, by simp [exec, execResetValues, hrst], .held hrst nofun nofun⟩
    | false => exact ⟨_, by simp only [exec, execResetValues, hrst]; rfl, .direct rfl fun _ => hrst⟩
  | writebackRecord =>
    cases hrst : s.lines.rst with
    | true => exact ⟨s, by simp [exec, execWritebackRecord, hrst], .held hrst nofun nofun⟩
    | false => exact ⟨_, by simp only [exec, execWritebackRecord, hrst]; rfl, .direct rfl fun _ => hrst⟩
  | _ => exact absurd joins (by simp [joinsRecords])

/-- Every command answers in one of the three ways. -/
theorem exec_answers (c : Instr) (s : State) : ∃ t, exec c s = .next t ∧ Answers c s t := by
  cases joins : joinsRecords c with
  | false => exact exec_direct_answers joins s
  | true =>
    by_cases other : c = .frzChange
    · exact other ▸ exec_frzChange_answers s
    · rw [exec_eq_act joins other]
      have held : underRst c s = levelled c s := by
        unfold underRst
        split
        · exact absurd rfl other
        · rfl
      cases hrst : s.lines.rst with
      | true =>
        rw [act_held _ (by simpa using hrst), ← held]
        exact ⟨_, rfl, .held hrst (fun h => by simp [h, joinsRecords] at joins) fun m k f h => by simp [h, joinsRecords] at joins⟩
      | false =>
        rw [act_released _ _ (by simpa using hrst)]
        exact ⟨_, rfl, .event hrst joins⟩

theorem answers_of_exec {c : Instr} {s t : State} (h : exec c s = .next t) : Answers c s t := by
  obtain ⟨u, next, answers⟩ := exec_answers c s
  rw [h] at next
  cases next
  exact answers

/-- A step idles, or its front command answers. -/
theorem step_answers {s t : State} (h : step s = .next t) :
    t = s ∨ ∃ c rest, Answers c { s with pending := rest } t := by
  unfold step at h
  split at h
  · cases h; exact .inl rfl
  · exact .inr ⟨_, _, answers_of_exec h⟩

end Sys2Proof.Laws
end

section
/-! The moves of the part. The laws speak of few items of the state; `Move` lists how single operations change these
items, each with what the model has tested before. That every command is a sequence of moves is shown once, and each law
is then shown to be kept by every move. -/

namespace Sys2Proof.Laws

open Sys2Proof Sys2Proof.Machine Sys2Proof.Safety

/-! ## The items of the laws -/

/-- A window record with the items that no law speaks of at their reset values. -/
def lawItems (x : Window) : Window :=
  { Window.reset with
    slotA := x.slotA, slotB := x.slotB, active := x.active, state := x.state, held := x.held, safe := x.safe
    swapPending := x.swapPending, fence := x.fence, switchPending := x.switchPending, fill := x.fill, miss := x.miss
    carry := x.carry }

theorem lawItems_eq_iff (x y : Window) : lawItems y = lawItems x ↔
    y.slotA = x.slotA ∧ y.slotB = x.slotB ∧ y.active = x.active ∧ y.state = x.state ∧ y.held = x.held ∧
      y.safe = x.safe ∧ y.swapPending = x.swapPending ∧ y.fence = x.fence ∧ y.switchPending = x.switchPending ∧
      y.fill = x.fill ∧ y.miss = x.miss ∧ y.carry = x.carry := by
  simp [lawItems]

/-- The two states agree in every item that a law of windows or queues speaks of. -/
structure Same (s t : State) : Prop where
  rst          : t.lines.rst = s.lines.rst
  memsz        : t.lines.memsz = s.lines.memsz
  cbsel        : t.lines.cbsel = s.lines.cbsel
  state        : t.cc.state = s.cc.state
  phase        : t.cc.phase = s.cc.phase
  dests        : t.ce.jobs.map Job.dest = s.ce.jobs.map Job.dest
  queue        : t.nu.queue = s.nu.queue
  reservations : t.nu.reservations = s.nu.reservations
  offer        : t.nu.offer = s.nu.offer
  load         : t.cba.load.isSome = s.cba.load.isSome
  loadQueue    : t.cba.loadQueue = s.cba.loadQueue
  fetch        : t.cba.fetch.map (fun f => (f.win, f.slot)) = s.cba.fetch.map (fun f => (f.win, f.slot))
  win          : ∀ w, lawItems (t.win w) = lawItems (s.win w)

/-- What the eighth law says of one window (R49). -/
def MissOk (x : Window) : Prop :=
  ∀ d, x.inUse = some d → d.missLimit ≠ 0 → x.miss = d.missLimit → x.state = .tripped ∨ x.state = .fault

/-- A record that changes within its use of the active slot, and keeps the laws of one window. -/
structure InPlace (x y : Window) : Prop where
  slotA         : y.slotA = x.slotA
  slotB         : y.slotB = x.slotB
  active        : y.active = x.active
  swapPending   : y.swapPending = x.swapPending
  fence         : y.fence = x.fence
  switchPending : y.switchPending = x.switchPending
  idle          : y.state = .idle ↔ x.state = .idle
  law           : WindowLaw x → WindowLaw y
  miss          : WindowLaw x → MissOk x → MissOk y

/-! ## Moves -/

/-- The part just after the acceptance of STOP, before the retry of a field access (R35, R36). -/
def stopped (s : State) : State :=
  allWindows.foldl (fun t w => t.modWin w Window.stopped)
    { s with
      cc := { s.cc with state := .draining, lowSeen := false, freezeReq := false, interval := false, watchdog := false,
                        drainSet := s.drainWork }
      ce := { jobs := [], running := false, request := false }
      nu := { s.nu with reservations := [] }
      cba := { s.withdrawRead.cba with load := none, loadQueue := [], fetch := none } }

/-- One operation on the items of the laws, with what the model has tested before it. -/
inductive Move : State → State → Prop
  | same {s t} (h : Same s t) : Move s t
  /- windows and swaps -/
  | window (s w y) (h : InPlace (s.win w) y) : Move s (s.setWin w y)
  | decide (s w) (use : (s.win w).state ≠ .idle) : Move s (s.modWin w fun x => { x with swapPending := true })
  | reserve (s w) (use : (s.win w).state ≠ .idle) (noSwap : (s.win w).swapPending = false)
      (free : s.hasNotice w = false) (places : s.places < 8) :
      Move s ((s.modWin w fun x => { x with swapPending := true }).reserve w)
  | unreserve (s w) : Move s (s.unreserve w)
  | settle (s w) (place : w ∉ s.nu.reservations) : Move s (s.modWin w fun x => { x with swapPending := false })
  | switched (s w) (pending : (s.win w).switchPending = true) (live : s.cc.state.live = true) :
      Move s (s.modWin w Window.switched)
  /- notices -/
  | fill (s w d) (place : w ∈ s.nu.reservations) : Move s ((s.unreserve w).enqueueNotice (noticeOf w d))
  | fence (s w) (queued : s.hasNotice w = true) : Move s (s.modWin w fun x => { x with fence := true })
  | notice (s n) (use : (s.win n.win).state ≠ .idle) (noSwap : (s.win n.win).swapPending = false)
      (free : s.hasNotice n.win = false) (places : s.places < 8) : Move s (s.enqueueNotice n)
  | offer (s n rest timer) (h : s.nu.queue = n :: rest) : Move s { s with nu := { s.nu with offer := some n, timer := timer } }
  | leave (s n) (h : s.nu.offer = some n) : Move s (s.noticeLeaves n)
  /- copy jobs -/
  | jobs (s js) (h : (js.map Job.dest).Subperm (s.ce.jobs.map Job.dest)) : Move s { s with ce := { s.ce with jobs := js } }
  | join (s j) (use : (s.win j.dest).state ≠ .idle) (free : s.hasJob j.dest = false) :
      Move s { s with ce := { s.ce with jobs := s.ce.jobs ++ [j] } }
  /- fetches and switches -/
  | startFetch (s) : Move s s.startFetch
  | fillInactive (s f d) (h : s.cba.fetch = some f) (valid : s.validate f.win d = true) (rst : s.lines.rst = false) :
      Move s (s.modWin f.win (putSlot f.slot d))
  | endFetch (s) : Move s { s with cba := { s.cba with fetch := none, loadQueue := s.cba.loadQueue.tail } }
  | queueLoad (s w) (free : w ∉ s.cba.loadQueue) (noSwitch : (s.win w).switchPending = false) (live : s.cc.state.live = true) :
      Move s (loadEffect s w)
  | markSwitch (s w) (free : w ∉ s.cba.loadQueue) : Move s (switchEffect s w)
  | cancel (s w) : Move s (cancelEffect s w)
  /- the START load -/
  | beginLoad (s) (h : s.cc.state = .stopped) : Move s s.beginLoad
  | setLoad (s l) (h : s.cba.load ≠ none) : Move s (s.setLoad l)
  | loadSlot (s w n d) (h : s.cba.load ≠ none) (running : s.cc.state ≠ .resetting) (valid : s.validate w d = true)
      (rst : s.lines.rst = false) : Move s (s.modWin w (loadSlotOf n d))
  | loadSucceeds (s c) (h : s.cc.state = .loading) : Move s (s.loadSucceeds c)
  | loadFails (s) (h : s.cc.state = .loading) : Move s s.loadFails
  /- the controller -/
  | control (s c) (old : s.cc.state.live = true) (new : c.live = true) : Move s (s.enter c)
  | stop (s) : Move s (stopped s)
  | drained (s) (h : s.cc.state = .draining) (empty : s.nu.queue = []) : Move s (s.enter .stopped)
  | softReset (s) : Move s s.softReset
  | passDone (s) (h : s.cc.phase = .pass) : Move s { s with cc := { s.cc with phase := .passDone } }
  | passEnded (s) (h : s.cc.state = .resetting) (done : s.cc.phase = .passDone) :
      Move s { s with cc := { s.cc with state := .stopped, phase := .inactive } }
  | resetValues (s) : Move s s.afterReset
  | pinReset (s) : Move s s.pinReset
  | rstRelease (s memsz cbsel frz) : Move s (s.releaseRst memsz cbsel frz)

/-- A sequence of moves. -/
abbrev Moves : State → State → Prop := Relation.ReflTransGen Move

theorem Same.moves {s t : State} (h : Same s t) : Moves s t := .single (.same h)

theorem moves_trans {s t u : State} (h : Moves s t) (k : Moves t u) : Moves s u := h.trans k

/-- A sequence of moves, up to the items of the laws. -/
theorem moves_same {s t u : State} (h : Moves s t) (k : Same t u) : Moves s u := h.tail (.same k)

/-- A fold over windows moves where each of its steps does, under what the steps keep. -/
theorem moves_foldl {P : State → Prop} {f : State → Win → State} (keeps : ∀ t w, P t → P (f t w))
    (moves : ∀ t w, P t → Moves t (f t w)) (l : List Win) {s : State} (hs : P s) : Moves s (l.foldl f s) := by
  induction l generalizing s with
  | nil => exact .refl
  | cons w l ih => exact moves_trans (moves s w hs) (ih (keeps s w hs))

/-- A record changed in place. -/
theorem moves_modWin {s : State} {w : Win} {f : Window → Window} (h : InPlace (s.win w) (f (s.win w))) :
    Moves s (s.modWin w f) := .single (.window s w _ h)

/-! ## Operations that change no item of a law -/

theorem same_touch (s : State) (r : RecName) : Same s (s.touch r) := by constructor <;> simp

theorem same_record (s : State) (c : Cause) : Same s (s.record c) := by constructor <;> simp

theorem same_event (s : State) (w : Win) (e : WEvent) : Same s (s.event w e) := by
  constructor <;> simp [-win_event, lawItems_eq_iff]

theorem same_dropEvent (s : State) (w : Win) (e : WEvent) : Same s (s.dropEvent w e) := by
  constructor <;> simp [-win_dropEvent, lawItems_eq_iff]

theorem same_drop (s : State) (w : Win) : Same s (s.drop w) := by
  constructor <;> simp [-win_drop, lawItems_eq_iff]

theorem Same.trans {s t u : State} (h : Same s t) (k : Same t u) : Same s u where
  rst := k.rst.trans h.rst
  memsz := k.memsz.trans h.memsz
  cbsel := k.cbsel.trans h.cbsel
  state := k.state.trans h.state
  phase := k.phase.trans h.phase
  dests := k.dests.trans h.dests
  queue := k.queue.trans h.queue
  reservations := k.reservations.trans h.reservations
  offer := k.offer.trans h.offer
  load := k.load.trans h.load
  loadQueue := k.loadQueue.trans h.loadQueue
  fetch := k.fetch.trans h.fetch
  win w := (k.win w).trans (h.win w)

end Sys2Proof.Laws
end

section
/-! Copy jobs, notices and swaps as moves. -/

namespace Sys2Proof.Laws

open Sys2Proof Sys2Proof.Machine Sys2Proof.Safety

/-! ## The descriptor in use -/

theorem inUse_eq_some {x : Window} {d : Descriptor} : x.inUse = some d ↔ x.state ≠ .idle ∧ x.desc = some d := by
  unfold Window.inUse; split <;> simp_all

theorem state_ne_idle_of_inUse {x : Window} {d : Descriptor} (h : x.inUse = some d) : x.state ≠ .idle :=
  (inUse_eq_some.mp h).1

theorem InPlace.desc {x y : Window} (slotA : y.slotA = x.slotA) (slotB : y.slotB = x.slotB)
    (active : y.active = x.active) : y.desc = x.desc := by
  simp only [Window.desc, Window.slot, slotA, slotB, active]

/-- A record in use that stays in use on the same slot, under the law of its kind, keeps the law of one window. -/
theorem windowLaw_of_inUse {x y : Window} (slotA : y.slotA = x.slotA) (slotB : y.slotB = x.slotB)
    (active : y.active = x.active) {d : Descriptor} (use : x.inUse = some d) (stays : y.state ≠ .idle)
    (law : WindowLaw x) (kind : KindLaw x d → KindLaw y d)
    (input : d.kind = .input → x.safe = false → y.safe = false)
    (output : d.kind = .output → x.held = false ∧ x.fill = 0 → y.held = false ∧ y.fill = 0) : WindowLaw y := by
  obtain ⟨notIdle, desc⟩ := inUse_eq_some.mp use
  have same := InPlace.desc slotA slotB active
  obtain ⟨e, he, enabled, kindLaw⟩ := law.inUse notIdle
  obtain rfl : d = e := Option.some.inj (desc.symm.trans he)
  refine ⟨fun _ => ⟨d, same.trans desc, enabled, kind kindLaw⟩, fun h => absurd h stays, ?_, ?_⟩
  · intro e he hk
    obtain rfl : d = e := Option.some.inj (desc.symm.trans (same.symm.trans he))
    exact input hk (law.input d desc hk)
  · intro e he hk
    obtain rfl : d = e := Option.some.inj (desc.symm.trans (same.symm.trans he))
    exact output hk (law.output d desc hk)

/-! ## Copy jobs -/

theorem moves_enqueueJob {s : State} {j : Job} (use : (s.win j.dest).state ≠ .idle) : Moves s (s.enqueueJob j) := by
  unfold State.enqueueJob
  split
  · exact .refl
  next free => exact .single (.join s j use (Bool.eq_false_iff.mpr free))

theorem moves_endJob (s : State) (w : Win) : Moves s (s.endJob w) := by
  have sub : ((s.ce.jobs.filter fun j => j.dest != w).map Job.dest).Subperm (s.ce.jobs.map Job.dest) :=
    ((List.filter_sublist).map _).subperm
  refine moves_same (.single (.jobs s _ sub)) ?_
  constructor <;> simp [-win_endJob, lawItems_eq_iff, endJob_jobs]

/-- Making a job urgent reorders the queue (R80). -/
theorem urgentOrder_dests (running : Bool) (w : Win) (js : List Job) :
    ((urgentOrder running w js).map Job.dest).Perm (js.map Job.dest) := by
  have marked (l : List Job) :
      (l.map fun j => if j.dest == w then { j with urgent := true } else j).map Job.dest = l.map Job.dest := by
    rw [List.map_map]
    refine List.map_congr_left fun j _ => ?_
    simp only [Function.comp]
    split <;> rfl
  simp only [urgentOrder, List.map_append, marked]
  simp only [← List.map_append]
  refine List.Perm.map _ ?_
  generalize (if running = true then 1 else 0) = n
  have rest := List.filter_append_perm Job.urgent ((js.drop n).filter fun j => j.dest != w)
  have queued := List.filter_append_perm (fun j : Job => j.dest == w) (js.drop n)
  have mineFirst : ((js.drop n).filter fun j => j.dest != w).filter Job.urgent ++ ((js.drop n).filter fun j => j.dest == w) ++
      (((js.drop n).filter fun j => j.dest != w).filter fun j => !j.urgent) |>.Perm
      (((js.drop n).filter fun j => j.dest == w) ++ (js.drop n).filter fun j => j.dest != w) := by
    refine (List.perm_append_comm.append_right _).trans ?_
    rw [List.append_assoc]
    exact rest.append_left _
  have whole := (mineFirst.trans queued).append_left (js.take n)
  rwa [List.take_append_drop, ← List.append_assoc, ← List.append_assoc] at whole

theorem moves_makeUrgent (s : State) (w : Win) : Moves s (s.makeUrgent w) :=
  .single (.jobs s _ (urgentOrder_dests ..).subperm)

theorem moves_enqueueLoop (s : State) (w : Win) : Moves s (s.enqueueLoop w) := by
  unfold State.enqueueLoop
  split
  · exact .refl
  next d use =>
    split
    next asks =>
      split
      next => exact moves_same (moves_enqueueJob (state_ne_idle_of_inUse use)) (same_touch ..)
      next => exact (same_event ..).moves
    next => exact .refl

/-! ## Notices and swaps -/

theorem moves_fillPlace (s : State) (w : Win) (d : Descriptor) : Moves s (s.fillPlace w d) := by
  unfold State.fillPlace
  split
  next place => exact .single (.fill s w d place)
  next =>
    split
    next queued => exact .single (.fence s w (by simp_all))
    next => exact .refl

theorem not_mem_reservations_fillPlace (s : State) (w : Win) (d : Descriptor) :
    w ∉ (s.fillPlace w d).nu.reservations := by
  unfold State.fillPlace
  split
  · simp [State.enqueueNotice, State.unreserve]
  · split <;> simpa

/-- The performance of a swap leaves a record in use in the first state of its kind (R16). -/
theorem inPlace_swapped {x : Window} {d : Descriptor} (use : x.inUse = some d) (settled : x.swapPending = false)
    (cycle : BitVec 32) : InPlace x (x.swapped d cycle) := by
  obtain ⟨notIdle, desc⟩ := inUse_eq_some.mp use
  have stays : (x.swapped d cycle).state ≠ .idle := by cases hk : d.kind <;> simp [Window.swapped, hk]
  refine ⟨by simp, by simp, by simp, by simp [settled], by simp, by simp, by simp [stays, notIdle], fun law => ?_, ?_⟩
  · refine windowLaw_of_inUse (by simp) (by simp) (by simp) use stays law (fun k => ?_) ?_ ?_
    · cases hk : d.kind with
      | input => simp_all [KindLaw, Window.swapped]
      | output =>
        have ascending : d.buffered.Pairwise (· < ·) := List.pairwise_lt_range.filter _
        simp_all [KindLaw, Window.swapped, Descriptor.buffered]
    · intro hk; simp [Window.swapped, hk]
    · intro hk; simp [Window.swapped, hk]
  · intro _ _ e _ nonzero reached
    exact absurd reached (by simpa using nonzero.symm)

theorem moves_performSwap (s : State) (w : Win) : Moves s (s.performSwap w) := by
  unfold State.performSwap
  split
  · exact .refl
  next d use =>
    have filled := moves_fillPlace s w d
    have settled := filled.tail (.settle _ w (not_mem_reservations_fillPlace s w d))
    have use' : (((s.fillPlace w d).modWin w fun x => { x with swapPending := false }).win w).inUse = some d := by
      rw [← use]; exact inUse_congr (by simp) (by simp) (by simp) (by simp)
    have swapped := settled.tail (.window _ w _ (inPlace_swapped use' (by simp) s.cc.cycle))
    have performed : Moves s (((s.fillPlace w d).modWin w fun x => x.swapped d s.cc.cycle).touch (.win w)) := by
      refine moves_same swapped ?_
      constructor <;> simp
      intro v
      by_cases hv : v = w <;> simp [hv, Window.swapped]
    split
    · exact performed
    · refine moves_trans performed (moves_enqueueJob ?_)
      simp_all [Window.swapped]

/-- A place is given where no notice is queued for the window and fewer than 8 places are in use (R121). -/
theorem askPlace_place {s : State} {w : Win} {d : Descriptor} (h : s.askPlace w d = .place) :
    s.hasNotice w = false ∧ s.places < 8 := by
  unfold State.askPlace at h
  split at h
  · cases h
  · split at h
    · split at h <;> cases h
    next none =>
      split at h
      next places => exact ⟨by simpa [State.hasNotice] using none, places⟩
      · cases h

theorem moves_decideSwap {s : State} {w : Win} {d : Descriptor} {a : PlaceAnswer} (use : (s.win w).state ≠ .idle)
    (noSwap : (s.win w).swapPending = false) (asked : a = .place → s.askPlace w d = .place) :
    Moves s (s.decideSwap w d a) := by
  unfold State.decideSwap
  simp only
  generalize s.swapWaits w d.kind = ws
  let t := (s.modWin w fun x => { x with swapPending := true, waitSet := ws, coalesced := a == .coalesced }).touch (.win w)
  have reserved : Moves s (if a = .place then t.reserve w else t) := by
    split
    next place =>
      obtain ⟨free, places⟩ := askPlace_place (asked place)
      refine moves_same (.single (.reserve s w use noSwap free places)) ?_
      constructor <;> simp [t, State.reserve]
      intro v
      by_cases hv : v = w <;> simp [hv, lawItems]
    next =>
      refine moves_same (.single (.decide s w use)) ?_
      constructor <;> simp [t]
      intro v
      by_cases hv : v = w <;> simp [hv, lawItems]
  have urgent : Moves s (if .job w ∈ ws then (if a = .place then t.reserve w else t).makeUrgent w
      else if a = .place then t.reserve w else t) := by
    generalize (if a = .place then t.reserve w else t) = u at reserved ⊢
    split
    · exact moves_trans reserved (moves_makeUrgent ..)
    · exact reserved
  split
  · exact moves_trans urgent (moves_performSwap ..)
  · exact urgent

theorem moves_abandonSwap (s : State) (w : Win) : Moves s (s.abandonSwap w) := by
  unfold State.abandonSwap
  split
  · refine moves_same ((Relation.ReflTransGen.single (.unreserve s w)).tail (.settle _ w ?_)) ?_
    · simp [State.unreserve]
    · constructor <;> simp [State.unreserve]
      intro v
      by_cases hv : v = w <;> simp [hv, lawItems]
  · exact .refl

/-! ## FAULT and priming -/

/-- A window that runs may enter FAULT (R74, R86). -/
theorem inPlace_fault {x : Window} (running : x.state ≠ .idle) (carry : List Nat) (marks : carry = x.carry ∨ carry = []) :
    InPlace x { x with state := .fault, carry := carry } := by
  refine ⟨rfl, rfl, rfl, rfl, rfl, rfl, by simpa using running, fun law => ?_, fun _ _ _ _ _ _ => .inr rfl⟩
  obtain ⟨d, desc, _⟩ := law.inUse running
  refine windowLaw_of_inUse (x := x) rfl rfl rfl (inUse_eq_some.mpr ⟨running, desc⟩) (by simp) law (fun k => ?_) (fun _ h => h)
    (fun _ h => h)
  unfold KindLaw at k ⊢
  split <;> rcases marks with rfl | rfl <;> simp_all

theorem moves_faultOutput (s : State) (w : Win) : Moves s (s.faultOutput w) := by
  unfold State.faultOutput
  split
  next running =>
    have faulted := moves_modWin (f := fun x => { x with state := .fault, carry := [] })
      (inPlace_fault (x := s.win w) (fun h => by simp [h] at running) [] (.inr rfl))
    exact moves_trans (moves_trans (moves_same faulted (same_touch ..)) (moves_endJob ..)) (moves_abandonSwap ..)
  next => exact .refl

theorem moves_faultInput {s : State} {w : Win} (running : (s.win w).state ≠ .idle) : Moves s (s.faultInput w) :=
  have faulted := moves_modWin (f := fun x => { x with state := .fault })
    (inPlace_fault (x := s.win w) running (s.win w).carry (.inl rfl))
  moves_trans (moves_same faulted (same_touch ..)) (moves_endJob ..)

/-- Priming puts a record in use in the first state of its kind (R11). -/
theorem inPlace_primed {x : Window} {d : Descriptor} (use : x.inUse = some d) : InPlace x (x.primed d) := by
  obtain ⟨notIdle, desc⟩ := inUse_eq_some.mp use
  have stays : (x.primed d).state ≠ .idle := by cases hk : d.kind <;> simp [Window.primed, hk]
  refine ⟨by simp, by simp, by simp, by simp, by simp, by simp, by simp [stays, notIdle], fun law => ?_, ?_⟩
  · refine windowLaw_of_inUse (by simp) (by simp) (by simp) use stays law (fun _ => ?_) ?_ ?_
    · cases hk : d.kind <;> simp [KindLaw, Window.primed, hk]
    · simp [Window.primed]
    · intro hk; simp [Window.primed, hk]
  · intro _ _ e _ nonzero reached
    exact absurd reached (by simpa using nonzero.symm)

theorem moves_prime {s : State} {w : Win} {d : Descriptor} (use : (s.win w).inUse = some d) : Moves s (s.prime w d) := by
  have use' : ((s.endJob w).win w).inUse = some d := by
    rw [← use]; exact inUse_congr (by simp [-win_endJob]) (by simp [-win_endJob]) (by simp [-win_endJob]) (by simp [-win_endJob])
  exact moves_same (moves_trans (moves_endJob s w) (moves_modWin (inPlace_primed use'))) (same_touch ..)

end Sys2Proof.Laws
end

section
/-! Pulses as moves. -/

namespace Sys2Proof.Laws

open Sys2Proof Sys2Proof.Machine Sys2Proof.Safety

/-! ## Records that a pulse changes in place -/

section
variable {x : Window} {d : Descriptor} (use : x.inUse = some d)
include use

/-- A record in use that keeps its state and its miss count. -/
theorem missOk_of_running {y : Window} (desc : y.desc = x.desc) (miss : y.miss = x.miss)
    (running : x.state ≠ .tripped ∧ x.state ≠ .fault) (_ : WindowLaw x) (h : MissOk x) : MissOk y := by
  intro e useY nonzero reached
  obtain rfl : d = e := by
    have := (inUse_eq_some.mp useY).2
    rw [desc, (inUse_eq_some.mp use).2] at this
    exact Option.some.inj this
  cases h d use nonzero (miss.symm.trans reached) with
  | inl tripped => exact absurd tripped running.1
  | inr fault => exact absurd fault running.2

/-- The reload of the fill counter of an input window, with the state its image is left in (R18, R46, R48, R50). -/
theorem inPlace_reload (input : d.kind = .input) (running : x.state ≠ .tripped ∧ x.state ≠ .fault) {st : WState}
    (state : st ∈ [WState.filling, .filled, .blocked]) {fill : BitVec 10} (bound : fill = d.expect ∨ fill = x.fill) :
    InPlace x { x with fill := fill, state := st } := by
  have notIdle := state_ne_idle_of_inUse use
  have stays : st ≠ .idle := by rintro rfl; simp at state
  refine ⟨rfl, rfl, rfl, rfl, rfl, rfl, by simp [stays, notIdle], fun law => ?_, missOk_of_running use rfl rfl running⟩
  refine windowLaw_of_inUse (x := x) rfl rfl rfl use stays law (fun k => ?_) (fun _ h => h) (by simp [input])
  simp only [KindLaw, input] at k ⊢
  refine ⟨?_, k.2.1, k.2.2.1, ?_⟩
  · simp only [List.mem_cons] at state ⊢; tauto
  · rcases bound with rfl | rfl
    · exact BitVec.le_refl _
    · exact k.2.2.2

/-- A miss (R49). -/
theorem inPlace_missed : InPlace x (x.missed d) := by
  have notIdle := state_ne_idle_of_inUse use
  have desc := (inUse_eq_some.mp use).2
  refine ⟨by simp, by simp, by simp, by simp, by simp, by simp, ?_, fun law => ?_, fun _ ok e useY nonzero reached => ?_⟩
  · rw [missed_eq]; simp only; split <;> simp [notIdle]
  · refine windowLaw_of_inUse (x := x) (by simp) (by simp) (by simp) use ?_ law (fun k => ?_) (by simp) (by simp)
    · rw [missed_eq]; simp only; split <;> simp [notIdle]
    · rw [missed_eq]
      unfold KindLaw at k ⊢
      split <;> split <;> simp_all
  · obtain rfl : d = e := by
      have := (inUse_eq_some.mp useY).2
      rw [InPlace.desc (x := x) (by simp) (by simp) (by simp), desc] at this
      exact Option.some.inj this
    have trips : missTrips x d = true := (missTrips_iff x d).mpr ⟨nonzero, by simpa [missed_eq] using reached⟩
    simp [missed_eq, trips]

/-- SAFE belongs to outputs (R59). -/
theorem inPlace_safe (output : d.kind = .output) (b : Bool) : InPlace x { x with safe := b } := by
  have notIdle := state_ne_idle_of_inUse use
  refine ⟨rfl, rfl, rfl, rfl, rfl, rfl, Iff.rfl, fun law => ?_, fun _ h => h⟩
  refine windowLaw_of_inUse (x := x) rfl rfl rfl use notIdle law (fun k => ?_) (by simp [output]) (fun _ h => h)
  simp only [KindLaw, output] at k ⊢
  exact k

end

/-! ## Misses and underruns -/

theorem moves_miss {s : State} {w : Win} {d : Descriptor} (use : (s.win w).inUse = some d) : Moves s (s.miss w d) := by
  have missed := moves_same (moves_modWin (f := fun x => x.missed d) (inPlace_missed use)) (same_touch _ (.win w))
  unfold State.miss
  simp only
  split
  · exact moves_same missed (same_event ..)
  · exact missed

theorem same_holdBack (s : State) (w : Win) (e : WEvent) : Same s (s.holdBack w e) := by
  constructor <;> simp [lawItems_eq_iff]

theorem inUse_endJob (s : State) (w v : Win) : ((s.endJob w).win v).inUse = (s.win v).inUse :=
  inUse_congr (by simp [-win_endJob]) (by simp [-win_endJob]) (by simp [-win_endJob]) (by simp [-win_endJob])

/-- The job of an input window ends and its image starts anew (R18, R48). -/
theorem moves_reload {s : State} {w : Win} {d : Descriptor} (use : (s.win w).inUse = some d) (input : d.kind = .input)
    (running : (s.win w).state ≠ .tripped ∧ (s.win w).state ≠ .fault) :
    Moves s (((s.endJob w).modWin w fun x => { x with fill := d.expect, state := .filling }).touch (.win w)) := by
  refine moves_same (moves_trans (moves_endJob s w) (moves_modWin ?_)) (same_touch ..)
  exact inPlace_reload ((inUse_endJob s w w).trans use) input (by simpa [-win_endJob] using running) (by simp) (.inl rfl)

theorem moves_underfill {s : State} {w : Win} {d : Descriptor} (use : (s.win w).inUse = some d) (input : d.kind = .input)
    (filling : (s.win w).state = .filling) : Moves s (s.underfill w d) := by
  have reload : Moves s (reloadFill s w d) := by
    refine moves_same (moves_reload use input (by simp [filling])) ?_
    constructor <;> simp [-win_endJob, reloadFill]
    intro v
    by_cases hv : v = w <;> simp [-win_endJob, hv, lawItems, filling]
  have use' : ((reloadFill s w d).win w).inUse = some d := by
    rw [← use, win_reloadFill]; exact inUse_congr rfl rfl rfl Iff.rfl
  have missed : Moves s (underfilled s w d) := by
    unfold underfilled missIfValid
    split
    · exact moves_trans reload (moves_same (moves_miss use') (same_event ..))
    · exact reload
  rw [underfill_eq]
  exact moves_trans missed (moves_enqueueLoop ..)

theorem moves_underrun {s : State} {w : Win} {d : Descriptor} (use : (s.win w).inUse = some d) (output : d.kind = .output) :
    Moves s (s.underrun w d) := by
  unfold State.underrun
  split
  · have missed := moves_same (moves_miss use) (same_event _ w .underrun)
    refine moves_trans missed (moves_modWin (f := fun x => { x with safe := x.safe || d.policy == .safe }) ?_)
    have idle : ((s.miss w d).win w).state ≠ .idle := by
      have h := (inPlace_missed use).idle.not.mpr (state_ne_idle_of_inUse use)
      unfold State.miss; simp only; split <;> simpa using h
    refine inPlace_safe (d := d) ?_ output _
    rw [← use]
    exact inUse_congr (by simp) (by simp) (by simp) (by simpa [state_ne_idle_of_inUse use] using idle)
  · exact .refl

/-! ## The evaluation of a pulse -/

theorem moves_evalFilled {s : State} {w : Win} {d : Descriptor} (use : (s.win w).inUse = some d) (input : d.kind = .input)
    (running : (s.win w).state ≠ .tripped ∧ (s.win w).state ≠ .fault) (noSwap : (s.win w).swapPending = false) :
    Moves s (s.evalFilled w d) := by
  have blocked : Moves s (s.modWin w fun x => { x with state := .blocked }) :=
    moves_modWin (inPlace_reload use input running (st := .blocked) (by simp) (.inr rfl))
  unfold State.evalFilled
  split
  · exact moves_same blocked (same_holdBack ..)
  · split
    · exact moves_same blocked (same_holdBack ..)
    next asked =>
      exact moves_trans (moves_decideSwap (state_ne_idle_of_inUse use) noSwap id) (moves_enqueueLoop ..)

theorem moves_evalCommitted {s : State} {w : Win} {d : Descriptor} (use : (s.win w).inUse = some d)
    (noSwap : (s.win w).swapPending = false) : Moves s (s.evalCommitted w d) := by
  unfold State.evalCommitted
  split
  · exact (same_holdBack ..).moves
  · exact moves_decideSwap (state_ne_idle_of_inUse use) noSwap id

theorem moves_evaluate (s : State) (outputOnly : Bool) (w : Win) : Moves s (s.evaluate outputOnly w) := by
  unfold State.evaluate
  split
  · exact .refl
  next d use =>
    split
    · exact .refl
    · split
      · exact (same_holdBack ..).moves
      next noSwap =>
        have noSwap := Bool.eq_false_iff.mpr noSwap
        split
        next input =>
          unfold State.evalInput
          split
          next filling => exact moves_underfill use input filling
          next filled => exact moves_evalFilled use input (by simp [filled]) noSwap
          next blocked => exact moves_evalFilled use input (by simp [blocked]) noSwap
          next => exact .refl
        next output =>
          unfold State.evalOutput
          split
          next => exact moves_underrun use output
          next => exact moves_evalCommitted use noSwap
          next => exact .refl

/-! ## The switch -/

/-- A switch is taken at a window without SWAP PENDING, with the answer of the Notice Unit for the slot being left (R138). -/
theorem switchAnswer_some {s : State} {w : Win} {a : PlaceAnswer} (h : s.switchAnswer w = some a) :
    (s.win w).swapPending = false ∧ s.switchBusy w = false ∧
      ((s.win w).inUse = none ∧ a = .unneeded ∨
        ∃ d, (s.win w).inUse = some d ∧ s.askPlace w d = a ∧ a ≠ .noPlace) := by
  unfold State.switchAnswer at h
  split at h
  · cases h
  next idle =>
    simp only [Bool.or_eq_true, not_or, Bool.not_eq_true] at idle
    refine ⟨idle.1, idle.2, ?_⟩
    split at h
    next none => exact .inl ⟨none, (Option.some.inj h).symm⟩
    next d use =>
      split at h
      · cases h
      next b given => cases h; exact .inr ⟨d, use, rfl, fun k => given k⟩

theorem moves_noticeOld {s : State} {w : Win} {a : PlaceAnswer} (h : s.switchAnswer w = some a) :
    Moves s (s.noticeOld w a) := by
  unfold State.noticeOld
  split
  next d use =>
    obtain ⟨noSwap, _, ⟨none, _⟩ | ⟨e, use', asked, _⟩⟩ := switchAnswer_some h
    · simp [none] at use
    · obtain rfl : d = e := Option.some.inj (use.symm.trans use')
      obtain ⟨free, places⟩ := askPlace_place asked
      exact .single (.notice s (noticeOf w d) (state_ne_idle_of_inUse use) noSwap free places)
  next => exact .refl

theorem moves_takeSwitch {s : State} {w : Win} {a : PlaceAnswer} (h : s.switchAnswer w = some a)
    (pending : (s.win w).switchPending = true) (live : s.cc.state.live = true) : Moves s (s.takeSwitch w a) := by
  have left := moves_trans (moves_noticeOld h) (moves_endJob (s.noticeOld w a) w)
  have switched := left.tail (.switched _ w (by simpa [-win_endJob] using pending) (by simpa using live))
  exact moves_same switched (same_event ..)

theorem moves_takePulse (boundary outputOnly : Bool) {s : State} (live : s.cc.state.live = true) (w : Win) :
    Moves s (s.takePulse boundary outputOnly w) := by
  unfold State.takePulse
  split
  next pending =>
    split
    next a h => exact moves_takeSwitch h (by simp_all) live
    next => exact moves_trans (same_event ..).moves (moves_evaluate ..)
  next => exact moves_evaluate ..

theorem moves_deliver (boundary outputOnly : Bool) {s : State} (live : s.cc.state.live = true) :
    Moves s (s.deliver boundary outputOnly) :=
  moves_foldl (P := fun t => t.cc.state.live = true) (by simp) (fun _ w live => moves_takePulse _ _ live w) _ live

/-! ## Alignment and loss -/

theorem moves_align (s : State) (w : Win) : Moves s (s.align w) := by
  unfold State.align
  split
  · exact .refl
  next d use =>
    split
    next aligned =>
      obtain ⟨input, _, state⟩ := aligned
      refine moves_trans (moves_reload use input ?_) (moves_enqueueLoop ..)
      constructor <;> (intro h; simp [h] at state)
    next => exact .refl

theorem moves_deliverAlignment (s : State) : Moves s s.deliverAlignment :=
  moves_foldl (P := fun _ => True) (by simp) (fun _ _ _ => moves_align ..) _ trivial

theorem moves_lose (s : State) (w : Win) : Moves s (s.lose w) := by
  unfold State.lose
  split
  · exact .refl
  next d use =>
    split
    next lost => exact moves_same (moves_modWin (f := fun x => { x with safe := true }) (inPlace_safe use lost.1 true)) (same_touch ..)
    next => exact .refl

/-! ## The Cycle Controller -/

@[simp] theorem win_enter (s : State) (c : CState) (v : Win) : (s.enter c).win v = s.win v := rfl

theorem moves_enter {s : State} {c : CState} (old : s.cc.state.live = true) (new : c.live = true) : Moves s (s.enter c) :=
  .single (.control s c old new)

/-- A pulse that keeps the controller in the states with windows in use. -/
theorem moves_armedPulse {s : State} (live : s.cc.state.live = true) : Moves s s.armedPulse := by
  unfold State.armedPulse
  refine moves_trans (moves_same (moves_enter live (c := .aligning) rfl) ?_) (moves_deliverAlignment _)
  constructor <;> simp

theorem moves_lostPulse {s : State} (live : s.cc.state.live = true) : Moves s s.lostPulse := by
  unfold State.lostPulse
  have counted : Moves s s.countPulse := Same.moves (by constructor <;> simp)
  refine moves_trans (moves_same (moves_trans counted (moves_enter (c := .aligning) (by simpa using live) rfl)) ?_)
    (moves_deliverAlignment _)
  constructor <;> simp

theorem moves_aligningPulse {s : State} (live : s.cc.state.live = true) : Moves s s.aligningPulse := by
  unfold State.aligningPulse
  have counted : Moves s s.countPulse := Same.moves (by constructor <;> simp)
  refine moves_trans (moves_same (moves_trans counted (moves_enter (c := .running) (by simpa using live) rfl)) ?_)
    (moves_deliver _ _ (by simp; rfl))
  constructor <;> simp

theorem moves_runningPulse {s : State} (live : s.cc.state.live = true) : Moves s s.runningPulse := by
  unfold State.runningPulse
  have counted : Moves s s.countPulse := Same.moves (by constructor <;> simp)
  refine moves_trans (moves_same (moves_trans counted (moves_enter (c := .running) (by simpa using live) rfl)) ?_)
    (moves_deliver _ _ (by simp; rfl))
  constructor <;> simp

theorem moves_frozenPulse {s : State} (live : s.cc.state.live = true) : Moves s s.frozenPulse := by
  have counted : Moves s s.countPulse.startInterval := Same.moves (by constructor <;> simp)
  unfold State.frozenPulse
  simp only
  split
  · exact moves_trans counted (moves_deliver _ _ (by simpa using live))
  · exact counted

theorem runningPulse_state (s : State) : s.runningPulse.cc.state = .running := by
  simp [State.runningPulse, State.enter]

theorem moves_pulse (s : State) : Moves s s.pulse := by
  unfold State.pulse
  split
  next h => exact moves_armedPulse (by rw [h]; rfl)
  next h => exact moves_aligningPulse (by rw [h]; rfl)
  next h =>
    have running := moves_runningPulse (s := s) (by rw [h]; rfl)
    split
    · refine moves_same (moves_trans running (moves_enter (c := .frozen) (by rw [runningPulse_state]; rfl) rfl)) ?_
      constructor <;> simp
    · exact running
  next h =>
    split
    · exact moves_frozenPulse (by rw [h]; rfl)
    · exact moves_runningPulse (by rw [h]; rfl)
  next h => exact moves_lostPulse (by rw [h]; rfl)
  all_goals exact .refl

theorem moves_risingEdge (s : State) : Moves s s.risingEdge := by
  have runt : Moves s (s.record .runt) := (same_record ..).moves
  have pulse := moves_pulse s
  unfold State.risingEdge
  split
  case h_5 => split <;> [exact pulse; exact .refl]
  case h_6 | h_7 | h_8 | h_9 => split <;> [exact runt; exact pulse]
  all_goals exact .refl

theorem moves_watchdogExpires (s : State) : Moves s s.watchdogExpires := by
  unfold State.watchdogExpires
  split
  next h =>
    have live : s.cc.state.live = true := by rcases h.2 with h | h <;> rw [h] <;> rfl
    refine moves_trans (moves_same (moves_enter live (c := .lost) rfl) ?_)
      (moves_foldl (P := fun _ => True) (by simp) (fun _ _ _ => moves_lose ..) _ trivial)
    constructor <;> simp
  next => exact .refl

end Sys2Proof.Laws
end

section
/-! Accesses, commands and retries as moves. -/

namespace Sys2Proof.Laws

open Sys2Proof Sys2Proof.Machine Sys2Proof.Safety

/-! ## Field accesses -/

/-- A counted write (R40, R57) of a window FILLING. -/
theorem inPlace_counted {x : Window} (filling : x.state = .filling) : InPlace x x.counted := by
  have running : x.state ≠ .tripped ∧ x.state ≠ .fault := by simp [filling]
  have stays : x.counted.state ≠ .idle := by unfold Window.counted; split <;> simp [filling]
  have inUse (law : WindowLaw x) : ∃ d, x.inUse = some d := by
    obtain ⟨d, desc, _⟩ := law.inUse (by simp [filling])
    exact ⟨d, inUse_eq_some.mpr ⟨by simp [filling], desc⟩⟩
  refine ⟨by simp, by simp, by simp, by simp, by simp, by simp, by simp [stays, filling], fun law => ?_, fun law => ?_⟩
  · obtain ⟨d, use⟩ := inUse law
    refine windowLaw_of_inUse (x := x) (by simp) (by simp) (by simp) use stays law (fun k => ?_) (by simp) fun _ h => ?_
    · unfold KindLaw at k ⊢
      cases hk : d.kind with
      | output => simp [hk, filling] at k
      | input =>
        simp only [hk] at k ⊢
        obtain ⟨_, safe, carry, bound⟩ := k
        refine ⟨?_, by simpa using safe, by simpa using carry, ?_⟩
        · unfold Window.counted; split <;> simp [filling]
        · unfold Window.counted
          split
          · exact bound
          next nonzero => bv_omega
    · simpa [Window.counted, h.2] using h.1
  · obtain ⟨d, use⟩ := inUse law
    exact missOk_of_running use (InPlace.desc (by simp) (by simp) (by simp)) (by simp) running law

theorem same_writeF (s : State) (w : Win) (b : Bool) (a : Access) (g : Addr) : Same s (s.writeF w b a g) := by
  constructor <;> simp

theorem same_answerF (s : State) (x : Answer) : Same s (s.answerF x) := by
  constructor <;> simp [State.answerF]

theorem same_flyF (s : State) (w : Option Win) (b : Bool) (a : Access) (g : Addr) : Same s (s.flyF w b a g) := by
  constructor <;> simp [State.flyF]

theorem moves_fInput (s : State) (w : Win) (d : Descriptor) (a : Access) : Moves s (s.fInput w d a) := by
  unfold State.fInput
  simp only
  split
  · exact (same_flyF ..).moves
  · split
    · exact ((same_answerF ..).trans (same_dropEvent ..)).moves
    · split
      · exact (same_writeF ..).moves
      · split
        next filling =>
          exact moves_same (moves_modWin (inPlace_counted filling)) ((same_touch ..).trans (same_writeF ..))
        next => exact ((same_answerF ..).trans (same_dropEvent ..)).moves
        next => exact ((same_answerF ..).trans (same_dropEvent ..)).moves
        next => exact ((same_answerF ..).trans (same_drop ..)).moves

theorem same_fOutput (s : State) (w : Win) (d : Descriptor) (a : Access) : Same s (s.fOutput w d a) := by
  constructor <;> simp [lawItems_eq_iff]

theorem moves_fWindow (s : State) (w : Win) (a : Access) : Moves s (s.fWindow w a) := by
  unfold State.fWindow
  split
  · exact .refl
  · split
    · exact moves_fInput ..
    · exact (same_fOutput ..).moves

theorem moves_issueF (s : State) (a : Access) : Moves s (s.issueF a) := by
  unfold State.issueF
  split
  · exact ((same_answerF ..).trans (same_record ..)).moves
  · exact moves_fWindow ..
  · split
    · exact ((same_answerF ..).trans (same_dropEvent ..)).moves
    · exact (same_flyF ..).moves
  · exact (same_flyF ..).moves

theorem same_held (s : State) (h : Option Access) : Same s { s with fp := { s.fp with held := h } } := by
  constructor <;> simp

theorem moves_reachF (s : State) (a : Access) : Moves s (s.reachF a) := by
  unfold State.reachF
  split
  · exact (same_held ..).moves
  · exact moves_trans (same_held ..).moves (moves_issueF ..)

theorem moves_retryF (s t : State) : Moves t (retryF s t) := by
  unfold retryF
  split
  · split
    · exact moves_reachF ..
    · exact .refl
  · exact .refl

/-! ## Per-window commands -/

theorem same_refuse (s : State) (w : Win) (r : Reason) : Same s (s.refuse w r) := by
  constructor <;> simp [-win_refuse, lawItems_eq_iff]

theorem same_setResult (s : State) (c : BitVec 8) (r : ResultCode) (m : BitVec 16) : Same s (s.setResult c r m) := by
  constructor <;> simp

/-- A per-window command moves where its effect on an accepted window does (R153). -/
theorem moves_perWindow {test : State → Win → Reason} {effect : State → Win → State} (x : Word) {s : State}
    (live : s.cc.state.live = true)
    (moves : ∀ t w, t.cc.state.live = true → test t w = .none → Moves t (effect t w))
    (keeps : ∀ t w, (effect t w).cc = t.cc) : Moves s (s.perWindow test effect x) := by
  refine (perWindow_induct (P := fun t => Moves s t ∧ t.cc.state.live = true) test effect x ?_ ?_ ?_ ⟨.refl, live⟩).1
  · exact fun t w ⟨h, hl⟩ accepted => ⟨moves_trans h (moves t w hl accepted), by rw [keeps]; exact hl⟩
  · exact fun t w r ⟨h, hl⟩ => ⟨moves_same h (same_refuse ..), by simpa using hl⟩
  · exact fun t c r m ⟨h, hl⟩ => ⟨moves_same h (same_setResult ..), by simpa using hl⟩

/-- HELD belongs to inputs (R39). -/
theorem inPlace_held {x : Window} (b : Bool) (input : b = true → ∃ d, x.inUse = some d ∧ d.kind = .input) :
    InPlace x { x with held := b } := by
  refine ⟨rfl, rfl, rfl, rfl, rfl, rfl, Iff.rfl, fun law => ?_, fun _ h => h⟩
  have noOutput {d : Descriptor} (desc : x.desc = some d) (output : d.kind = .output) : b = false := by
    cases b with
    | false => rfl
    | true =>
      obtain ⟨e, use, he⟩ := input rfl
      obtain rfl : d = e := Option.some.inj (desc.symm.trans (inUse_eq_some.mp use).2)
      simp [output] at he
  refine ⟨fun h => ?_, law.idle, law.input, fun d desc output => ⟨noOutput desc output, (law.output d desc output).2⟩⟩
  obtain ⟨d, desc, enabled, kind⟩ := law.inUse h
  refine ⟨d, desc, enabled, ?_⟩
  unfold KindLaw at kind ⊢
  cases hk : d.kind with
  | input => simpa only [hk] using kind
  | output =>
    simp only [hk] at kind ⊢
    exact ⟨kind.1, noOutput desc hk, kind.2.2⟩

/-- A window that HOLD and RELEASE accept is an input window in use (R153). -/
theorem inputTest_none {s : State} {w : Win} (h : inputTest s w = .none) :
    ∃ d, (s.win w).inUse = some d ∧ d.kind = .input := by
  unfold inputTest at h
  split at h
  · cases h
  next d use => split at h <;> [exact ⟨d, use, ‹_›⟩; cases h]

/-- A window that COMMIT accepts is an output window in use that has neither tripped nor failed (R68). -/
theorem commitTest_none {s : State} {w : Win} (h : commitTest s w = .none) :
    ∃ d, (s.win w).inUse = some d ∧ d.kind = .output ∧ (s.win w).state ≠ .tripped ∧ (s.win w).state ≠ .fault := by
  unfold commitTest at h
  split at h
  · cases h
  next d use =>
    split at h
    · cases h
    · split at h
      · cases h
      · exact ⟨d, use, ‹_›, by tauto⟩

/-- COMMITTED is a state of outputs (R59). -/
theorem inPlace_committed {x : Window} {d : Descriptor} (use : x.inUse = some d) (output : d.kind = .output)
    (running : x.state ≠ .tripped ∧ x.state ≠ .fault) : InPlace x { x with state := .committed } := by
  have notIdle := state_ne_idle_of_inUse use
  refine ⟨rfl, rfl, rfl, rfl, rfl, rfl, by simp [notIdle], fun law => ?_, missOk_of_running use rfl rfl running⟩
  refine windowLaw_of_inUse (x := x) rfl rfl rfl use (by simp) law (fun k => ?_) (fun _ h => h) (fun _ h => h)
  simp only [KindLaw, output] at k ⊢
  exact ⟨by simp, k.2⟩

theorem loadTest_none {s : State} {w : Win} (h : loadTest s w = .none) :
    w ∉ s.cba.loadQueue ∧ (s.win w).switchPending = false := by
  unfold loadTest at h
  split at h
  · cases h
  · split at h
    · cases h
    · exact ⟨‹_›, by simp_all⟩

theorem switchTest_none {s : State} {w : Win} (h : switchTest s w = .none) :
    w ∉ s.cba.loadQueue ∧ ((s.win w).slot (s.win w).active.other).isSome = true := by
  unfold switchTest at h
  split at h
  · cases h
  · split at h
    · cases h
    next free target => exact ⟨free, by simpa [Option.isSome_iff_ne_none] using target⟩

theorem moves_rearmEffect (s : State) (w : Win) : Moves s (rearmEffect s w) := by
  unfold rearmEffect
  split
  · exact .refl
  next d use => exact moves_prime use

/-! ## Accepted commands -/

theorem same_clearError (s : State) : Same s s.clearError := by
  constructor <;> simp [State.clearError]

theorem stop_eq (s : State) : s.stop = retryF s (stopped s) := by
  unfold State.stop stopped
  rfl

theorem moves_stop (s : State) : Moves s s.stop := by
  have acted : Moves s (stopped s) := .single (.stop s)
  rw [stop_eq]
  exact moves_trans acted (moves_retryF ..)

theorem moves_runCommand {s : State} (x : Word) {c : Command} (accepted : c.accepted s.cc.state = true) :
    Moves s (s.runCommand x c) := by
  cases c with
  | start =>
    have stopped : s.cc.state = .stopped := by simpa [Command.accepted] using accepted
    rw [State.runCommand]
    exact moves_same (.single (.beginLoad s stopped)) (same_setResult ..)
  | stop =>
    rw [State.runCommand]
    exact moves_same (moves_stop s) (same_setResult ..)
  | reset =>
    rw [State.runCommand]
    exact moves_same (.single (.softReset s)) (same_setResult ..)
  | clearerr =>
    rw [State.runCommand]
    exact ((same_clearError s).trans (same_setResult ..)).moves
  | load =>
    refine moves_trans (moves_perWindow x accepted (fun t w live free => ?_) (by simp)) (.single (.startFetch _))
    obtain ⟨free, noSwitch⟩ := loadTest_none free
    exact .single (.queueLoad t w free noSwitch live)
  | switch => exact moves_perWindow x accepted (fun t w _ h => .single (.markSwitch t w (switchTest_none h).1)) (by simp [switchEffect])
  | cancel => exact moves_perWindow x accepted (fun t w _ _ => .single (.cancel t w)) (by simp [cancelEffect])
  | hold =>
    exact moves_perWindow x accepted (fun t w _ h => moves_modWin (f := fun x => { x with held := true })
      (inPlace_held true fun _ => inputTest_none h)) (by simp [holdEffect])
  | release =>
    exact moves_perWindow x accepted (fun t w _ h => moves_modWin (f := fun x => { x with held := false })
      (inPlace_held false nofun)) (by simp [releaseEffect])
  | commit =>
    refine moves_perWindow x accepted (fun t w _ h => ?_) (by simp [commitEffect])
    obtain ⟨d, use, output, running⟩ := commitTest_none h
    exact moves_modWin (f := fun x => { x with state := .committed }) (inPlace_committed use output running)
  | rearm => exact moves_perWindow x accepted (fun t w _ _ => moves_rearmEffect t w) (by simp)

theorem moves_takeCommand (s : State) (be : Lanes) (x : Word) : Moves s (s.takeCommand be x) := by
  unfold State.takeCommand
  split
  · exact (same_setResult ..).moves
  · split
    next accepted => exact moves_runCommand x accepted
    next => exact (same_setResult ..).moves

/-! ## Processor accesses -/

/-- The P port, its answer and the free items beside it are in no law of windows. -/
theorem same_pp (s : State) (pp : PPort) : Same s { s with pp := pp } := by
  constructor <;> simp

theorem same_issueAs (s : State) (w : Option Win) (b : Bool) (items : List PItem) : Same s (s.issueAs w b items) := by
  constructor <;> simp [State.issueAs]

theorem same_pWriteWindow (s : State) (w : Win) (x : PWrite) : Same s (s.pWriteWindow w x) := by
  constructor <;> simp [lawItems_eq_iff]

theorem same_issueRead (s : State) (r : PRead) : Same s (s.issueRead r) := by
  constructor <;> simp [win_congr (s := s) (t := s.issueRead r) (by simp)]

theorem moves_issueWrite (s : State) (x : PWrite) (rest : List PWrite) : Moves s (s.issueWrite x rest) := by
  have left : Same s { s with pp := { s.pp with pwq := rest } } := same_pp ..
  unfold State.issueWrite
  simp only
  split
  · exact (left.trans (same_record ..)).moves
  · exact moves_trans (left.trans (same_issueAs ..)).moves (moves_takeCommand ..)
  · exact (left.trans (same_issueAs ..)).moves
  · exact (left.trans (same_record ..)).moves
  · split
    · exact .refl
    · exact (left.trans (same_pWriteWindow ..)).moves
  · exact (left.trans (same_dropEvent ..)).moves
  · exact (left.trans (same_issueAs ..)).moves

theorem moves_issueP (s : State) : Moves s s.issueP := by
  unfold State.issueP
  split
  · exact .refl
  · split
    · exact moves_issueWrite ..
    · exact (same_issueRead ..).moves
    · exact .refl

theorem moves_retryStalled (s t : State) : Moves t (retryStalled s t) := by
  have ended : Moves t (endFenced s t) := by
    unfold endFenced
    split
    · exact (same_pp ..).moves
    · exact .refl
  have retried : Moves t (retryP s t) := by
    unfold retryP
    split
    · refine moves_trans ended ?_
      unfold retryHead
      split
      · exact (same_pp ..).moves
      · exact moves_issueP ..
    · exact ended
  exact moves_trans retried (moves_retryF ..)

theorem moves_issue (s : State) (q : IssueAt) : Moves s (s.issue q) := by
  unfold State.issue
  split
  · exact moves_issueP s
  · split
    · exact moves_reachF ..
    · exact .refl
  · split
    · exact moves_reachF ..
    · exact .refl

theorem moves_commandRow (s : State) (c : Spelling) : Moves s (s.commandRow c) := by
  unfold State.commandRow
  split
  · exact moves_issueP s
  · exact .refl

end Sys2Proof.Laws
end

section
/-! Memory port, Copy Engine, loads, notices and resets as moves; every command and every step. -/

namespace Sys2Proof.Laws

open Sys2Proof Sys2Proof.Machine Sys2Proof.Safety

/-! ## The M port -/

theorem same_grantTo (s : State) (q : Requester) (g : Grant) : Same s (s.grantTo q g) := by
  constructor <;> simp [State.grantTo]

theorem same_grantF (s : State) : Same s s.grantF := by
  constructor <;> simp [win_congr (s := s) (t := s.grantF) (by simp)]

theorem same_grantK (s : State) : Same s s.grantK := by
  constructor <;> simp [win_congr (s := s) (t := s.grantK) (by simp)]

theorem same_grantP (s : State) (answer : Resp) : Same s (s.grantP answer) := by
  constructor <;> simp [lawItems_eq_iff]

theorem same_withdrawC (s : State) : Same s s.withdrawC := by
  constructor <;> simp [State.withdrawC]

theorem moves_grantCarry (s : State) (w : Win) : Moves s (s.grantCarry w) := by
  unfold State.grantCarry
  split
  · exact ((same_withdrawC ..).trans (same_grantTo ..)).moves
  · exact moves_endJob ..

theorem moves_endLoopNosrc (s : State) (w : Win) : Moves s (s.endLoopNosrc w) :=
  moves_same (moves_endJob s w) (same_event ..)

theorem moves_grantLoop (s : State) (d src : Win) (k : Nat) : Moves s (s.grantLoop d src k) := by
  have ended := moves_endJob s d
  unfold State.grantLoop
  split
  · exact ended
  · split
    · exact ended
    · split
      · exact moves_endLoopNosrc ..
      · split
        · exact ended
        · split <;> exact ((same_withdrawC ..).trans (same_grantTo ..)).moves

theorem moves_grantC (s : State) : Moves s s.grantC := by
  unfold State.grantC
  split
  · exact (same_withdrawC ..).moves
  · split
    · exact moves_grantCarry ..
    · exact moves_grantLoop ..

theorem moves_arbitrate (s : State) (answer : Resp) : Moves s (s.arbitrate answer) := by
  unfold State.arbitrate
  split
  · exact .refl
  · exact (same_grantF ..).moves
  · exact (same_grantP ..).moves
  · exact (same_grantK ..).moves
  · exact moves_grantC ..

theorem moves_readClear (s : State) (answer : Resp) : Moves s (s.readClear answer) := by
  unfold State.readClear
  split
  · exact moves_arbitrate ..
  · exact .refl

theorem same_pAccessComplete (s : State) (r : Resp) : Same s (s.pAccessComplete r) := by
  constructor <;> simp [lawItems_eq_iff]

theorem same_fAccessComplete (s : State) (r : Resp) : Same s (s.fAccessComplete r) := by
  constructor <;> simp [lawItems_eq_iff]

theorem same_mergePairComplete (s : State) (r : Resp) : Same s (s.mergePairComplete r) := by
  constructor <;> simp [lawItems_eq_iff]

theorem same_failPair (s : State) (q : ErrSource) (t : Pair) : Same s (s.failPair q t) := by
  constructor <;> simp

theorem same_finishPair (s : State) (r : Resp) (q : ErrSource) (t : Pair) (x : Word) : Same s (s.finishPair r q t x) := by
  constructor <;> simp

theorem same_popItem (s : State) : Same s s.popItem := by
  constructor <;> simp

theorem same_leaveDrain (s : State) (m : DrainMember) : Same s (s.leaveDrain m) := by
  constructor <;> simp

theorem same_readHalf (s : State) : Same s s.readHalf := by
  constructor <;> simp

/-- A carry mark may be cleared at any time (R65, R81). -/
theorem inPlace_eraseMark (x : Window) (k : Nat) : InPlace x { x with carry := x.carry.erase k } := by
  refine ⟨rfl, rfl, rfl, rfl, rfl, rfl, Iff.rfl, fun law => ⟨fun h => ?_, fun h => ?_, law.input, law.output⟩, fun _ h => h⟩
  · obtain ⟨d, desc, enabled, kind⟩ := law.inUse h
    refine ⟨d, desc, enabled, ?_⟩
    unfold KindLaw at kind ⊢
    split
    · simp_all
    next output =>
      simp only [output] at kind
      obtain ⟨state, held, fill, ascending, marks⟩ := kind
      exact ⟨state, held, fill, ascending.sublist List.erase_sublist, fun j hj => marks j (List.mem_of_mem_erase hj)⟩
  · obtain ⟨miss, carry⟩ := law.idle h
    exact ⟨miss, by simp [carry]⟩

theorem moves_eraseMark (s : State) (w : Win) (k : Nat) : Moves s (s.eraseMark w k) :=
  moves_modWin (f := fun x => { x with carry := x.carry.erase k }) (inPlace_eraseMark _ k)

theorem moves_demandCopyComplete (s : State) (r : Resp) : Moves s (s.demandCopyComplete r) := by
  unfold State.demandCopyComplete
  split
  · split
    · refine moves_trans ?_ (moves_retryStalled ..)
      exact moves_same (moves_trans (same_failPair ..).moves (moves_faultOutput ..)) (same_popItem ..)
    · exact .refl
  · split
    · exact moves_same (moves_trans (same_finishPair ..).moves (moves_eraseMark ..)) ((same_touch ..).trans (same_popItem ..))
    · exact .refl
  · exact .refl

/-! ## The Copy Engine -/

theorem same_requestC (s : State) : Same s s.requestC := by
  constructor <;> simp

theorem same_setNext (s : State) (src : Win) (k : Nat) : Same s (s.setNext src k) := by
  constructor <;> simp [setNext_dests]

theorem same_running (s : State) (b : Bool) : Same s { s with ce := { s.ce with running := b } } := by
  constructor <;> simp

theorem moves_carryNext (s : State) (w : Win) : Moves s (s.carryNext w) := by
  unfold State.carryNext
  split
  · exact moves_endJob ..
  · exact (same_requestC ..).moves

theorem moves_loopNext (s : State) (d src : Win) (k : Nat) : Moves s (s.loopNext d src k) := by
  have ended := moves_endJob s d
  unfold State.loopNext
  split
  · exact ended
  · split
    · exact ended
    · split
      · exact moves_endLoopNosrc ..
      · split
        · exact ended
        · exact ((same_setNext ..).trans (same_requestC ..)).moves

theorem moves_jobNext (s : State) : Moves s s.jobNext := by
  unfold State.jobNext
  split
  · exact .refl
  · split
    · exact moves_carryNext ..
    · exact moves_loopNext ..

theorem moves_startJob (s : State) : Moves s s.startJob := by
  unfold State.startJob
  split
  · exact .refl
  · exact moves_trans (same_running ..).moves (moves_jobNext ..)

theorem moves_carryFailed (s : State) (w : Win) : Moves s (s.carryFailed w) := by
  unfold State.carryFailed
  split
  · exact moves_trans (moves_faultOutput ..) (moves_endJob ..)
  · exact .refl

theorem moves_carryDone (s : State) (w : Win) (k : Nat) : Moves s (s.carryDone w k) := by
  unfold State.carryDone
  simp only
  split
  · exact moves_trans (moves_eraseMark ..) (moves_jobNext ..)
  · exact moves_eraseMark ..

theorem moves_carryPairComplete (s : State) (r : Resp) : Moves s (s.carryPairComplete r) := by
  unfold State.carryPairComplete
  split
  · split
    · refine moves_trans ?_ (moves_retryStalled ..)
      exact moves_same (moves_trans (same_failPair ..).moves (moves_carryFailed ..)) (same_leaveDrain ..)
    · exact .refl
  · split
    · exact moves_same (moves_trans (same_finishPair ..).moves (moves_carryDone ..)) (same_leaveDrain ..)
    · exact .refl
  · exact .refl

theorem moves_loopFailed (s : State) (d : Win) : Moves s (s.loopFailed d) := by
  unfold State.loopFailed
  split
  · split
    next filling => exact moves_faultInput (by simp [filling])
    next => exact moves_endJob ..
  · exact .refl

theorem moves_loopAdvance (s : State) : Moves s s.loopAdvance := by
  unfold State.loopAdvance
  split
  · exact .refl
  · split
    · exact .refl
    · exact (same_setNext ..).moves

theorem moves_loopDone (s : State) (d : Win) : Moves s (s.loopDone d) := by
  unfold State.loopDone
  split
  · split
    next filling =>
      have counted := moves_same (moves_modWin (inPlace_counted filling)) (same_touch _ (.win d))
      exact moves_trans (moves_trans counted (moves_loopAdvance ..)) (moves_jobNext ..)
    next => exact moves_jobNext ..
  · exact .refl

theorem same_loopFillAnswered (s : State) (r : Resp) (a : Addr) (be : Lanes) (d : Word) :
    Same s (State.latchAnswer r ((State.memAnswered r s a be d).setGrant .free) .ce .write a) := by
  constructor <;> simp [win_congr (s := s) (t := State.memAnswered r s a be d) (by simp)]

theorem moves_loopPairComplete (s : State) (r : Resp) : Moves s (s.loopPairComplete r) := by
  unfold State.loopPairComplete
  split
  · split
    · exact moves_same (moves_trans (same_failPair ..).moves (moves_loopFailed ..)) (same_leaveDrain ..)
    · exact .refl
  · split
    · exact moves_same (moves_trans (same_finishPair ..).moves (moves_loopDone ..)) (same_leaveDrain ..)
    · exact .refl
  · split
    · exact moves_same (moves_trans (same_loopFillAnswered ..).moves (moves_loopDone ..)) (same_leaveDrain ..)
    · exact .refl
  · exact .refl

theorem moves_swapPerform (s : State) (w : Win) : Moves s (s.swapPerform w) := by
  unfold State.swapPerform
  split
  · exact moves_trans (moves_trans (moves_performSwap ..) (moves_enqueueLoop ..)) (moves_retryStalled ..)
  · exact .refl

/-! ## Loads and fetches -/

theorem same_kReadDone (s : State) (r : Resp) (t : Single) : Same s (s.kReadDone r t) := by
  constructor <;> simp

theorem moves_fillLoadSlot {s : State} (w : Win) (n : SlotName) (ws : List Word) (load : s.cba.load ≠ none)
    (running : s.cc.state ≠ .resetting) (rst : s.lines.rst = false) : Moves s (s.fillSlot w (loadSlotOf n) ws) := by
  unfold State.fillSlot
  split
  next valid => exact moves_same (.single (.loadSlot s w n _ load running valid rst)) (same_touch ..)
  next => exact (same_event ..).moves

theorem moves_loadRecord {s : State} {l : StartLoad} (n : Nat) (ws : List Word) (load : s.cba.load ≠ none)
    (running : s.cc.state ≠ .resetting) (rst : s.lines.rst = false) : Moves s (s.loadRecord l n ws) := by
  unfold State.loadRecord
  split
  · split <;> exact .single (.setLoad s _ load)
  · refine moves_trans
      (.single (.setLoad s (some { l with count := n, words := [], ending := if n = 264 then some true else none }) load)) ?_
    exact moves_fillLoadSlot _ _ ws (by simp [State.setLoad]) running rst

theorem moves_loadAnswered (s : State) (r : Resp) (x : Word) (rst : s.lines.rst = false) :
    Moves s (s.loadAnswered r x) := by
  unfold State.loadAnswered
  split
  · exact .refl
  next l load =>
    have some : s.cba.load ≠ none := by simp [load]
    split
    · exact .refl
    next running =>
      split
      · exact .single (.setLoad s _ some)
      · unfold State.loadWord
        split
        · exact moves_loadRecord _ _ some running rst
        · exact .single (.setLoad s _ some)

theorem moves_loadReadComplete (s : State) (r : Resp) (rst : s.lines.rst = false) : Moves s (s.loadReadComplete r) := by
  unfold State.loadReadComplete
  split
  · split
    · exact moves_trans (same_kReadDone ..).moves (moves_loadAnswered _ _ _ (by simpa using rst))
    · exact .refl
  · exact .refl

theorem moves_startLoadEnd (s : State) : Moves s s.startLoadEnd := by
  unfold State.startLoadEnd
  split
  next loading =>
    split
    · split
      · exact .single (.loadSucceeds s _ loading)
      · exact .single (.loadFails s loading)
      · exact .refl
    · exact .refl
  · exact .refl

theorem moves_endFetch (s : State) : Moves s s.endFetch := by
  unfold State.endFetch
  simp only
  split
  · exact moves_same (.single (.endFetch s)) (same_record ..)
  · exact moves_trans (.single (.endFetch s)) (.single (.startFetch _))

theorem same_setFetch {s : State} {f : Fetch} (h : s.cba.fetch = some f) (ws : List Word) :
    Same s (s.setFetch (some { f with words := ws })) := by
  constructor <;> simp [State.setFetch, h]

theorem moves_fetchAnswered (s : State) (r : Resp) (x : Word) (rst : s.lines.rst = false) :
    Moves s (s.fetchAnswered r x) := by
  unfold State.fetchAnswered
  split
  · exact .refl
  next f fetch =>
    split
    · exact .refl
    · split
      · exact moves_trans (same_event ..).moves (moves_endFetch ..)
      · unfold State.fetchWord
        split
        · refine moves_trans ?_ (moves_endFetch ..)
          unfold State.fillSlot
          split
          next valid => exact moves_same (.single (.fillInactive s f _ fetch valid rst)) (same_touch ..)
          next => exact (same_event ..).moves
        · exact (same_setFetch fetch _).moves

theorem moves_fetchReadComplete (s : State) (r : Resp) (rst : s.lines.rst = false) : Moves s (s.fetchReadComplete r) := by
  unfold State.fetchReadComplete
  split
  · split
    · exact moves_trans (same_kReadDone ..).moves (moves_fetchAnswered _ _ _ (by simpa using rst))
    · exact .refl
  · exact .refl

/-! ## Write-backs, notices and resets -/

theorem same_beginWriteback (s : State) : Same s s.beginWriteback := by
  constructor <;> simp

theorem moves_nextWord (s : State) (name : RecName) (i : Nat) : Moves s (s.nextWord name i) := by
  unfold State.nextWord
  split
  · exact Same.moves (by constructor <;> simp)
  · by_cases last : s.cc.phase = .pass ∧ name = .win 15
    · refine moves_same (.single (.passDone s last.1)) ?_
      constructor <;> simp [last]
    · exact Same.moves (by constructor <;> simp [last])

theorem same_publishAnswered (r : Resp) (s : State) (name : RecName) (i : Nat) (x : Word) :
    Same s (State.publishAnswered r s name i x) := by
  constructor <;> simp [lawItems_eq_iff]

theorem same_wordAnswered (s : State) (r : Resp) (a : Addr) (be : Lanes) (d : Word) :
    Same s (State.latchAnswer r ((State.memAnswered r s a be d).setGrant .free) .k .write a) := by
  constructor <;> simp [win_congr (s := s) (t := State.memAnswered r s a be d) (by simp)]

theorem same_wordDone (s : State) : Same s { s with cba := { s.cba with request := none, turn := .read } } := by
  constructor <;> simp

theorem moves_writebackWordComplete (s : State) (r : Resp) : Moves s (s.writebackWordComplete r) := by
  unfold State.writebackWordComplete
  split
  · split
    · exact moves_same (moves_trans ((same_wordAnswered ..).trans (same_publishAnswered ..)).moves (moves_nextWord ..))
        (same_wordDone _)
    · exact .refl
  · exact .refl

theorem moves_raiseOffer (s : State) : Moves s s.raiseOffer := by
  unfold State.raiseOffer
  split
  next n rest queue none =>
    split
    · exact .refl
    · exact .single (.offer s n rest _ queue)
  · exact .refl

theorem moves_acceptNotice (s : State) : Moves s s.acceptNotice := by
  unfold State.acceptNotice
  split
  · exact .refl
  next n offer => exact moves_trans (.single (.leave s n offer)) (moves_retryStalled ..)

theorem moves_noticeExpires (s : State) : Moves s s.noticeExpires := by
  unfold State.noticeExpires
  split
  · exact .refl
  next n offer =>
    split
    · exact moves_trans (moves_same (.single (.leave s n offer)) (same_record ..)) (moves_retryStalled ..)
    · exact .refl

theorem moves_endDrain (s : State) : Moves s s.endDrain := by
  unfold State.endDrain
  split
  next h =>
    obtain ⟨draining, drained⟩ := h
    have empty : s.nu.queue = [] := by
      simp only [State.drained, Bool.and_eq_true, List.isEmpty_iff] at drained
      exact drained.1.2
    exact moves_same (.single (.drained s draining empty)) (same_record ..)
  · exact .refl

theorem moves_takeResetValues (s : State) : Moves s s.takeResetValues := by
  unfold State.takeResetValues
  split
  · exact .single (.resetValues s)
  · exact .refl

theorem moves_endPass (s : State) : Moves s s.endPass := by
  unfold State.endPass
  split
  next h => exact moves_trans (moves_same (.single (.passEnded s h.1 h.2)) (same_touch ..)) (moves_retryStalled ..)
  · exact .refl

/-! ## Commands and steps -/

theorem moves_effect {c : Instr} {s : State} (rst : joinsRecords c = true → s.lines.rst = false) : Moves s (effect c s) := by
  cases c with
  | cycRise => exact moves_trans (moves_risingEdge s) (moves_retryStalled ..)
  | cycFall => exact Same.moves (by constructor <;> simp [effect])
  | frzChange => exact Same.moves (by constructor <;> simp [effect])
  | intervalTimerExpiry => exact Same.moves (by constructor <;> simp [effect, State.intervalExpires])
  | watchdogExpiry => exact moves_watchdogExpires s
  | pinReset => exact .single (.pinReset s)
  | rstRelease memsz cbsel frz => exact .single (.rstRelease s memsz cbsel frz)
  | pWriteTake addr be data =>
    exact Same.moves (by constructor <;> simp [effect, win_congr (s := s) (t := s.takeWrite addr be data) (by simp)])
  | pReadTake addr be =>
    exact Same.moves (by constructor <;> simp [effect, win_congr (s := s) (t := s.takeRead addr be) (by simp)])
  | accessIssue port => exact moves_issue s port
  | start | stop | reset | clearerr | load | switch | cancel | hold | release | commit | rearm | unknownCommand =>
    exact moves_commandRow ..
  | readClear answer => exact moves_readClear ..
  | mpGrant answer => exact moves_arbitrate ..
  | pAccessComplete r => exact (same_pAccessComplete ..).moves
  | fAccessComplete r => exact (same_fAccessComplete ..).moves
  | mergePairComplete r => exact (same_mergePairComplete ..).moves
  | demandCopyComplete r => exact moves_demandCopyComplete ..
  | copyJobStart => exact moves_startJob ..
  | carryPairComplete r => exact moves_carryPairComplete ..
  | loopPairComplete r => exact moves_loopPairComplete ..
  | swapPerform w => exact moves_swapPerform ..
  | loadReadComplete r => exact moves_loadReadComplete s r (rst rfl)
  | startLoadEnd => exact moves_startLoadEnd ..
  | fetchReadComplete r => exact moves_fetchReadComplete s r (rst rfl)
  | writebackRecord => exact (same_beginWriteback ..).moves
  | writebackWordComplete r => exact moves_writebackWordComplete ..
  | noticeOffer accept => exact moves_raiseOffer ..
  | noticeAccept => exact moves_acceptNotice ..
  | noticeTimeout => exact moves_noticeExpires ..
  | drainEnd => exact moves_endDrain ..
  | resetValues => exact moves_takeResetValues ..
  | resetPassEnd => exact moves_endPass ..
  | readHalfResponse => exact (same_readHalf ..).moves

theorem same_finish (s u : State) : Same u (finish s u) := by constructor <;> simp

theorem same_levelled (c : Instr) (s : State) : Same s (levelled c s) := by
  unfold levelled
  split <;> constructor <;> simp [State.setCyc, State.setAccept]

theorem same_underRst (c : Instr) (s : State) : Same s (underRst c s) := by
  unfold underRst
  split
  · constructor <;> simp
  · exact same_levelled ..

theorem moves_answers {c : Instr} {s t : State} (h : Answers c s t) : Moves s t := by
  cases h with
  | held => exact (same_underRst ..).moves
  | event rst joins =>
    have acted : Moves (levelled c s) (effect c (levelled c s)) := moves_effect fun _ => by simpa using rst
    exact moves_same (moves_trans (same_levelled ..).moves acted) (same_finish ..)
  | direct joins => exact moves_effect fun h => by simp [joins] at h

/-- Every step of the part is a sequence of moves. -/
theorem moves_step {s t : State} (h : step s = .next t) : Moves s t := by
  obtain rfl | ⟨c, rest, answers⟩ := step_answers h
  · exact .refl
  · have queued : Same s { s with pending := rest } := by constructor <;> simp
    exact moves_trans queued.moves (moves_answers answers)

end Sys2Proof.Laws
end

section
/-! The laws of the Copy Queue and of the slots are kept by every move. -/

namespace Sys2Proof.Laws

open Sys2Proof Sys2Proof.Machine Sys2Proof.Safety

/-- An item that a replaced record keeps is kept in every window. -/
theorem item_setWin {α : Type} (p : Window → α) {s : State} {w : Win} {y : Window} (h : p y = p (s.win w)) (v : Win) :
    p ((s.setWin w y).win v) = p (s.win v) := by
  rw [win_setWin]
  split
  next hv => rw [hv, h]
  next => rfl

/-- An item that a change of a record keeps is kept in every window. -/
theorem item_modWin {α : Type} (p : Window → α) {s : State} {w : Win} {f : Window → Window} (h : ∀ x, p (f x) = p x) (v : Win) :
    
    p ((s.modWin w f).win v) = p (s.win v) := item_setWin p (h _) v

/-! ## Jobs -/

theorem copyLaw_of_move {s t : State} (m : Move s t) (h : CopyLaw s) : CopyLaw t := by
  unfold CopyLaw at h ⊢
  cases m with
  | same same => rwa [same.dests]
  | jobs js sub => 
    obtain ⟨l, perm, sublist⟩ := sub
    exact perm.nodup_iff.mp (h.sublist sublist)
  | join j use free =>
    rw [List.map_append, List.nodup_append]
    refine ⟨h, by simp, ?_⟩
    simp only [State.hasJob, List.any_eq_false, beq_iff_eq] at free
    simpa using free
  | startFetch => simpa
  | beginLoad => simpa
  | loadSucceeds => simpa
  | loadFails => simpa
  | leave => simpa
  | stop => simp [stopped]
  | resetValues | pinReset => simp [State.afterReset, State.pinReset, State.reset]
  | rstRelease => unfold State.releaseRst; split <;> exact h
  | _ => exact h

theorem copyLaw_of_moves {s t : State} (m : Moves s t) (h : CopyLaw s) : CopyLaw t := by
  induction m with
  | refl => exact h
  | tail _ m ih => exact copyLaw_of_move m ih

/-! ## Slots -/

/-- Validation depends on the straps alone. -/
theorem selfOk_congr {s t : State} (memsz : t.lines.memsz = s.lines.memsz) (cbsel : t.lines.cbsel = s.lines.cbsel)
    (d : Descriptor) : t.selfOk d = s.selfOk d := by
  have size : t.memSize = s.memSize := by simp only [State.memSize, memsz]
  have base : t.cbBase = s.cbBase := by simp only [State.cbBase, cbsel]
  simp only [State.selfOk, State.rangeOk, size, base]

theorem overlap_comm (a b : Addr) (l m : Nat) : overlap a l b m = overlap b m a l := by
  simp only [overlap]
  grind

/-- The checks against another slot hold both ways (R6). -/
theorem crossOk_comm (d e : Descriptor) : crossOk d e = crossOk e d := by
  simp only [crossOk, overlap_comm e.pview, overlap_comm e.fview]
  grind

/-- The law is kept where no slot becomes valid. -/
theorem slotLaw_of_fewer {s t : State} (h : SlotLaw s) (rst : t.lines.rst = s.lines.rst)
    (memsz : t.lines.memsz = s.lines.memsz) (cbsel : t.lines.cbsel = s.lines.cbsel)
    (slots : ∀ w n d, (t.win w).slot n = some d → (s.win w).slot n = some d) : SlotLaw t where
  ok w n d hd := (selfOk_congr memsz cbsel d).trans (h.ok w n d (slots w n d hd))
  apart v w m n d e hvw hd he := h.apart v w m n d e hvw (slots v m d hd) (slots w n e he)
  reset asserted w n := by
    cases hd : (t.win w).slot n with
    | none => rfl
    | some d => exact absurd (slots w n d hd) (by simp [h.reset (rst ▸ asserted) w n])

/-- The law is kept where the slots of each window stay as they are. -/
theorem slotLaw_of_slots {s t : State} (h : SlotLaw s) (lines : t.lines = s.lines)
    (slotA : ∀ w, (t.win w).slotA = (s.win w).slotA) (slotB : ∀ w, (t.win w).slotB = (s.win w).slotB) : SlotLaw t := by
  refine slotLaw_of_fewer h (by rw [lines]) (by rw [lines]) (by rw [lines]) fun w n d hd => ?_
  rw [← hd]
  cases n
  · exact (slotA w).symm
  · exact (slotB w).symm

/-- Validation is the descriptor's own checks and those against every valid slot of every other window (R5, R6). -/
theorem validate_iff (s : State) (w : Win) (d : Descriptor) : s.validate w d = true ↔
    s.selfOk d = true ∧ ∀ v, v ≠ w → ∀ n e, (s.win v).slot n = some e → crossOk d e = true := by
  have slot (v : Win) : (crossOkSlot d (s.win v).slotA && crossOkSlot d (s.win v).slotB) = true ↔
      ∀ n e, (s.win v).slot n = some e → crossOk d e = true := by
    have one (o : Option Descriptor) : crossOkSlot d o = true ↔ ∀ e, o = some e → crossOk d e = true := by
      cases o <;> simp [crossOkSlot]
    rw [Bool.and_eq_true, one, one]
    exact ⟨fun ⟨ha, hb⟩ n => by cases n <;> assumption, fun h => ⟨h .a, h .b⟩⟩
  simp only [State.validate, Bool.and_eq_true, List.all_eq_true, Bool.or_eq_true, beq_iff_eq]
  refine and_congr_right fun _ => ⟨fun h v hv => ?_, fun h v _ => ?_⟩
  · exact (slot v).mp (by simpa using (h v (mem_allWindows v)).resolve_left hv)
  · by_cases hv : v = w
    · exact .inl hv
    · exact .inr (by simpa using (slot v).mpr (h v hv))

/-- The law is kept where a validated descriptor fills one slot. -/
theorem slotLaw_of_filled {s : State} (h : SlotLaw s) {w : Win} {n : SlotName} {d : Descriptor} {y : Window}
    (released : s.lines.rst = false) (valid : s.validate w d = true)
    (slots : ∀ m e, y.slot m = some e → m = n ∧ e = d ∨ (s.win w).slot m = some e) : SlotLaw (s.setWin w y) := by
  obtain ⟨self, cross⟩ := (validate_iff s w d).mp valid
  have old (v : Win) (m : SlotName) (e : Descriptor) (he : ((s.setWin w y).win v).slot m = some e) :
      v = w ∧ e = d ∨ (s.win v).slot m = some e := by
    rw [win_setWin] at he
    split at he
    next hv =>
      subst hv
      rcases slots m e he with ⟨_, rfl⟩ | hold
      · exact .inl ⟨rfl, rfl⟩
      · exact .inr hold
    next => exact .inr he
  refine ⟨fun v m e he => ?_, fun u v m k e f huv he hf => ?_, fun asserted => absurd asserted (by simp [released])⟩
  · rcases old v m e he with ⟨_, rfl⟩ | he
    · exact (selfOk_congr rfl rfl e).trans self
    · exact (selfOk_congr rfl rfl e).trans (h.ok v m e he)
  · rcases old u m e he with ⟨rfl, rfl⟩ | he' <;> rcases old v k f hf with ⟨rfl, rfl⟩ | hf'
    · exact absurd rfl huv
    · exact cross v huv.symm k f hf'
    · rw [crossOk_comm]; exact cross u huv m e he'
    · exact h.apart u v m k e f huv he' hf'

/-- The law holds where every slot is INVALID. -/
theorem slotLaw_of_none {t : State} (none : ∀ w n, (t.win w).slot n = none) : SlotLaw t where
  ok w n d hd := by simp [none] at hd
  apart v w m n d e _ hd := by simp [none] at hd
  reset _ := none

theorem win_reset (w : Win) : State.reset.win w = Window.reset := by
  simp [State.win, State.reset]

theorem win_afterReset (s : State) (w : Win) : s.afterReset.win w = Window.reset :=
  (win_congr (s := State.reset) rfl w).trans (win_reset w)

theorem win_pinReset (s : State) (w : Win) : s.pinReset.win w = Window.reset :=
  (win_congr (s := State.reset) rfl w).trans (win_reset w)

theorem slot_reset (n : SlotName) : Window.reset.slot n = none := by cases n <;> rfl

theorem slot_of_lawItems {x y : Window} (h : lawItems y = lawItems x) (n : SlotName) : y.slot n = x.slot n :=
  (congrArg (fun z => Window.slot z n) h : (lawItems y).slot n = (lawItems x).slot n)

/-- A record of a window after START (R128). -/
theorem win_beginLoad (s : State) (v : Win) : (s.beginLoad.win v) = (s.win v).unloaded := by
  have each (l : List Win) (hl : l.Nodup) (t : State) :
      (l.foldl (fun t w => (t.modWin w Window.unloaded).touch (.win w)) t).win v =
        if v ∈ l then (t.win v).unloaded else t.win v := by
    induction l generalizing t with
    | nil => rfl
    | cons w l ih =>
      obtain ⟨notIn, hl⟩ := List.nodup_cons.mp hl
      rw [List.foldl_cons, ih hl]
      by_cases hv : v = w
      · subst hv; simp [notIn]
      · simp [hv]
  unfold State.beginLoad
  rw [win_touch, each _ nodup_allWindows, if_pos (mem_allWindows v)]
  rfl

theorem win_stopped (s : State) (v : Win) : (stopped s).win v = (s.win v).stopped := by
  unfold stopped
  rw [win_foldl_modWin]
  rfl

theorem win_loadFails (s : State) (v : Win) : s.loadFails.win v = s.win v := win_congr (by simp) v

theorem started_slotA (x : Window) : x.started.slotA = x.slotA := by
  unfold Window.started
  simp only
  split
  · rfl
  · split <;> simp

theorem started_slotB (x : Window) : x.started.slotB = x.slotB := by
  unfold Window.started
  simp only
  split
  · rfl
  · split <;> simp

theorem slotLaw_of_move {s t : State} (m : Move s t) (h : SlotLaw s) : SlotLaw t := by
  cases m with
  | same same =>
    exact slotLaw_of_fewer h same.rst same.memsz same.cbsel fun w n d hd => (slot_of_lawItems (same.win w) n).symm.trans hd
  | window w y place => exact slotLaw_of_slots h rfl (item_setWin Window.slotA place.slotA) (item_setWin Window.slotB place.slotB)
  | switched | decide | settle | fence | markSwitch | cancel =>
    exact slotLaw_of_slots h rfl (item_modWin Window.slotA fun x => by simp) (item_modWin Window.slotB fun x => by simp)
  | reserve w =>
    have pending : SlotLaw (s.modWin w fun x => { x with swapPending := true }) :=
      slotLaw_of_slots h rfl (item_modWin Window.slotA fun x => rfl) (item_modWin Window.slotB fun x => rfl)
    exact slotLaw_of_slots pending rfl (fun _ => rfl) fun _ => rfl
  | fill | notice =>
    exact slotLaw_of_slots h rfl (by simp [-win_enqueueNotice]) (by simp [-win_enqueueNotice])
  | leave => exact slotLaw_of_slots h (by simp) (by simp [-win_noticeLeaves]) (by simp [-win_noticeLeaves])
  | startFetch =>
    refine slotLaw_of_fewer h (by simp) (by simp) (by simp) fun w n d hd => ?_
    unfold State.startFetch at hd
    split at hd
    · rw [win_modWin] at hd
      split at hd
      next hw =>
        rw [slot_setSlot] at hd
        split at hd
        · cases hd
        · rw [hw]; exact hd
      next => exact hd
    · exact hd
  | fillInactive f d fetch valid rst =>
    refine slotLaw_of_filled h (n := f.slot) rst valid fun m e he => ?_
    rw [putSlot, slot_setSlot] at he
    split at he
    next hm => exact .inl ⟨hm, (Option.some.inj he).symm⟩
    next => exact .inr he
  | loadSlot w n d load running valid rst =>
    refine slotLaw_of_filled h (n := n) rst valid fun m e he => ?_
    cases n <;> cases m <;> simp_all [loadSlotOf, Window.slot]
  | beginLoad =>
    refine slotLaw_of_none fun w n => ?_
    rw [win_beginLoad]; cases n <;> rfl
  | loadSucceeds c =>
    exact slotLaw_of_slots h (by simp) (by simp [started_slotA]) (by simp [started_slotB])
  | loadFails => exact slotLaw_of_slots h (by simp) (by simp [win_loadFails]) (by simp [win_loadFails])
  | stop =>
    refine slotLaw_of_slots h (by simp [stopped]) ?_ ?_ <;> (intro w; rw [win_stopped]; rfl)
  | resetValues =>
    exact slotLaw_of_none fun w n => by rw [win_afterReset, slot_reset]
  | pinReset =>
    exact slotLaw_of_none fun w n => by rw [win_pinReset, slot_reset]
  | rstRelease memsz cbsel frz =>
    unfold State.releaseRst
    split
    next asserted => exact slotLaw_of_none fun w n => h.reset asserted w n
    next => exact h
  | _ => exact slotLaw_of_slots h rfl (fun _ => rfl) fun _ => rfl

theorem slotLaw_of_moves {s t : State} (m : Moves s t) (h : SlotLaw s) : SlotLaw t := by
  induction m with
  | refl => exact h
  | tail _ m ih => exact slotLaw_of_move m ih

end Sys2Proof.Laws
end

section
/-! The eleventh law is kept by every move. -/

namespace Sys2Proof.Laws

open Sys2Proof Sys2Proof.Machine Sys2Proof.Safety

/-- What the eleventh law says of a state without windows in use carries over. -/
structure StillItems (s t : State) : Prop where
  idle     : ∀ w, (s.win w).state = .idle → (t.win w).state = .idle
  noSwap   : ∀ w, (s.win w).swapPending = false → (t.win w).swapPending = false
  active   : ∀ w, (s.win w).active = .a → (t.win w).active = .a
  noJobs   : s.ce.jobs = [] → t.ce.jobs = []
  noPlaces : s.nu.reservations = [] → t.nu.reservations = []
  noLoads  : s.cba.loadQueue = [] → t.cba.loadQueue = []
  noNotice : s.nu.queue = [] → t.nu.queue = []

section
variable {s t : State} (h : StillLaw s)
include h

/-- The law is kept in the controller's state, where no START load begins. -/
theorem stillLaw_of_items (state : t.cc.state = s.cc.state) (phase : t.cc.phase = s.cc.phase)
    (load : t.cba.load ≠ none → s.cba.load ≠ none) (items : Still s → StillItems s t) : StillLaw t := by
  have still : Still t ↔ Still s := by simp only [Still, state, phase]
  refine ⟨fun k w => ?_, fun k w => ?_, fun k => ?_, fun k => ?_, fun k => ?_, fun k draining => ?_, fun k => ?_, fun k w => ?_⟩
  · exact (items (still.mp k)).idle w (h.idle (still.mp k) w)
  · exact (items (still.mp k)).noSwap w (h.noSwap (still.mp k) w)
  · exact (items (still.mp k)).noJobs (h.noJobs (still.mp k))
  · exact (items (still.mp k)).noPlaces (h.noPlaces (still.mp k))
  · exact (items (still.mp k)).noLoads (h.noLoads (still.mp k))
  · exact (items (still.mp k)).noNotice (h.noNotice (still.mp k) (state ▸ draining))
  · rw [state, phase]; exact h.loading (load k)
  · have loading : s.cc.state = .loading := state ▸ k
    exact (items (.inr (.inl loading))).active w (h.slotA loading w)

theorem not_still_of_use {w : Win} (use : (s.win w).state ≠ .idle) : ¬ Still s := fun k => use (h.idle k w)

omit h in
theorem not_still_of_live (live : s.cc.state.live = true) : ¬ Still s := by
  rintro (k | k | k | ⟨k, _⟩) <;> simp [k, CState.live] at live

/-- No START load stands beside windows in use (R131). -/
theorem load_eq_none_of_live (live : s.cc.state.live = true) : s.cba.load = none := by
  by_contra load
  rcases h.loading load with k | ⟨k, _⟩ <;> simp [k, CState.live] at live

omit h in
/-- With windows in use, or in RESETTING before its reset values, the law speaks of the START load alone. -/
theorem stillLaw_of_not_still (running : ¬ Still t)
    (loading : t.cba.load ≠ none → t.cc.state = .resetting ∧ t.cc.phase = .waiting) : StillLaw t where
  idle k := absurd k running
  noSwap k := absurd k running
  noJobs k := absurd k running
  noPlaces k := absurd k running
  noLoads k := absurd k running
  noNotice k := absurd k running
  loading k := .inr (loading k)
  slotA k := absurd (.inr (.inl k)) running

/-- The law is kept by an operation on windows in use. -/
theorem stillLaw_of_running (running : ¬ Still s) (cc : t.cc = s.cc) (load : t.cba.load = s.cba.load) : StillLaw t :=
  stillLaw_of_items h (by rw [cc]) (by rw [cc]) (by rw [load]; exact id) fun k => absurd k running

end

/-- A record that becomes idle or stays so, and keeps its other items. -/
theorem stillItems_of_windows {s t : State} (state : ∀ w, (s.win w).state = .idle → (t.win w).state = .idle)
    (noSwap : ∀ w, (s.win w).swapPending = false → (t.win w).swapPending = false)
    (active : ∀ w, (t.win w).active = (s.win w).active) (ce : t.ce = s.ce) (nu : t.nu = s.nu)
    (loadQueue : t.cba.loadQueue = s.cba.loadQueue) : StillItems s t where
  idle := state
  noSwap := noSwap
  active w h := (active w).trans h
  noJobs h := by rw [ce, h]
  noPlaces h := by rw [nu, h]
  noLoads h := by rw [loadQueue, h]
  noNotice h := by rw [nu, h]

theorem stillItems_of_modWin {s : State} {w : Win} {f : Window → Window} (state : ∀ x, x.state = .idle → (f x).state = .idle)
    (noSwap : ∀ x, x.swapPending = false → (f x).swapPending = false) (active : ∀ x, (f x).active = x.active) :
    StillItems s (s.modWin w f) := by
  refine stillItems_of_windows (fun v hv => ?_) (fun v hv => ?_) (item_modWin Window.active active) rfl rfl rfl
  · rw [win_modWin]; split
    next e => exact state _ (e ▸ hv)
    next => exact hv
  · rw [win_modWin]; split
    next e => exact noSwap _ (e ▸ hv)
    next => exact hv

/-- The eleventh law of a part whose windows have their reset values. -/
theorem stillLaw_of_reset {t : State} (windows : ∀ w, t.win w = Window.reset) (jobs : t.ce.jobs = [])
    (places : t.nu.reservations = []) (queue : t.nu.queue = []) (loads : t.cba.loadQueue = []) (load : t.cba.load = none) :
    StillLaw t where
  idle _ w := by rw [windows]; rfl
  noSwap _ w := by rw [windows]; rfl
  noJobs _ := jobs
  noPlaces _ := places
  noLoads _ := loads
  noNotice _ _ := queue
  loading h := absurd load h
  slotA _ w := by rw [windows]; rfl

theorem stillItems_of_same {s t : State} (h : Same s t) : StillItems s t := by
  have items (w : Win) := (lawItems_eq_iff _ _).mp (h.win w)
  refine ⟨fun w k => ?_, fun w k => ?_, fun w k => ?_, fun k => ?_, fun k => ?_, fun k => ?_, fun k => ?_⟩
  · obtain ⟨_, _, _, state, _⟩ := items w; rw [state, k]
  · obtain ⟨_, _, _, _, _, _, swap, _⟩ := items w; rw [swap, k]
  · obtain ⟨_, _, active, _⟩ := items w; rw [active, k]
  · simpa [k] using h.dests
  · rw [h.reservations, k]
  · rw [h.loadQueue, k]
  · rw [h.queue, k]

theorem beginLoad_cc (s : State) : s.beginLoad.cc =
    { s.cc with state := .loading, cycle := 0, groupPos := 0, freezeReq := false, interval := false, watchdog := false } := by
  unfold State.beginLoad
  rw [(touch_keeps ..).2.1]
  exact beginLoad_fold (fun s => s.cc) (by simp) _

theorem loadSucceeds_cc (s : State) (c : ConfigRecord) : (s.loadSucceeds c).cc =
    { s.cc with state := .armed, lowSeen := !s.lines.cyc, freezeReq := false, interval := false, watchdog := false } := by
  simp [State.loadSucceeds]

theorem loadSucceeds_load (s : State) (c : ConfigRecord) : (s.loadSucceeds c).cba.load = none := by
  simp [State.loadSucceeds]

theorem loadFails_cc (s : State) : s.loadFails.cc = { s.cc with state := .stopped } := by simp [State.loadFails]

theorem loadFails_load (s : State) : s.loadFails.cba.load = none := by simp [State.loadFails]

/-- The eleventh law is kept by the acceptance of START (R128). -/
theorem stillLaw_beginLoad {s : State} (h : StillLaw s) (stopped : s.cc.state = .stopped) : StillLaw s.beginLoad := by
  have still : Still s := .inl stopped
  have state : s.beginLoad.cc.state = .loading := by rw [beginLoad_cc]
  refine ⟨fun _ w => ?_, fun _ w => ?_, fun _ => ?_, fun _ => ?_, fun _ => ?_, fun _ _ => ?_, fun _ => .inl state, fun _ w => ?_⟩
  · rw [win_beginLoad]; exact h.idle still w
  · rw [win_beginLoad]; exact h.noSwap still w
  · simpa using h.noJobs still
  · simpa using h.noPlaces still
  · simpa using h.noLoads still
  · simpa using h.noNotice still (by simp [stopped])
  · rw [win_beginLoad]; rfl

/-- The eleventh law holds after the acceptance of STOP (R35). -/
theorem stillLaw_stopped (s : State) : StillLaw (stopped s) where
  idle _ w := by rw [win_stopped]; rfl
  noSwap _ w := by rw [win_stopped]; rfl
  noJobs _ := by simp [stopped]
  noPlaces _ := by simp [stopped]
  noLoads _ := by simp [stopped]
  noNotice _ h := absurd (by simp [stopped] : (stopped s).cc.state = .draining) h
  loading h := absurd (by simp [stopped] : (stopped s).cba.load = none) h
  slotA h := by simp [stopped] at h

/-- The eleventh law is kept where STOPPED is entered from a state without windows in use. -/
theorem stillLaw_enter_stopped {s t : State} (h : StillLaw s) (still : Still s) (queue : t.nu.queue = [])
    (load : t.cba.load = none) (windows : t.windows = s.windows) (ce : t.ce = s.ce)
    (places : t.nu.reservations = s.nu.reservations) (loads : t.cba.loadQueue = s.cba.loadQueue)
    (state : t.cc.state = .stopped) : StillLaw t where
  idle _ w := by rw [win_congr windows]; exact h.idle still w
  noSwap _ w := by rw [win_congr windows]; exact h.noSwap still w
  noJobs _ := by rw [ce]; exact h.noJobs still
  noPlaces _ := by rw [places]; exact h.noPlaces still
  noLoads _ := by rw [loads]; exact h.noLoads still
  noNotice _ _ := queue
  loading k := absurd load k
  slotA k := by simp [state] at k

theorem live_ne {c : CState} (h : c.live = true) :
    c ≠ .stopped ∧ c ≠ .loading ∧ c ≠ .draining ∧ c ≠ .resetting := by
  cases c <;> simp_all [CState.live]

theorem stillLaw_of_move {s t : State} (m : Move s t) (h : StillLaw s) : StillLaw t := by
  cases m with
  | same same =>
    refine stillLaw_of_items h same.state same.phase ?_ fun _ => stillItems_of_same same
    simp [← Option.isSome_iff_ne_none, same.load]
  | window w y place =>
    refine stillLaw_of_items h rfl rfl id fun _ => stillItems_of_windows (fun v hv => ?_) (fun v hv => ?_) ?_ rfl rfl rfl
    · rw [win_setWin]; split
      next e => subst e; exact place.idle.mpr hv
      next => exact hv
    · rw [item_setWin Window.swapPending place.swapPending]; exact hv
    · exact item_setWin Window.active place.active
  | decide w use => exact stillLaw_of_running h (not_still_of_use h use) rfl rfl
  | reserve w use => exact stillLaw_of_running h (not_still_of_use h use) rfl rfl
  | notice n use => exact stillLaw_of_running h (not_still_of_use h use) rfl rfl
  | join j use => exact stillLaw_of_running h (not_still_of_use h use) rfl rfl
  | switched w pending live => exact stillLaw_of_running h (not_still_of_live live) rfl rfl
  | queueLoad w free noSwitch live => exact stillLaw_of_running h (not_still_of_live live) rfl rfl
  | fill w d place =>
    exact stillLaw_of_running h (fun k => by simp [h.noPlaces k] at place) rfl rfl
  | unreserve w =>
    exact stillLaw_of_items h rfl rfl id fun _ => ⟨fun _ k => k, fun _ k => k, fun _ k => k, id, fun k => by simp [State.unreserve, k], id, id⟩
  | settle w => exact stillLaw_of_items h rfl rfl id fun _ => stillItems_of_modWin (fun _ k => k) (fun _ _ => rfl) fun _ => rfl
  | fence | markSwitch | cancel =>
    exact stillLaw_of_items h rfl rfl id fun _ => stillItems_of_modWin (fun _ k => k) (fun _ k => k) fun _ => rfl
  | offer => exact stillLaw_of_items h rfl rfl id fun _ => ⟨fun _ k => k, fun _ k => k, fun _ k => k, id, id, id, id⟩
  | leave n =>
    refine stillLaw_of_items h (by simp) (by simp) (by simp) fun _ => ⟨?_, ?_, ?_, by simp, by simp, by simp, fun k => by simp [k]⟩
    all_goals simp +contextual [-win_noticeLeaves]
  | jobs js sub =>
    refine stillLaw_of_items h rfl rfl id fun _ => ⟨fun _ k => k, fun _ k => k, fun _ k => k, fun k => ?_, id, id, id⟩
    simpa [k] using sub
  | startFetch =>
    refine stillLaw_of_items h (by simp) (by simp) (by simp) fun _ => ⟨?_, ?_, ?_, by simp, by simp, by simp, by simp⟩
    all_goals simp +contextual
  | fillInactive f d =>
    exact stillLaw_of_items h rfl rfl id fun _ =>
      stillItems_of_modWin (by simp [putSlot]) (by simp [putSlot]) (by simp [putSlot])
  | loadSlot w n d =>
    refine stillLaw_of_items h rfl rfl id fun _ => stillItems_of_modWin ?_ ?_ ?_ <;> cases n <;> simp [loadSlotOf]
  | endFetch =>
    exact stillLaw_of_items h rfl rfl id fun _ => ⟨fun _ k => k, fun _ k => k, fun _ k => k, id, id, fun k => by simp [k], id⟩
  | beginLoad stopped => exact stillLaw_beginLoad h stopped
  | setLoad l load =>
    exact stillLaw_of_items h rfl rfl (fun _ => load) fun _ => ⟨fun _ k => k, fun _ k => k, fun _ k => k, id, id, id, id⟩
  | loadSucceeds c loading =>
    have armed : (s.loadSucceeds c).cc.state = .armed := by rw [loadSucceeds_cc]
    exact stillLaw_of_not_still (by simp [Still, armed]) fun k => absurd (loadSucceeds_load s c) k
  | loadFails loading =>
    have still : Still s := .inr (.inl loading)
    exact stillLaw_enter_stopped h still (by simpa using h.noNotice still (by simp [loading])) (loadFails_load s)
      (by simp) (by simp) (by simp) (by simp) (by rw [loadFails_cc])
  | control c old new =>
    obtain ⟨a, b, e, f⟩ := live_ne new
    refine stillLaw_of_not_still (by simp [Still, State.enter, a, b, e, f]) fun k => absurd (load_eq_none_of_live h old) k
  | stop => exact stillLaw_stopped s
  | drained draining empty =>
    refine stillLaw_enter_stopped h (.inr (.inr (.inl draining))) empty ?_ rfl rfl rfl rfl rfl
    by_contra load
    rcases h.loading load with k | ⟨k, _⟩ <;> simp [k] at draining
  | softReset => exact stillLaw_of_not_still (by simp [Still, State.softReset]) fun _ => ⟨rfl, rfl⟩
  | passDone pass =>
    have still (k : Still { s with cc := { s.cc with phase := .passDone } }) : Still s := by
      rcases k with k | k | k | ⟨k, _⟩
      · exact .inl k
      · exact .inr (.inl k)
      · exact .inr (.inr (.inl k))
      · exact .inr (.inr (.inr ⟨k, .inl pass⟩))
    refine ⟨fun k => h.idle (still k), fun k => h.noSwap (still k), fun k => h.noJobs (still k), fun k => h.noPlaces (still k),
      fun k => h.noLoads (still k), fun k => h.noNotice (still k), fun k => .inl ?_, h.slotA⟩
    rcases h.loading k with k | ⟨_, k⟩
    · exact k
    · simp [pass] at k
  | passEnded resetting done =>
    have still : Still s := .inr (.inr (.inr ⟨resetting, .inr done⟩))
    refine stillLaw_enter_stopped h still (h.noNotice still (by simp [resetting])) ?_ rfl rfl rfl rfl rfl
    by_contra load
    rcases h.loading load with k | ⟨_, k⟩
    · simp [resetting] at k
    · simp [done] at k
  | resetValues => exact stillLaw_of_reset (win_afterReset s) rfl rfl rfl rfl rfl
  | pinReset => exact stillLaw_of_reset (win_pinReset s) rfl rfl rfl rfl rfl
  | rstRelease memsz cbsel frz =>
    unfold State.releaseRst
    split
    · exact stillLaw_of_items h rfl rfl id fun _ => ⟨fun _ k => k, fun _ k => k, fun _ k => k, id, id, id, id⟩
    · exact h

end Sys2Proof.Laws
end

section
/-! The fourth and the sixth law are kept by every move. -/

namespace Sys2Proof.Laws

open Sys2Proof Sys2Proof.Machine Sys2Proof.Safety

/-! ## Notices -/

/-- The law is kept where the Notice Unit and FENCE stay, and each reservation's swap stays pending. -/
theorem noticeLaw_of_items {s t : State} (h : NoticeLaw s) (queue : t.nu.queue = s.nu.queue)
    (reservations : t.nu.reservations = s.nu.reservations) (offer : t.nu.offer = s.nu.offer)
    (fence : ∀ w, (t.win w).fence = (s.win w).fence)
    (pending : ∀ w ∈ s.nu.reservations, (s.win w).swapPending = true → (t.win w).swapPending = true) : NoticeLaw t where
  places := by rw [queue, reservations]; exact h.places
  notices := by rw [queue]; exact h.notices
  reserved := by rw [reservations]; exact h.reserved
  pending w k := by rw [reservations] at k; exact pending w k (h.pending w k)
  apart w k := by rw [reservations] at k; rw [State.hasNotice, queue]; exact h.apart w k
  fence w := by rw [fence, h.fence, State.hasNotice, State.hasNotice, queue]
  offer n k := by rw [queue]; exact h.offer n (offer ▸ k)

/-- The law holds of an empty Notice Unit where no FENCE is set. -/
theorem noticeLaw_of_empty {t : State} (queue : t.nu.queue = []) (reservations : t.nu.reservations = [])
    (offer : t.nu.offer = none) (fence : ∀ w, (t.win w).fence = false) : NoticeLaw t where
  places := by simp [queue, reservations]
  notices := by simp [queue]
  reserved := by simp [reservations]
  pending w k := by simp [reservations] at k
  apart w k := by simp [reservations] at k
  fence w := by simp [fence, State.hasNotice, queue]
  offer n k := by simp [offer] at k

/-- A released reservation (R122). -/
theorem noticeLaw_unreserve {s : State} (h : NoticeLaw s) (w : Win) : NoticeLaw (s.unreserve w) where
  places := by
    have := List.length_filter_le (fun v => v != w) s.nu.reservations
    have := h.places
    simp only [State.unreserve]
    omega
  notices := h.notices
  reserved := h.reserved.filter _
  pending v k := h.pending v (List.mem_filter.mp k).1
  apart v k := h.apart v (List.mem_filter.mp k).1
  fence := h.fence
  offer := h.offer

/-- A notice joins the queue of a window without one and without a reservation (R122, R123). -/
theorem noticeLaw_enqueueNotice {s : State} (h : NoticeLaw s) {n : Notice}
    (places : s.nu.queue.length + s.nu.reservations.length < 8) (free : s.hasNotice n.win = false)
    (unreserved : n.win ∉ s.nu.reservations) : NoticeLaw (s.enqueueNotice n) := by
  have queued (v : Win) : (s.enqueueNotice n).hasNotice v = (s.hasNotice v || n.win == v) := by
    simp [State.hasNotice, State.enqueueNotice]
  refine ⟨?_, ?_, h.reserved, fun v k => ?_, fun v k => ?_, fun v => ?_, fun m k => ?_⟩
  · simp only [State.enqueueNotice, modWin_nu, List.length_append, List.length_singleton]
    omega
  · simp only [State.enqueueNotice, modWin_nu, List.map_append, List.nodup_append]
    refine ⟨h.notices, by simp, ?_⟩
    simp only [State.hasNotice, List.any_eq_false, beq_iff_eq] at free
    simpa using free
  · have pending := h.pending v k
    simpa [-win_enqueueNotice] using pending
  · rw [queued, h.apart v k, Bool.false_or]
    simp only [beq_eq_false_iff_ne]
    rintro rfl
    exact unreserved k
  · rw [queued, win_enqueueNotice]
    split
    next hv => simp [hv]
    next hv => rw [h.fence, beq_eq_false_iff_ne.mpr (Ne.symm hv), Bool.or_false]
  · have head := h.offer m k
    simp only [State.enqueueNotice, modWin_nu]
    cases hq : s.nu.queue with
    | nil => simp [hq] at head
    | cons a l => simpa [hq] using head

/-- The head notice leaves (R124, R125). -/
theorem noticeLaw_noticeLeaves {s : State} (h : NoticeLaw s) {n : Notice} (offered : s.nu.offer = some n) :
    NoticeLaw (s.noticeLeaves n) := by
  obtain ⟨rest, queue⟩ : ∃ rest, s.nu.queue = n :: rest := by
    have head := h.offer n offered
    cases hq : s.nu.queue with
    | nil => simp [hq] at head
    | cons a l => simp only [hq, List.head?_cons, Option.some.injEq] at head; exact ⟨l, by rw [head]⟩
  have nodup := h.notices
  rw [queue, List.map_cons, List.nodup_cons] at nodup
  obtain ⟨notIn, nodup⟩ := nodup
  have others (v : Win) : s.hasNotice v = (n.win == v || rest.any fun m => m.win == v) := by
    simp [State.hasNotice, queue]
  have left (v : Win) : (s.noticeLeaves n).hasNotice v = rest.any fun m => m.win == v := by
    simp [State.hasNotice, queue]
  refine ⟨?_, ?_, by simpa using h.reserved, fun v k => ?_, fun v k => ?_, fun v => ?_, fun m k => by simp at k⟩
  · have places := h.places
    simp only [noticeLeaves_nu, queue, List.tail_cons, List.length_cons] at places ⊢
    omega
  · simpa [queue] using nodup
  · simpa [-win_noticeLeaves] using h.pending v (by simpa using k)
  · have apart := h.apart v (by simpa using k)
    rw [others, Bool.or_eq_false_iff] at apart
    rw [left, apart.2]
  · rw [left, win_noticeLeaves]
    split
    next hv =>
      subst hv
      simp only [List.mem_map, not_exists, not_and] at notIn
      symm
      simpa [List.any_eq_false] using notIn
    next hv => rw [h.fence, others, beq_eq_false_iff_ne.mpr (Ne.symm hv), Bool.false_or]

theorem noticeLaw_of_modWin {s : State} (h : NoticeLaw s) {w : Win} {f : Window → Window}
    (fence : ∀ x, (f x).fence = x.fence) (pending : ∀ x, x.swapPending = true → (f x).swapPending = true) :
    NoticeLaw (s.modWin w f) := by
  refine noticeLaw_of_items h rfl rfl rfl (item_modWin Window.fence fence) fun v _ k => ?_
  rw [win_modWin]
  split
  next e => exact pending _ (e ▸ k)
  next => exact k

theorem started_items (x : Window) : x.started.fence = false ∧ x.started.swapPending = false ∧
    x.started.switchPending = false ∧ x.started.active = x.active := by
  unfold Window.started
  simp only
  split
  · simp
  · split <;> simp

theorem noticeLaw_of_move {s t : State} (m : Move s t) (still : StillLaw s) (h : NoticeLaw s) : NoticeLaw t := by
  cases m with
  | same same =>
    have items (w : Win) := (lawItems_eq_iff _ _).mp (same.win w)
    refine noticeLaw_of_items h same.queue same.reservations same.offer (fun w => ?_) fun w _ k => ?_
    · obtain ⟨_, _, _, _, _, _, _, fence, _⟩ := items w; exact fence
    · obtain ⟨_, _, _, _, _, _, swap, _⟩ := items w; rw [swap, k]
  | window w y place =>
    refine noticeLaw_of_items h rfl rfl rfl (item_setWin Window.fence place.fence) fun v _ k => ?_
    rw [item_setWin Window.swapPending place.swapPending, k]
  | decide | switched | markSwitch | cancel => exact noticeLaw_of_modWin h (by simp) (by simp)
  | fillInactive => exact noticeLaw_of_modWin h (by simp [putSlot]) (by simp [putSlot])
  | loadSlot w n d =>
    refine noticeLaw_of_modWin h ?_ ?_ <;> cases n <;> simp [loadSlotOf]
  | reserve w use noSwap free places =>
    have decided : NoticeLaw (s.modWin w fun x => { x with swapPending := true }) := noticeLaw_of_modWin h (by simp) (by simp)
    have unreserved : w ∉ s.nu.reservations := fun k => by simp [h.pending w k] at noSwap
    refine ⟨?_, h.notices, ?_, fun v k => ?_, fun v k => ?_, decided.fence, h.offer⟩
    · simp only [State.reserve, modWin_nu, List.length_append, List.length_singleton]
      unfold State.places at places
      omega
    · simp only [State.reserve, modWin_nu]
      exact List.nodup_append.mpr ⟨h.reserved, by simp, by simpa using fun v hv (e : v = w) => unreserved (e ▸ hv)⟩
    · simp only [State.reserve, modWin_nu, List.mem_append, List.mem_singleton] at k
      rw [win_reserve, win_modWin]
      split
      · rfl
      next hv => exact h.pending v (k.resolve_right hv)
    · simp only [State.reserve, modWin_nu, List.mem_append, List.mem_singleton] at k
      rcases k with k | rfl
      · exact h.apart v k
      · exact free
  | unreserve w => exact noticeLaw_unreserve h w
  | settle w place =>
    refine noticeLaw_of_items h rfl rfl rfl (by simp +contextual [apply_ite]) fun v hv k => ?_
    rw [win_modWin, if_neg fun e : v = w => place (e ▸ hv)]
    exact k
  | fill w d place =>
    have fewer : (s.nu.reservations.filter fun v => v != w).length < s.nu.reservations.length :=
      List.length_filter_lt_length_iff_exists.mpr ⟨w, place, by simp⟩
    refine noticeLaw_enqueueNotice (noticeLaw_unreserve h w) ?_ (h.apart w place) (by simp [State.unreserve, noticeOf])
    have places := h.places
    simp only [State.unreserve]
    omega
  | fence w queued =>
    refine noticeLaw_of_items h rfl rfl rfl (fun v => ?_) fun v _ k => ?_
    · rw [win_modWin]
      split
      next hv => rw [hv, h.fence, queued]
      next => rfl
    · rw [win_modWin]; split
      next hv => exact hv ▸ k
      next => exact k
  | notice n use noSwap free places =>
    exact noticeLaw_enqueueNotice h places free fun k => by simp [h.pending _ k] at noSwap
  | offer n rest timer queue => exact { h with offer := fun m k => by cases k; simp [queue] }
  | leave n offered => exact noticeLaw_noticeLeaves h offered
  | startFetch => exact noticeLaw_of_items h (by simp) (by simp) (by simp) (by simp) (by simp)
  | beginLoad =>
    refine noticeLaw_of_items h (by simp) (by simp) (by simp) (fun w => ?_) fun w _ k => ?_ <;> rw [win_beginLoad]
    · rfl
    · exact k
  | loadSucceeds c loading =>
    have isStill : Still s := .inr (.inl loading)
    have queue := still.noNotice isStill (by simp [loading])
    refine noticeLaw_of_empty (by simpa using queue) (by simpa using still.noPlaces isStill) ?_ fun w => ?_
    · simp only [loadSucceeds_keeps]
      by_contra offered
      obtain ⟨n, offered⟩ := Option.ne_none_iff_exists'.mp offered
      simpa [queue] using h.offer n offered
    · rw [win_loadSucceeds]; exact (started_items _).1
  | loadFails => exact noticeLaw_of_items h (by simp) (by simp) (by simp) (by simp [win_loadFails]) (by simp [win_loadFails])
  | stop =>
    refine ⟨?_, ?_, ?_, ?_, ?_, fun w => ?_, ?_⟩
    · have places := h.places
      simp only [stopped, foldl_modWin_keeps, List.length_nil]
      omega
    · simpa [stopped] using h.notices
    · simp [stopped]
    · simp [stopped]
    · simp [stopped]
    · rw [win_stopped]
      simpa [State.hasNotice, stopped, Window.stopped] using h.fence w
    · simpa [stopped] using h.offer
  | resetValues => exact noticeLaw_of_empty rfl rfl rfl fun w => by rw [win_afterReset]; rfl
  | pinReset => exact noticeLaw_of_empty rfl rfl rfl fun w => by rw [win_pinReset]; rfl
  | rstRelease =>
    unfold State.releaseRst
    split
    · exact noticeLaw_of_items h rfl rfl rfl (fun _ => rfl) fun _ _ k => k
    · exact h
  | _ => exact noticeLaw_of_items h rfl rfl rfl (fun _ => rfl) fun _ _ k => k

/-! ## Loads and switches -/

/-- The law is kept where the Load Queue, the fetch and what it speaks of in the windows stay. -/
theorem loadLaw_of_items {s t : State} (h : LoadLaw s) (queue : t.cba.loadQueue = s.cba.loadQueue)
    (fetch : t.cba.fetch.map (fun f => (f.win, f.slot)) = s.cba.fetch.map (fun f => (f.win, f.slot)))
    (noSwitch : ∀ w ∈ s.cba.loadQueue, (s.win w).switchPending = false → (t.win w).switchPending = false)
    (active : ∀ w ∈ s.cba.loadQueue, (t.win w).active = (s.win w).active) : LoadLaw t := by
  have old (f : Fetch) (hf : t.cba.fetch = some f) : ∃ g, s.cba.fetch = some g ∧ g.win = f.win ∧ g.slot = f.slot := by
    rw [hf, Option.map_some] at fetch
    simpa using fetch.symm
  refine ⟨by rw [queue]; exact h.once, fun w k => ?_, fun f hf => ?_, fun f hf => ?_⟩
  · rw [queue] at k; exact noSwitch w k (h.noSwitch w k)
  · obtain ⟨g, hg, win, _⟩ := old f hf
    rw [queue, h.head g hg, win]
  · obtain ⟨g, hg, win, slot⟩ := old f hf
    have queued : f.win ∈ s.cba.loadQueue := win ▸ List.mem_of_head? (h.head g hg)
    rw [← slot, h.slot g hg, win, active _ queued]

/-- The law holds without loads. -/
theorem loadLaw_of_none {t : State} (queue : t.cba.loadQueue = []) (fetch : t.cba.fetch = none) : LoadLaw t where
  once := by simp [queue]
  noSwitch w k := by simp [queue] at k
  head f k := by simp [fetch] at k
  slot f k := by simp [fetch] at k

/-- Without loads queued none is fetched (R133). -/
theorem fetch_eq_none {s : State} (h : LoadLaw s) (queue : s.cba.loadQueue = []) : s.cba.fetch = none := by
  by_contra some
  obtain ⟨f, hf⟩ := Option.ne_none_iff_exists'.mp some
  simpa [queue] using h.head f hf

theorem loadLaw_of_modWin {s : State} (h : LoadLaw s) {w : Win} {f : Window → Window}
    (noSwitch : ∀ x, x.switchPending = false → (f x).switchPending = false) (active : ∀ x, (f x).active = x.active) :
    LoadLaw (s.modWin w f) := by
  refine loadLaw_of_items h rfl rfl (fun v _ k => ?_) fun v _ => item_modWin Window.active active v
  rw [win_modWin]
  split
  next e => exact noSwitch _ (e ▸ k)
  next => exact k

/-- The law is kept by a change of a window without a load (R136). -/
theorem loadLaw_of_other {s : State} (h : LoadLaw s) {w : Win} (free : w ∉ s.cba.loadQueue) (f : Window → Window) :
    LoadLaw (s.modWin w f) := by
  have other (v : Win) (hv : v ∈ s.cba.loadQueue) : (s.modWin w f).win v = s.win v := by
    rw [win_modWin, if_neg fun e : v = w => free (e ▸ hv)]
  exact loadLaw_of_items h rfl rfl (fun v hv k => by rw [other v hv, k]) fun v hv => by rw [other v hv]

theorem loadLaw_startFetch {s : State} (h : LoadLaw s) : LoadLaw s.startFetch := by
  unfold State.startFetch
  split
  next w rest none queue =>
    have begun : LoadLaw { s with cba := { s.cba with fetch := some { win := w, slot := (s.win w).active.other, words := [] } } } :=
      ⟨h.once, h.noSwitch, fun f hf => by cases hf; simp [queue], fun f hf => by cases hf; rfl⟩
    exact loadLaw_of_modWin begun (f := fun x => x.setSlot x.active.other Option.none) (by simp) (by simp)
  next => exact h

theorem loadLaw_of_move {s t : State} (m : Move s t) (still : StillLaw s) (h : LoadLaw s) : LoadLaw t := by
  cases m with
  | same same =>
    have items (w : Win) := (lawItems_eq_iff _ _).mp (same.win w)
    refine loadLaw_of_items h same.loadQueue same.fetch (fun w _ k => ?_) fun w _ => ?_
    · obtain ⟨_, _, _, _, _, _, _, _, switch, _⟩ := items w; rw [switch, k]
    · obtain ⟨_, _, active, _⟩ := items w; exact active
  | window w y place =>
    exact loadLaw_of_items h rfl rfl (fun v _ k => by rw [item_setWin Window.switchPending place.switchPending, k])
      fun v _ => item_setWin Window.active place.active v
  | decide | settle | fence | cancel => exact loadLaw_of_modWin h (by simp) (by simp)
  | reserve w =>
    have decided : LoadLaw (s.modWin w fun x => { x with swapPending := true }) := loadLaw_of_modWin h (by simp) (by simp)
    exact loadLaw_of_items decided rfl rfl (fun _ _ k => k) fun _ _ => rfl
  | fillInactive => exact loadLaw_of_modWin h (by simp [putSlot]) (by simp [putSlot])
  | loadSlot w n d => refine loadLaw_of_modWin h ?_ ?_ <;> cases n <;> simp [loadSlotOf]
  | switched w pending => exact loadLaw_of_other h (fun k => by simp [h.noSwitch w k] at pending) _
  | markSwitch w free => exact loadLaw_of_other h free _
  | fill | notice =>
    exact loadLaw_of_items h rfl rfl (fun w _ k => by simpa [-win_enqueueNotice] using k) fun w _ => by simp [-win_enqueueNotice]
  | leave =>
    exact loadLaw_of_items h (by simp) (by simp) (fun w _ k => by simpa [-win_noticeLeaves] using k) fun w _ => by
      simp [-win_noticeLeaves]
  | startFetch => exact loadLaw_startFetch h
  | endFetch =>
    exact ⟨h.once.tail, fun w k => h.noSwitch w (List.mem_of_mem_tail k), nofun, nofun⟩
  | queueLoad w free noSwitch live =>
    refine ⟨?_, fun v k => ?_, fun f hf => ?_, h.slot⟩
    · exact List.nodup_append.mpr ⟨h.once, by simp, by simpa using fun v hv (e : v = w) => free (e ▸ hv)⟩
    · simp only [loadEffect_eq, List.mem_append, List.mem_singleton] at k
      rcases k with k | rfl
      · exact h.noSwitch v k
      · exact noSwitch
    · have head := h.head f hf
      cases hq : s.cba.loadQueue with
      | nil => simp [hq] at head
      | cons a l => simpa [hq] using head
  | beginLoad stopped =>
    have queue := still.noLoads (.inl stopped)
    exact loadLaw_of_none (by simpa using queue) (by simpa using fetch_eq_none h queue)
  | loadSucceeds c loading =>
    have queue := still.noLoads (.inr (.inl loading))
    exact loadLaw_of_none (by simpa using queue) (by simpa using fetch_eq_none h queue)
  | loadFails => exact loadLaw_of_items h (by simp) (by simp) (by simp [win_loadFails]) (by simp [win_loadFails])
  | stop => exact loadLaw_of_none (by simp [stopped]) (by simp [stopped])
  | resetValues => exact loadLaw_of_none rfl rfl
  | pinReset => exact loadLaw_of_none rfl rfl
  | rstRelease =>
    unfold State.releaseRst
    split
    · exact loadLaw_of_items h rfl rfl (fun _ _ k => k) fun _ _ => rfl
    · exact h
  | _ => exact loadLaw_of_items h rfl rfl (fun _ _ k => k) fun _ _ => rfl

end Sys2Proof.Laws
end

section
/-! The law of windows and the eighth law are kept by every move. -/

namespace Sys2Proof.Laws

open Sys2Proof Sys2Proof.Machine Sys2Proof.Safety

/-! ## One window -/

theorem windowLaw_of_lawItems {x y : Window} (e : lawItems y = lawItems x) (h : WindowLaw x) : WindowLaw y := by
  have normal (z : Window) : WindowLaw (lawItems z) ↔ WindowLaw z :=
    ⟨fun k => ⟨k.inUse, k.idle, k.input, k.output⟩, fun k => ⟨k.inUse, k.idle, k.input, k.output⟩⟩
  rw [← normal, e, normal]
  exact h

theorem missOk_of_lawItems {x y : Window} (e : lawItems y = lawItems x) (h : MissOk x) : MissOk y := by
  have normal (z : Window) : MissOk (lawItems z) ↔ MissOk z := Iff.rfl
  rw [← normal, e, normal]
  exact h

/-- The law of a window speaks of no pending swap, no FENCE and no pending switch. -/
theorem windowLaw_of_items {x y : Window} (h : WindowLaw x) (slotA : y.slotA = x.slotA) (slotB : y.slotB = x.slotB)
    (active : y.active = x.active) (state : y.state = x.state) (held : y.held = x.held) (safe : y.safe = x.safe)
    (fill : y.fill = x.fill) (miss : y.miss = x.miss) (carry : y.carry = x.carry) : WindowLaw y := by
  have desc : y.desc = x.desc := InPlace.desc slotA slotB active
  refine ⟨?_, ?_, ?_, ?_⟩
  · simp only [state, desc, KindLaw, safe, carry, fill, held]; exact h.inUse
  · rw [state, miss, carry]; exact h.idle
  · rw [desc, safe]; exact h.input
  · rw [desc, held, fill]; exact h.output

theorem missOk_of_items {x y : Window} (h : MissOk x) (slotA : y.slotA = x.slotA) (slotB : y.slotB = x.slotB)
    (active : y.active = x.active) (state : y.state = x.state) (miss : y.miss = x.miss) : MissOk y := by
  have use : y.inUse = x.inUse := inUse_congr slotA slotB active (by rw [state])
  unfold MissOk
  rw [use, state, miss]
  exact h

/-- Filling or emptying the inactive slot is no concern of the active one (R133). -/
theorem desc_setSlot_other (x : Window) (d : Option Descriptor) : (x.setSlot x.active.other d).desc = x.desc := by
  simp [Window.desc]

theorem windowLaw_setSlot_other {x : Window} (h : WindowLaw x) (d : Option Descriptor) :
    WindowLaw (x.setSlot x.active.other d) := by
  refine ⟨fun k => ?_, fun k => ?_, fun e he => ?_, fun e he => ?_⟩
  · obtain ⟨e, he, enabled, kind⟩ := h.inUse (by simpa using k)
    refine ⟨e, by rw [desc_setSlot_other, he], enabled, ?_⟩
    simpa [KindLaw] using kind
  · simpa using h.idle (by simpa using k)
  · simpa using h.input e (by rw [← he, desc_setSlot_other])
  · simpa using h.output e (by rw [← he, desc_setSlot_other])

theorem missOk_setSlot_other {x : Window} (h : MissOk x) (d : Option Descriptor) : MissOk (x.setSlot x.active.other d) := by
  intro e use
  have same : (x.setSlot x.active.other d).inUse = x.inUse := by simp [Window.inUse, desc_setSlot_other]
  simpa using h e (same ▸ use)

/-- A primed window is under the law, whatever it was (R11). -/
theorem windowLaw_primed {x : Window} {d : Descriptor} (desc : x.desc = some d) (enabled : d.enable = true) :
    WindowLaw (x.primed d) := by
  have desc' : (x.primed d).desc = some d := by
    rw [← desc]; exact InPlace.desc (by simp) (by simp) (by simp)
  refine ⟨fun _ => ⟨d, desc', enabled, ?_⟩, fun k => ?_, fun _ _ _ => by simp, fun e he output => ?_⟩
  · cases hk : d.kind <;> simp [KindLaw, Window.primed, hk]
  · cases hk : d.kind <;> simp [Window.primed, hk] at k
  · obtain rfl : d = e := Option.some.inj (desc'.symm.trans he)
    simp [Window.primed, output]

theorem missOk_of_zero {x : Window} (zero : x.miss = 0) : MissOk x :=
  fun _ _ nonzero reached => absurd (zero.symm.trans reached).symm nonzero

/-- A window is IDLE under the law with its items at 0. -/
theorem windowLaw_of_idle {x : Window} (state : x.state = .idle) (miss : x.miss = 0) (carry : x.carry = [])
    (input : ∀ d, x.desc = some d → d.kind = .input → x.safe = false)
    (output : ∀ d, x.desc = some d → d.kind = .output → x.held = false ∧ x.fill = 0) : WindowLaw x :=
  ⟨fun k => absurd state k, fun _ => ⟨miss, carry⟩, input, output⟩

theorem windowLaw_switched (x : Window) : WindowLaw x.switched := by
  have idled : WindowLaw x.flipped.idled :=
    windowLaw_of_idle rfl rfl rfl (fun _ _ _ => rfl) fun _ _ _ => ⟨rfl, rfl⟩
  unfold Window.switched
  split
  · exact idled
  next d desc =>
    split
    next enabled => exact windowLaw_primed desc enabled
    next => exact idled

theorem windowLaw_started {x : Window} (active : x.active = .a) : WindowLaw x.started := by
  unfold Window.started
  simp only
  split
  next none => exact windowLaw_of_idle rfl rfl rfl (fun _ _ _ => rfl) fun _ _ _ => ⟨rfl, rfl⟩
  next d slot =>
    split
    next enabled =>
      refine windowLaw_primed ?_ enabled
      simpa [Window.desc, Window.slot, active] using slot
    next => exact windowLaw_of_idle rfl rfl rfl (fun _ _ _ => rfl) fun _ _ _ => ⟨rfl, rfl⟩

theorem started_miss (x : Window) : x.started.miss = 0 := by
  unfold Window.started
  simp only
  split
  · rfl
  · split <;> simp

/-- The START load fills the slots of IDLE windows whose active slot is A, and clears what the kind of slot A does not
use (R39, R59; log 38). -/
theorem windowLaw_loadSlotOf {x : Window} (h : WindowLaw x) (idle : x.state = .idle) (active : x.active = .a) (n : SlotName)
    (d : Descriptor) : WindowLaw (loadSlotOf n d x) := by
  obtain ⟨miss, carry⟩ := h.idle idle
  cases n with
  | a =>
    refine windowLaw_of_idle idle miss carry (fun e he kind => ?_) fun e he kind => ?_
    all_goals
      obtain rfl : d = e := by simpa [loadSlotOf, Window.desc, Window.slot, active] using he
      simp [loadSlotOf, kind]
  | b =>
    have desc : (loadSlotOf .b d x).desc = x.desc := by simp [loadSlotOf, Window.desc, Window.slot, active]
    exact windowLaw_of_idle idle miss carry (fun e he => h.input e (desc ▸ he)) fun e he => h.output e (desc ▸ he)

theorem windowLaw_reset : WindowLaw Window.reset :=
  windowLaw_of_idle rfl rfl rfl (fun _ _ _ => rfl) fun _ _ _ => ⟨rfl, rfl⟩

theorem inUse_of_idle {x : Window} (idle : x.state = .idle) : x.inUse = none := by simp [Window.inUse, idle]

theorem missOk_of_idle {x : Window} (idle : x.state = .idle) : MissOk x := by
  intro d use
  simp [inUse_of_idle idle] at use

/-! ## All windows -/

theorem each_modWin {P : Window → Prop} {s : State} {w : Win} {f : Window → Window} (h : ∀ v, P (s.win v))
    (changed : P (s.win w) → P (f (s.win w))) (v : Win) : P ((s.modWin w f).win v) := by
  rw [win_modWin]
  split
  · exact changed (h w)
  · exact h v

/-- In LOADING the windows are IDLE and their active slots are A; a START load that is answered stands there (R128). -/
theorem loading_of_load {s : State} (still : StillLaw s) (load : s.cba.load ≠ none) (running : s.cc.state ≠ .resetting) :
    s.cc.state = .loading := (still.loading load).resolve_right fun k => running k.1

theorem windowsLaw_of_move {s t : State} (m : Move s t) (still : StillLaw s) (load : LoadLaw s) (h : WindowsLaw s) :
    WindowsLaw t := by
  cases m with
  | same same => exact fun w => windowLaw_of_lawItems (same.win w) (h w)
  | window w y place => exact each_modWin (f := fun _ => y) h place.law
  | decide | settle | fence | markSwitch | cancel =>
    exact each_modWin h fun k => windowLaw_of_items k rfl rfl rfl rfl rfl rfl rfl rfl rfl
  | reserve =>
    intro v
    rw [win_reserve]
    exact each_modWin h (fun k => windowLaw_of_items k rfl rfl rfl rfl rfl rfl rfl rfl rfl) v
  | fill | notice =>
    intro v
    exact windowLaw_of_items (h v) (by simp [-win_enqueueNotice]) (by simp [-win_enqueueNotice]) (by simp [-win_enqueueNotice])
      (by simp [-win_enqueueNotice]) (by simp [-win_enqueueNotice]) (by simp [-win_enqueueNotice])
      (by simp [-win_enqueueNotice]) (by simp [-win_enqueueNotice]) (by simp [-win_enqueueNotice])
  | leave n =>
    intro v
    exact windowLaw_of_items (h v) (by simp [-win_noticeLeaves]) (by simp [-win_noticeLeaves]) (by simp [-win_noticeLeaves])
      (by simp [-win_noticeLeaves]) (by simp [-win_noticeLeaves]) (by simp [-win_noticeLeaves])
      (by simp [-win_noticeLeaves]) (by simp [-win_noticeLeaves]) (by simp [-win_noticeLeaves])
  | switched => exact each_modWin h fun _ => windowLaw_switched _
  | startFetch =>
    unfold State.startFetch
    split
    · exact each_modWin (f := fun x => x.setSlot x.active.other Option.none) (s := { s with cba := _ }) h
        fun k => windowLaw_setSlot_other k Option.none
    · exact h
  | fillInactive f d fetch =>
    refine each_modWin h fun k => ?_
    rw [putSlot, load.slot f fetch]
    exact windowLaw_setSlot_other k _
  | beginLoad stopped =>
    intro w
    obtain ⟨miss, carry⟩ := (h w).idle (still.idle (.inl stopped) w)
    rw [win_beginLoad]
    exact windowLaw_of_idle (still.idle (.inl stopped) w) miss carry nofun nofun
  | loadSlot w n d some running =>
    have loading := loading_of_load still some running
    exact each_modWin h fun k =>
      windowLaw_loadSlotOf k (still.idle (.inr (.inl loading)) w) (still.slotA loading w) n d
  | loadSucceeds c loading =>
    intro w
    rw [win_loadSucceeds]
    exact windowLaw_started (still.slotA loading w)
  | loadFails => exact fun w => by rw [win_loadFails]; exact h w
  | stop =>
    intro w
    rw [win_stopped]
    exact windowLaw_of_idle rfl rfl rfl (h w).input (h w).output
  | resetValues => exact fun w => by rw [win_afterReset]; exact windowLaw_reset
  | pinReset => exact fun w => by rw [win_pinReset]; exact windowLaw_reset
  | rstRelease =>
    unfold State.releaseRst
    split <;> exact h
  | _ => exact h

theorem missLaw_iff (s : State) : MissLaw s ↔ ∀ w, MissOk (s.win w) := Iff.rfl

theorem missLaw_of_move {s t : State} (m : Move s t) (still : StillLaw s) (load : LoadLaw s) (windows : WindowsLaw s)
    (h : MissLaw s) : MissLaw t := by
  rw [missLaw_iff] at h ⊢
  cases m with
  | same same => exact fun w => missOk_of_lawItems (same.win w) (h w)
  | window w y place => exact each_modWin (f := fun _ => y) h (place.miss (windows w))
  | decide | settle | fence | markSwitch | cancel => exact each_modWin h fun k => missOk_of_items k rfl rfl rfl rfl rfl
  | reserve =>
    intro v
    rw [win_reserve]
    exact each_modWin h (fun k => missOk_of_items k rfl rfl rfl rfl rfl) v
  | fill | notice =>
    intro v
    exact missOk_of_items (h v) (by simp [-win_enqueueNotice]) (by simp [-win_enqueueNotice]) (by simp [-win_enqueueNotice])
      (by simp [-win_enqueueNotice]) (by simp [-win_enqueueNotice])
  | leave n =>
    intro v
    exact missOk_of_items (h v) (by simp [-win_noticeLeaves]) (by simp [-win_noticeLeaves]) (by simp [-win_noticeLeaves])
      (by simp [-win_noticeLeaves]) (by simp [-win_noticeLeaves])
  | switched => exact each_modWin h fun _ => missOk_of_zero (by simp)
  | startFetch =>
    unfold State.startFetch
    split
    · exact each_modWin (f := fun x => x.setSlot x.active.other Option.none) (s := { s with cba := _ }) h
        fun k => missOk_setSlot_other k Option.none
    · exact h
  | fillInactive f d fetch =>
    refine each_modWin h fun k => ?_
    rw [putSlot, load.slot f fetch]
    exact missOk_setSlot_other k _
  | beginLoad stopped =>
    intro w
    rw [win_beginLoad]
    exact missOk_of_idle (still.idle (.inl stopped) w)
  | loadSlot w n d some running =>
    have idle := still.idle (.inr (.inl (loading_of_load still some running))) w
    refine each_modWin h fun k => missOk_of_idle ?_
    cases n <;> exact idle
  | loadSucceeds c loading =>
    intro w
    rw [win_loadSucceeds]
    exact missOk_of_zero (started_miss _)
  | loadFails => exact fun w => by rw [win_loadFails]; exact h w
  | stop => exact fun w => by rw [win_stopped]; exact missOk_of_zero rfl
  | resetValues => exact fun w => by rw [win_afterReset]; exact missOk_of_zero rfl
  | pinReset => exact fun w => by rw [win_pinReset]; exact missOk_of_zero rfl
  | rstRelease =>
    unfold State.releaseRst
    split <;> exact h
  | _ => exact h

/-! ## Steps -/

theorem laws_of_move {s t : State} (m : Move s t) (h : Laws s) : Laws t where
  still := stillLaw_of_move m h.still
  notice := noticeLaw_of_move m h.still h.notice
  load := loadLaw_of_move m h.still h.load
  windows := windowsLaw_of_move m h.still h.load h.windows

theorem laws_of_moves {s t : State} (m : Moves s t) (h : Laws s) : Laws t := by
  induction m with
  | refl => exact h
  | tail _ m ih => exact laws_of_move m ih

theorem missLaw_of_moves {s t : State} (m : Moves s t) (laws : Laws s) (h : MissLaw s) : MissLaw t := by
  induction m with
  | refl => exact h
  | tail before m ih =>
    have laws' := laws_of_moves before laws
    exact missLaw_of_move m laws'.still laws'.load laws'.windows ih

theorem laws_of_step {s t : State} (h : Laws s) (next : step s = .next t) : Laws t := laws_of_moves (moves_step next) h

/-- Settles O8. -/
theorem stepKeepsStillLaw : Obligations.StepKeepsStillLaw := fun _ _ h next => (laws_of_step h next).still

/-- Settles O9. -/
theorem stepKeepsNoticeLaw : Obligations.StepKeepsNoticeLaw := fun _ _ h next => (laws_of_step h next).notice

/-- Settles O10. -/
theorem stepKeepsLoadLaw : Obligations.StepKeepsLoadLaw := fun _ _ h next => (laws_of_step h next).load

/-- Settles O11. -/
theorem stepKeepsWindowsLaw : Obligations.StepKeepsWindowsLaw := fun _ _ h next => (laws_of_step h next).windows

/-- Settles O12. -/
theorem stepKeepsMissLaw : Obligations.StepKeepsMissLaw := fun _ _ laws h next => missLaw_of_moves (moves_step next) laws h

end Sys2Proof.Laws
end

section
/-! The checks of descriptors byte by byte (R5, R6). -/

namespace Sys2Proof.Laws

open Sys2Proof Sys2Proof.Machine Sys2Proof.Safety

/-- Two ranges of bytes share none. -/
def Apart (a : Addr) (l : Nat) (b : Addr) (m : Nat) : Prop :=
  ∀ i j, i < l → j < m → a.toNat + i ≠ b.toNat + j

theorem overlap_eq_false_iff (a : Addr) (l : Nat) (b : Addr) (m : Nat) : overlap a l b m = false ↔ Apart a l b m := by
  simp only [overlap, Bool.and_eq_false_iff, decide_eq_false_iff_not, Apart]
  constructor
  · intro clear i j hi hj
    omega
  · intro apart
    have head := apart 0 (a.toNat - b.toNat)
    have tail := apart (b.toNat - a.toNat) 0
    omega

theorem aligned_iff (a : Addr) : aligned a = true ↔ a.toNat % 4 = 0 := by
  simp [aligned, ← BitVec.toNat_inj, BitVec.extractLsb'_toNat]

theorem pviewLen_eq (d : Descriptor) : d.pviewLen = if d.kind = .output then 16 * d.len else 4 * d.len := by
  unfold Descriptor.pviewLen
  split <;> simp_all

theorem rangeOk_iff (s : State) (a : Addr) (l : Nat) :
    s.rangeOk a l = true ↔ a.toNat + l ≤ s.memSize ∧ Apart a l s.cbBase 4096 := by
  simp [State.rangeOk, overlap_eq_false_iff]

theorem selfOk_iff (s : State) (d : Descriptor) : s.selfOk d = true ↔
    (1 ≤ d.len ∧ d.len ≤ 256 ∧ d.liveLen ≤ d.len ∧ d.liveOff + d.liveLen ≤ d.len) ∧
    (d.pview.toNat % 4 = 0 ∧ d.fview.toNat % 4 = 0 ∧ d.bank0.toNat % 4 = 0 ∧ d.bank1.toNat % 4 = 0) ∧
    (d.pview.toNat + d.pviewLen ≤ s.memSize ∧ d.fview.toNat + d.bankLen ≤ s.memSize ∧
      d.bank0.toNat + d.bankLen ≤ s.memSize ∧ d.bank1.toNat + d.bankLen ≤ s.memSize) ∧
    (Apart d.pview d.pviewLen s.cbBase 4096 ∧ Apart d.fview d.bankLen s.cbBase 4096 ∧
      Apart d.bank0 d.bankLen s.cbBase 4096 ∧ Apart d.bank1 d.bankLen s.cbBase 4096) ∧
    Apart d.bank0 d.bankLen d.bank1 d.bankLen ∧
    (Apart d.bank0 d.bankLen d.pview d.pviewLen ∧ Apart d.bank0 d.bankLen d.fview d.bankLen ∧
      Apart d.bank1 d.bankLen d.pview d.pviewLen ∧ Apart d.bank1 d.bankLen d.fview d.bankLen) := by
  simp only [State.selfOk, Bool.and_eq_true, decide_eq_true_eq, Bool.not_eq_true', aligned_iff, rangeOk_iff,
    overlap_eq_false_iff]
  exact iff_of_eq (by ac_rfl)

theorem bankClear_iff (b : Addr) (l : Nat) (e : Descriptor) : bankClear b l e = true ↔
    Apart b l e.pview e.pviewLen ∧ Apart b l e.fview e.bankLen ∧ Apart b l e.bank0 e.bankLen ∧
      Apart b l e.bank1 e.bankLen := by
  simp only [bankClear, Bool.and_eq_true, Bool.not_eq_true', overlap_eq_false_iff, and_assoc]

theorem Apart.symm {a b : Addr} {l m : Nat} (h : Apart a l b m) : Apart b m a l :=
  fun i j hi hj => (h j i hj hi).symm

theorem apart_comm (a : Addr) (l : Nat) (b : Addr) (m : Nat) : Apart a l b m ↔ Apart b m a l :=
  ⟨Apart.symm, Apart.symm⟩

theorem crossOk_iff (d e : Descriptor) : crossOk d e = true ↔
    Apart d.pview d.pviewLen e.pview e.pviewLen ∧ Apart d.fview d.bankLen e.fview e.bankLen ∧
    (∀ b ∈ [d.bank0, d.bank1], Apart b d.bankLen e.pview e.pviewLen ∧ Apart b d.bankLen e.fview e.bankLen ∧
      Apart b d.bankLen e.bank0 e.bankLen ∧ Apart b d.bankLen e.bank1 e.bankLen) ∧
    ∀ b ∈ [e.bank0, e.bank1], Apart d.pview d.pviewLen b e.bankLen ∧ Apart d.fview d.bankLen b e.bankLen := by
  simp only [crossOk, Bool.and_eq_true, Bool.not_eq_true', overlap_eq_false_iff, bankClear_iff, List.forall_mem_cons,
    List.not_mem_nil, false_implies, implies_true, and_true, apart_comm e.bank0, apart_comm e.bank1]
  tauto

/-- Settles O7: every move keeps the law of slots, and a step is a sequence of moves; the checks are the byte by byte
conditions of their ranges. -/
theorem stepKeepsSlotLaw : Obligations.StepKeepsSlotLaw := by
  refine ⟨fun s t law next => slotLaw_of_moves (moves_step next) law, fun s d => ?_, fun d e => ?_, validate_iff⟩
  · simpa only [pviewLen_eq, Descriptor.bankLen, Apart] using selfOk_iff s d
  · simpa only [pviewLen_eq, Descriptor.bankLen, Apart] using crossOk_iff d e

end Sys2Proof.Laws
end

section
/-! Stores: memory changes only where a command completes a granted write, or a pin reset cuts one short. -/

namespace Sys2Proof.Laws

open Sys2Proof Sys2Proof.Machine Sys2Proof.Safety

/-- Memory of `t` is that of `s`, or that of `s` after an answered write of the word that the command stores to. -/
def Stored (c : Instr) (s t : State) : Prop :=
  t.mem = s.mem ∨ ∃ a r be d, storeOf c s = some a ∧ t.mem = (State.memAnswered r s a be d).mem

theorem memWrite_mem (s : State) (a : Addr) (be : Lanes) (d : Word) :
    (s.memWrite a be d).mem = if a.toNat < s.memSize then s.mem.writeWord a.toNat be d else s.mem := by
  unfold State.memWrite
  split <;> rfl

/-- The memory that an answered write leaves depends on the memory before it, the straps and the free values used. -/
theorem mem_memAnswered_congr {s t : State} (mem : t.mem = s.mem) (lines : t.lines = s.lines) (free : t.free = s.free)
    (r : Resp) (a : Addr) (be : Lanes) (d : Word) : (State.memAnswered r t a be d).mem = (State.memAnswered r s a be d).mem := by
  have size : t.memSize = s.memSize := by simp only [State.memSize, lines]
  cases r <;> simp only [State.memAnswered, memFail_mem, memWrite_mem, size, mem, free]

theorem completeP_mem (s : State) (r : Resp) (t : Single) :
    (s.completeP r t).mem = if t.dir = .write then (State.memAnswered r s t.addr t.be t.data).mem else s.mem := by
  unfold State.completeP
  cases t.dir <;> cases r <;> simp

theorem completeF_mem (s : State) (r : Resp) (t : Single) :
    (s.completeF r t).mem = if t.dir = .write then (State.memAnswered r s t.addr t.be t.data).mem else s.mem := by
  unfold State.completeF
  cases t.dir <;> cases r <;> simp [State.memAnswered]

/-- Memory after the completion of a single transaction, where a write of it is what the command stores. -/
theorem stored_of_single {c : Instr} {s t u : State} {g : Single} {r : Resp} (write : g.dir = .write → storeOf c s = some g.addr)
    (mem : u.mem = s.mem) (lines : u.lines = s.lines) (free : u.free = s.free)
    (h : t.mem = if g.dir = .write then (State.memAnswered r u g.addr g.be g.data).mem else u.mem) : Stored c s t := by
  rw [mem_memAnswered_congr mem lines free, mem] at h
  split at h
  next dir => exact .inr ⟨g.addr, r, g.be, g.data, write dir, h⟩
  · exact .inl h

theorem pAccessComplete_stored (s : State) (r : Resp) : Stored (.pAccessComplete r) s (s.pAccessComplete r) := by
  unfold State.pAccessComplete
  split
  next t grant =>
    split
    next plain =>
      refine stored_of_single (u := s.setGrant .free) (g := t) (r := r) (fun write => ?_) rfl rfl rfl ?_
      · simp [storeOf, grant, plain.1, write]
      · simp only [latchAnswer_keeps, endP_keeps, completeP_mem]
    · exact .inl rfl
  · exact .inl rfl

theorem fAccessComplete_stored (s : State) (r : Resp) : Stored (.fAccessComplete r) s (s.fAccessComplete r) := by
  unfold State.fAccessComplete
  split
  next t grant =>
    split
    next field =>
      refine stored_of_single (u := s.setGrant .free) (g := t) (r := r) (fun write => ?_) rfl rfl rfl ?_
      · simp [storeOf, grant, field, write]
      · simp only [latchAnswer_keeps, endF_keeps, completeF_mem]
    · exact .inl rfl
  · exact .inl rfl

theorem finishPair_mem (s : State) (r : Resp) (q : ErrSource) (t : Pair) (d : Word) :
    (s.finishPair r q t d).mem = (State.memAnswered r s t.dst t.work.writeLanes d).mem := by
  simp [State.finishPair]

theorem mergePairComplete_stored (s : State) (r : Resp) : Stored (.mergePairComplete r) s (s.mergePairComplete r) := by
  unfold State.mergePairComplete
  split
  · split
    · exact .inl (by simp)
    · exact .inl rfl
  next t x grant =>
    split
    next merge => exact .inr ⟨t.dst, r, _, x, by simp [storeOf, grant, merge], by simp [finishPair_mem]; rfl⟩
    · exact .inl rfl
  · exact .inl rfl

theorem demandCopyComplete_stored (s : State) (r : Resp) : Stored (.demandCopyComplete r) s (s.demandCopyComplete r) := by
  unfold State.demandCopyComplete
  split
  · split
    · exact .inl (by simp)
    · exact .inl rfl
  next t x grant =>
    split
    next demand => exact .inr ⟨t.dst, r, _, x, by simp [storeOf, grant, demand], by simp [finishPair_mem]; rfl⟩
    · exact .inl rfl
  · exact .inl rfl

theorem carryPairComplete_stored (s : State) (r : Resp) : Stored (.carryPairComplete r) s (s.carryPairComplete r) := by
  unfold State.carryPairComplete
  split
  · split
    · exact .inl (by simp)
    · exact .inl rfl
  next t x grant =>
    split
    next carry => exact .inr ⟨t.dst, r, _, x, by simp [storeOf, grant, carry], by simp [finishPair_mem]; rfl⟩
    · exact .inl rfl
  · exact .inl rfl

theorem loopPairComplete_stored (s : State) (r : Resp) : Stored (.loopPairComplete r) s (s.loopPairComplete r) := by
  unfold State.loopPairComplete
  split
  · split
    · exact .inl (by simp)
    · exact .inl rfl
  next t x grant =>
    split
    next loop => exact .inr ⟨t.dst, r, _, x, by simp [storeOf, grant, loop], by simp [finishPair_mem]; rfl⟩
    · exact .inl rfl
  next t grant =>
    split
    next fill => exact .inr ⟨t.addr, r, t.be, t.data, by simp [storeOf, grant, fill], by simp⟩
    · exact .inl rfl
  · exact .inl rfl

theorem writebackWordComplete_stored (s : State) (r : Resp) :
    Stored (.writebackWordComplete r) s (s.writebackWordComplete r) := by
  unfold State.writebackWordComplete
  split
  next t grant =>
    split
    next word => exact .inr ⟨t.addr, r, t.be, t.data, by simp [storeOf, grant, word], by simp⟩
    · exact .inl rfl
  · exact .inl rfl

theorem pinReset_stored (s : State) : Stored .pinReset s s.pinReset := by
  have cut : s.pinReset.mem = s.cutShort.mem := rfl
  unfold Stored
  rw [cut]
  unfold State.cutShort
  split
  · exact .inl rfl
  · exact .inl rfl
  next t grant =>
    split
    · exact .inl rfl
    next write => exact .inr ⟨t.addr, .err, t.be, 0, by simp [storeOf, grant, write], rfl⟩
  next t _ grant => exact .inr ⟨t.dst, .err, t.work.writeLanes, 0, by simp [storeOf, grant], rfl⟩

/-- What the effect of a command does to memory. -/
theorem effect_stored (c : Instr) (s : State) : Stored c s (effect c s) := by
  cases c with
  | pAccessComplete r => exact pAccessComplete_stored s r
  | fAccessComplete r => exact fAccessComplete_stored s r
  | mergePairComplete r => exact mergePairComplete_stored s r
  | demandCopyComplete r => exact demandCopyComplete_stored s r
  | carryPairComplete r => exact carryPairComplete_stored s r
  | loopPairComplete r => exact loopPairComplete_stored s r
  | writebackWordComplete r => exact writebackWordComplete_stored s r
  | pinReset => exact pinReset_stored s
  | resetValues => exact .inl (by simp [effect])
  | rstRelease m k f => exact .inl (by simp only [effect, State.releaseRst]; split <;> rfl)
  | _ => exact .inl (by simp [effect])

theorem storeOf_levelled (c : Instr) (s : State) : storeOf c (levelled c s) = storeOf c s := by
  cases c <;> rfl

theorem levelled_mem (c : Instr) (s : State) : (levelled c s).mem = s.mem := by
  cases c <;> rfl

theorem memAnswered_levelled (c : Instr) (s : State) (r : Resp) (a : Addr) (be : Lanes) (d : Word) :
    (State.memAnswered r (levelled c s) a be d).mem = (State.memAnswered r s a be d).mem := by
  have size : (levelled c s).memSize = s.memSize := by cases c <;> rfl
  have free : (levelled c s).free = s.free := by cases c <;> rfl
  cases r <;> simp only [State.memAnswered, memFail_mem, memWrite_mem, size, levelled_mem, free]

theorem underRst_mem (c : Instr) (s : State) : (underRst c s).mem = s.mem := by
  cases c <;> rfl

theorem stored_of_answers {c : Instr} {s t : State} (h : Answers c s t) : Stored c s t := by
  cases h with
  | held => exact .inl (underRst_mem c s)
  | event =>
    have stored := effect_stored c (levelled c s)
    simpa only [Stored, storeOf_levelled, levelled_mem, memAnswered_levelled, finish_keeps] using stored
  | direct => exact effect_stored c s

/-- Settles O3: memory changes at the word stored to, where a command stores at all. -/
theorem memoryChangesOnlyAtTheGrantedWrite : Obligations.MemoryChangesOnlyAtTheGrantedWrite := by
  intro c s t law next a outside
  rcases stored_of_answers (answers_of_exec next) with same | ⟨b, r, be, d, store, mem⟩
  · rw [same]
  · rw [mem]
    exact readByte_memAnswered_outside r law b be d (by have := outside b store; omega)

theorem memoryLaw_of_stored {c : Instr} {s t : State} (h : Stored c s t) (law : MemoryLaw s) : MemoryLaw t := by
  unfold MemoryLaw
  rcases h with same | ⟨a, r, be, d, -, mem⟩
  · rw [same]
    exact law
  · rw [mem]
    exact wf_memAnswered r law a be d

/-- Settles O5: an answered write keeps the canonical form, and memory changes by no other. -/
theorem stepKeepsMemoryLaw : Obligations.StepKeepsMemoryLaw := by
  intro s t law next
  rcases step_answers next with rfl | ⟨c, rest, answers⟩
  · exact law
  · exact memoryLaw_of_stored (stored_of_answers answers) law

/-! ## Words and bytes -/

theorem readWord_lane (m : Memory) (a : Nat) {i : Nat} (hi : i < 4) :
    (m.readWord a).extractLsb' (8 * i) 8 = m.readByte (a + i) := by
  have cases : i = 0 ∨ i = 1 ∨ i = 2 ∨ i = 3 := by omega
  unfold Memory.readWord
  rcases cases with rfl | rfl | rfl | rfl <;>
    (apply BitVec.eq_of_getLsbD_eq; intro j hj; simp; grind)

theorem wfFrom_iff (lo : Nat) (m : Memory) : Memory.wfFrom lo m = true ↔
    (∀ c ∈ m, lo ≤ c.1) ∧ (m.map Prod.fst).Pairwise (· < ·) ∧ ∀ c ∈ m, c.2 ≠ 0 := by
  induction m generalizing lo with
  | nil => simp [Memory.wfFrom]
  | cons c m ih =>
    simp only [Memory.wfFrom, Bool.and_eq_true, decide_eq_true_eq, bne_iff_ne, ih, List.forall_mem_cons, List.map_cons,
      List.pairwise_cons, List.forall_mem_map]
    constructor
    · rintro ⟨⟨first, entry⟩, above, rising, entries⟩
      exact ⟨⟨first, fun d hd => by have := above d hd; omega⟩, ⟨fun d hd => above d hd, rising⟩, entry, entries⟩
    · rintro ⟨⟨first, -⟩, ⟨above, rising⟩, entry, entries⟩
      exact ⟨⟨first, entry⟩, fun d hd => above d hd, rising, entries⟩

theorem readByte_of_mem {lo : Nat} {m : Memory} (h : Memory.wfFrom lo m = true) {a : Nat} {v : Byte} (mem : (a, v) ∈ m) :
    m.readByte a = v := by
  induction m generalizing lo with
  | nil => simp at mem
  | cons c m ih =>
    have rest : Memory.wfFrom (c.1 + 1) m = true := by
      simp only [Memory.wfFrom, Bool.and_eq_true] at h
      exact h.2
    rcases List.mem_cons.1 mem with rfl | later
    · simp [Memory.readByte]
    · have above := ((wfFrom_iff _ _).1 rest).1 _ later
      have other : a ≠ c.1 := by simp at above; omega
      simpa [Memory.readByte, other] using ih rest later

theorem readByte_of_not_mem {m : Memory} {a : Nat} (h : ∀ v, (a, v) ∉ m) : m.readByte a = 0 := by
  induction m with
  | nil => rfl
  | cons c m ih =>
    have other : a ≠ c.1 := fun same => h c.2 (by simp [same])
    simpa [Memory.readByte, other] using ih fun v mem => h v (by simp [mem])

theorem memAnswered_lane_off {s : State} (law : MemoryLaw s) (r : Resp) (a : Addr) (be : Lanes) (d : Word) {i : Nat}
    (hi : i < 4) (off : be.getLsbD i = false) :
    (State.memAnswered r s a be d).mem.readByte (a.toNat + i) = s.mem.readByte (a.toNat + i) := by
  cases r <;> simp only [State.memAnswered, memFail_mem, memWrite_mem] <;> split <;>
    simp [readByte_writeWord_lane law a.toNat be _ hi, off]

theorem memAnswered_lane_on {s : State} (law : MemoryLaw s) {a : Addr} (size : a.toNat < s.memSize) {be : Lanes} (d : Word)
    {i : Nat} (hi : i < 4) (on : be.getLsbD i = true) :
    (State.memAnswered .ok s a be d).mem.readByte (a.toNat + i) = d.extractLsb' (8 * i) 8 := by
  simp only [State.memAnswered, memWrite_mem, size, if_true]
  rw [readByte_writeWord_lane law a.toNat be _ hi, on]
  rfl

/-- Settles O4, from what a word and a byte read give after a write. -/
theorem writesReachEnabledLanes : Obligations.WritesReachEnabledLanes := by
  refine ⟨fun m a i hi => readWord_lane m a hi, fun m => ?_, fun m a wf => ⟨fun v mem => readByte_of_mem wf mem,
    fun absent => readByte_of_not_mem absent⟩, fun s a be d i law size hi => ⟨memAnswered_lane_on law size d hi,
    fun off r => memAnswered_lane_off law r a be d hi off⟩⟩
  have iff := wfFrom_iff 0 m
  simpa [Memory.wf] using iff

end Sys2Proof.Laws
end

section
/-! What commands do in general, the flags, and the resets. -/

namespace Sys2Proof.Laws

open Sys2Proof Sys2Proof.Machine Sys2Proof.Safety

/-- Settles O1, by the definition of a step. -/
theorem stepRunsTheFrontCommand : Obligations.StepRunsTheFrontCommand :=
  ⟨fun _ _ _ front => step_front front, fun s empty => by rw [step, empty]⟩

theorem underRst_eq (c : Instr) (s : State) : underRst c s =
    { s with lines := { s.lines with cyc := (underRst c s).lines.cyc, accept := (underRst c s).lines.accept }
             cc := { s.cc with frz := (underRst c s).cc.frz } } := by
  cases c <;> rfl

theorem effect_pending (c : Instr) (s : State) : (effect c s).pending = s.pending := by
  cases c with
  | pinReset => rfl
  | rstRelease m k f => simp only [effect, State.releaseRst]; split <;> rfl
  | _ => simp [effect]

theorem answers_pending {c : Instr} {s t : State} (h : Answers c s t) : t.pending = s.pending := by
  cases h with
  | held => rw [underRst_eq]
  | event =>
    simp only [finish_keeps, effect_pending]
    cases c <;> rfl
  | direct => exact effect_pending c s

/-- Settles O2, from the three ways in which a command answers. -/
theorem everyCommandAnswersNext : Obligations.EveryCommandAnswersNext := by
  refine ⟨fun c s => ?_, fun c s t rst notReset notRelease next => ?_⟩
  · obtain ⟨t, next, answers⟩ := exec_answers c s
    exact ⟨t, next, answers_pending answers⟩
  · cases answers_of_exec next with
    | held => exact underRst_eq c s
    | event released => simp [rst] at released
    | direct joins released =>
      cases c with
      | pinReset => exact absurd rfl notReset
      | rstRelease m k f => exact absurd rfl (notRelease m k f)
      | resetValues => simp [rst] at released
      | writebackRecord => simp [rst] at released
      | _ => simp [joinsRecords] at joins

theorem laws_reset : Laws State.reset where
  still := {
    idle := fun _ w => by rw [win_reset]; rfl
    noSwap := fun _ w => by rw [win_reset]; rfl
    noJobs := fun _ => rfl
    noPlaces := fun _ => rfl
    noLoads := fun _ => rfl
    noNotice := fun _ _ => rfl
    loading := fun load => absurd rfl load
    slotA := fun loading => absurd loading (by decide) }
  notice := noticeLaw_of_empty rfl rfl rfl fun w => by rw [win_reset]; rfl
  load := loadLaw_of_none rfl rfl
  windows := fun w => by rw [win_reset]; exact windowLaw_reset

theorem missLaw_reset : MissLaw State.reset := fun w d use => by
  rw [win_reset, inUse_of_idle rfl] at use
  exact nomatch use

/-- Settles O13: at reset memory and the queues are empty, and every window is IDLE. -/
theorem resetObeysTheLaws : Obligations.ResetObeysTheLaws :=
  ⟨rfl, Nat.zero_le 4, List.nodup_nil, List.nodup_nil, slotLaw_of_none fun w n => by rw [win_reset, slot_reset],
    { clears := nofun, granted := nofun, fenced := nofun }, laws_reset, missLaw_reset⟩

/-! ## Flags, drops and the latch -/

theorem touch_eq (s : State) (r : RecName) :
    s.touch r = { s with cba := { s.cba with dirty := (s.touch r).cba.dirty } } := by
  unfold State.touch
  split <;> rfl

theorem record_eq (s : State) (c : Cause) : s.record c =
    { s with cba := { s.cba with causes := s.cba.causes ||| c.mask, dirty := (s.record c).cba.dirty } } := by
  unfold State.record
  rw [touch_eq]

theorem event_eq (s : State) (w : Win) (e : WEvent) : s.event w e =
    { s.setWin w { s.win w with events := (s.win w).events ||| e.mask } with
      cba := { s.cba with
        causes := match e.cause with
          | some c => s.cba.causes ||| c.mask
          | none => s.cba.causes
        dirty := (s.event w e).cba.dirty } } := by
  unfold State.event State.recordCauseOf
  cases e.cause with
  | none => simp only []; rw [touch_eq]; rfl
  | some c => simp only []; rw [record_eq, touch_eq]; rfl

theorem drop_eq (s : State) (w : Win) : s.drop w =
    { s.setWin w { s.win w with drops := if (s.win w).drops = 255 then 255 else (s.win w).drops + 1 } with
      cba := { s.cba with dirty := (s.drop w).cba.dirty } } := by
  rw [← satInc8_eq]
  unfold State.drop
  rw [touch_eq]
  rfl

theorem latchError_eq (s : State) (q : ErrSource) (r : Dir) (a : Addr) : s.latchError q r a =
    { s with
      mp := { s.mp with latch :=
        if s.mp.latch.valid then { s.mp.latch with multiple := true }
        else { valid := true, addr := a, source := some q, dir := r, multiple := false } }
      cba := { s.cba with causes := s.cba.causes ||| Cause.mask .memerr, dirty := (s.latchError q r a).cba.dirty } } := by
  unfold State.latchError
  rw [record_eq]

theorem mem_dirty_drop (s : State) (w : Win) (r : RecName) :
    r ∈ (s.drop w).cba.dirty ↔ r ∈ s.cba.dirty ∨ r = .win w := by
  simp [State.drop]

theorem mem_dirty_latchError (s : State) (q : ErrSource) (d : Dir) (a : Addr) (r : RecName) :
    r ∈ (s.latchError q d a).cba.dirty ↔ r ∈ s.cba.dirty ∨ r = .global := by
  simp [State.latchError, mem_dirty_record]

theorem irq_iff (s : State) : s.irq = true ↔
    ∃ i, s.cba.causes.getLsbD i = true ∧ s.cba.config.irqMask.getLsbD i = true := by
  rw [State.irq, bne_iff_ne, ← not_iff_not, not_not, BitVec.eq_of_getLsbD_eq_iff]
  simp only [BitVec.getLsbD_and, not_exists, not_and, Bool.not_eq_true]
  refine forall_congr' fun i => ?_
  by_cases hi : i < 15
  · cases s.cba.causes.getLsbD i <;> simp [hi]
  · simp [hi, BitVec.getLsbD_of_ge s.cba.causes i (by omega)]

/-- Settles O14, from what each operation leaves. -/
theorem flagsDropsAndTheLatch : Obligations.FlagsDropsAndTheLatch := by
  refine ⟨by decide, by decide, by decide, fun s q r a => ⟨rfl, rfl⟩, fun s c => ?_, fun s w e => ?_, fun s w => ?_,
    fun s q r a => ?_, fun s => ⟨irq_iff s, rfl⟩⟩
  · exact ⟨_, (mem_dirty_record s c _).2 (.inr rfl), fun r h => (mem_dirty_record s c r).2 (.inl h), record_eq s c⟩
  · exact ⟨_, (mem_dirty_event s w e _).2 (.inr (.inl rfl)), fun h => (mem_dirty_event s w e _).2 (.inr (.inr ⟨h, rfl⟩)),
      fun r h => (mem_dirty_event s w e r).2 (.inl h), event_eq s w e⟩
  · exact ⟨_, (mem_dirty_drop s w _).2 (.inr rfl), fun r h => (mem_dirty_drop s w r).2 (.inl h), drop_eq s w⟩
  · exact ⟨_, (mem_dirty_latchError s q r a _).2 (.inr rfl), fun x h => (mem_dirty_latchError s q r a x).2 (.inl h),
      latchError_eq s q r a⟩

end Sys2Proof.Laws
end

section
/-! Which records operations make dirty (R155): none leaves the dirty set before the end of the event, and those that
join it are the records of what the operation acts on. -/

namespace Sys2Proof.Laws

open Sys2Proof Sys2Proof.Machine Sys2Proof.Safety

/-- No record leaves the dirty set, and those that join it satisfy `p`. -/
structure Dirties (p : RecName → Prop) (s t : State) : Prop where
  kept : ∀ r ∈ s.cba.dirty, r ∈ t.cba.dirty
  new  : ∀ r ∈ t.cba.dirty, r ∈ s.cba.dirty ∨ p r

variable {p q : RecName → Prop} {s t u : State}

theorem Dirties.mono (h : Dirties p s t) (weaker : ∀ r, p r → q r) : Dirties q s t :=
  ⟨h.kept, fun r hr => (h.new r hr).imp_right (weaker r)⟩

theorem Dirties.trans (h : Dirties p s t) (k : Dirties p t u) : Dirties p s u :=
  ⟨fun r hr => k.kept r (h.kept r hr), fun r hr => (k.new r hr).elim (h.new r) .inr⟩

theorem dirties_of_eq (h : t.cba.dirty = s.cba.dirty) : Dirties p s t :=
  ⟨fun _ hr => h ▸ hr, fun _ hr => .inl (h ▸ hr)⟩

/-- An operation that starts by changing no dirty record. -/
theorem Dirties.after (k : Dirties p t u) (h : t.cba.dirty = s.cba.dirty) : Dirties p s u :=
  (dirties_of_eq h).trans k

/-- An operation that ends by changing no dirty record. -/
theorem Dirties.before (k : Dirties p s t) (h : u.cba.dirty = t.cba.dirty) : Dirties p s u :=
  k.trans (dirties_of_eq h)

theorem dirties_refl (s : State) : Dirties p s s := dirties_of_eq rfl

theorem dirties_foldl {f : State → Win → State} (h : ∀ t w, Dirties p t (f t w)) (l : List Win) (s : State) :
    Dirties p s (l.foldl f s) := by
  induction l generalizing s with
  | nil => exact dirties_refl s
  | cons w l ih => exact (h s w).trans (ih (f s w))

/-! ## Flags, drops and jobs -/

theorem dirties_touch (s : State) {r : RecName} (h : p r) : Dirties p s (s.touch r) :=
  ⟨fun x hx => (mem_dirty_touch s r x).2 (.inl hx),
    fun x hx => ((mem_dirty_touch s r x).1 hx).imp_right (by rintro rfl; exact h)⟩

theorem dirties_modTouch (s : State) {w : Win} (f : Window → Window) (h : p (.win w)) :
    Dirties p s ((s.modWin w f).touch (.win w)) := (dirties_touch (s.modWin w f) h).after rfl

theorem dirties_record (s : State) (c : Cause) (h : p .global) : Dirties p s (s.record c) :=
  (dirties_touch _ h).after rfl

theorem dirties_event (s : State) {w : Win} {e : WEvent} (h : p (.win w)) (hg : e.cause.isSome → p .global) :
    Dirties p s (s.event w e) := by
  refine ⟨fun r hr => (mem_dirty_event s w e r).2 (.inl hr), fun r hr => ((mem_dirty_event s w e r).1 hr).imp_right ?_⟩
  rintro (rfl | ⟨caused, rfl⟩)
  · exact h
  · exact hg caused

theorem dirties_latchError (s : State) (q : ErrSource) (d : Dir) (a : Addr) (h : p .global) :
    Dirties p s (s.latchError q d a) := (dirties_record _ _ h).after rfl

theorem dirties_latchAnswer (r : Resp) (s : State) (q : ErrSource) (d : Dir) (a : Addr) (h : r = .err → p .global) :
    Dirties p s (State.latchAnswer r s q d a) := by
  cases r with
  | ok => exact dirties_refl s
  | err => exact dirties_latchError s q d a (h rfl)

theorem dirties_drop (s : State) {w : Win} (h : p (.win w)) : Dirties p s (s.drop w) :=
  (dirties_touch _ h).after rfl

theorem dirties_dropEvent (s : State) {w : Win} {e : WEvent} (h : p (.win w)) (hg : e.cause.isSome → p .global) :
    Dirties p s (s.dropEvent w e) := (dirties_drop s h).trans (dirties_event _ h hg)

theorem dirties_clearPublished (s : State) {r : RecName} (h : r ≠ .result → p r) : Dirties p s (s.clearPublished r) := by
  cases r with
  | global => exact (dirties_touch _ (h nofun)).after rfl
  | result => exact dirties_refl s
  | win w => exact (dirties_touch _ (h nofun)).after rfl

theorem dirties_endJob (s : State) {w : Win} (h : p (.win w)) : Dirties p s (s.endJob w) := by
  unfold State.endJob
  split
  · exact (dirties_touch _ h).after (by simp)
  · exact dirties_refl s

theorem dirties_enqueueJob (s : State) (j : Job) : Dirties p s (s.enqueueJob j) := dirties_of_eq (by simp)

theorem dirties_enqueueLoop (s : State) {w : Win} (h : p (.win w)) : Dirties p s (s.enqueueLoop w) := by
  unfold State.enqueueLoop
  split
  · exact dirties_refl s
  · split
    · split
      · exact (dirties_enqueueJob s _).trans (dirties_touch _ h)
      · exact dirties_event s h nofun
    · exact dirties_refl s

theorem dirties_noticeLeaves (s : State) {n : Notice} (h : p (.win n.win)) : Dirties p s (s.noticeLeaves n) :=
  (dirties_touch _ h).after rfl

/-! ## Swaps and priming -/

theorem dirties_performSwap (s : State) {w : Win} (h : p (.win w)) : Dirties p s (s.performSwap w) := by
  unfold State.performSwap
  split
  · exact dirties_refl s
  next d _ =>
    have touched : Dirties p s (((s.fillPlace w d).modWin w fun x => x.swapped d s.cc.cycle).touch (.win w)) :=
      (dirties_touch _ h).after (by simp)
    dsimp only
    split
    · exact touched
    · exact touched.trans (dirties_enqueueJob _ _)

theorem dirties_decideSwap (s : State) {w : Win} (d : Descriptor) (a : PlaceAnswer) (h : p (.win w)) :
    Dirties p s (s.decideSwap w d a) := by
  unfold State.decideSwap
  dsimp only
  generalize marked : (s.modWin w _).touch (.win w) = t
  have first : Dirties p s t := marked ▸ (dirties_touch _ h).after rfl
  have second : Dirties p s (if a = .place then t.reserve w else t) := by split <;> exact first.before rfl
  generalize (if a = .place then t.reserve w else t) = t at second ⊢
  have third : Dirties p s (if .job w ∈ s.swapWaits w d.kind then t.makeUrgent w else t) := by
    split <;> exact second.before rfl
  split
  · exact third.trans (dirties_performSwap _ h)
  · exact third

theorem dirties_abandonSwap (s : State) {w : Win} (h : p (.win w)) : Dirties p s (s.abandonSwap w) := by
  unfold State.abandonSwap
  split
  · exact (dirties_touch _ h).after rfl
  · exact dirties_refl s

theorem dirties_faultOutput (s : State) {w : Win} (h : p (.win w)) : Dirties p s (s.faultOutput w) := by
  unfold State.faultOutput
  split
  · exact ((dirties_modTouch s _ h).trans (dirties_endJob _ h)).trans (dirties_abandonSwap _ h)
  · exact dirties_refl s

theorem dirties_faultInput (s : State) {w : Win} (h : p (.win w)) : Dirties p s (s.faultInput w) :=
  (dirties_modTouch s _ h).trans (dirties_endJob _ h)

theorem dirties_prime (s : State) {w : Win} (d : Descriptor) (h : p (.win w)) : Dirties p s (s.prime w d) :=
  (dirties_endJob s h).trans ((dirties_touch _ h).after rfl)

/-! ## Accesses -/

/-- The records that an access may make dirty: GLOBAL, and those of windows in use. -/
def OfUse (s : State) (r : RecName) : Prop := r = .global ∨ ∃ w, r = .win w ∧ (s.win w).inUse ≠ none

theorem dirties_pWriteWindow (s : State) (w : Win) (x : PWrite) : Dirties (OfUse s) s (s.pWriteWindow w x) := by
  unfold State.pWriteWindow
  split
  · exact dirties_refl s
  next d use =>
    have own : OfUse s (.win w) := .inr ⟨w, rfl, by simp [use]⟩
    split
    · unfold State.pWriteInput
      dsimp only
      split
      · split <;> exact dirties_of_eq rfl
      · exact dirties_dropEvent s own fun _ => .inl rfl
    · unfold State.pWriteOutput
      dsimp only
      split
      · exact dirties_dropEvent s own fun _ => .inl rfl
      · split <;> split <;> exact dirties_of_eq rfl

theorem pReadWindow_dirty (s : State) (w : Win) (r : PRead) : (s.pReadWindow w r).cba.dirty = s.cba.dirty := by simp

theorem dirties_issueRead (s : State) (r : PRead) : Dirties (OfUse s) s (s.issueRead r) := by
  unfold State.issueRead
  split
  · exact (dirties_record _ _ (.inl rfl)).after rfl
  · exact dirties_refl s
  · exact dirties_of_eq rfl
  · exact dirties_refl s
  · split
    · exact dirties_refl s
    · exact dirties_of_eq (pReadWindow_dirty ..)
  · exact dirties_of_eq rfl
  · exact dirties_of_eq rfl

theorem writeF_dirty (s : State) (w : Win) (b : Bool) (a : Access) (g : Addr) :
    (s.writeF w b a g).cba.dirty = s.cba.dirty := by
  simp

theorem dirties_fWindow (s : State) (w : Win) (a : Access) : Dirties (OfUse s) s (s.fWindow w a) := by
  unfold State.fWindow
  split
  · exact dirties_refl s
  next d use =>
    have own : OfUse s (.win w) := .inr ⟨w, rfl, by simp [use]⟩
    have global (e : WEvent) : e.cause.isSome → OfUse s .global := fun _ => .inl rfl
    split
    · unfold State.fInput
      dsimp only
      split
      · exact dirties_of_eq rfl
      · split
        · exact (dirties_dropEvent _ own (global _)).after rfl
        · split
          · exact dirties_of_eq (writeF_dirty ..)
          · split
            · exact (dirties_modTouch s _ own).before (writeF_dirty ..)
            · exact (dirties_dropEvent _ own (global _)).after rfl
            · exact (dirties_dropEvent _ own (global _)).after rfl
            · exact (dirties_drop _ own).after rfl
    · unfold State.fOutput
      dsimp only
      split
      · split <;> exact dirties_of_eq rfl
      · split
        · exact dirties_of_eq (writeF_dirty ..)
        · exact (dirties_dropEvent _ own (global _)).after rfl

theorem inUse_of_classify_shield {s : State} {q : Port} {write : Bool} {a : Addr} {w : Win}
    (h : s.classify q write a = .shield w) : (s.win w).inUse ≠ none := by
  have bank : s.inBank a w = true := by
    unfold State.classify at h
    split at h
    · exact nomatch h
    · split at h
      · split at h
        · exact nomatch h
        · unfold cbClass at h
          split at h
          · split at h <;> exact nomatch h
          · split at h
            · split at h <;> exact nomatch h
            · split at h
              · split at h <;> exact nomatch h
              · exact nomatch h
      · split at h
        · exact nomatch h
        · split at h
          · exact nomatch h
          · split at h
            next found => exact (AccessClass.shield.inj h) ▸ List.find?_some found
            · exact nomatch h
  intro idle
  simp [State.inBank, idle] at bank

theorem dirties_issueF (s : State) (a : Access) : Dirties (OfUse s) s (s.issueF a) := by
  unfold State.issueF
  split
  · exact (dirties_record _ _ (.inl rfl)).after rfl
  · exact dirties_fWindow ..
  next w shield =>
    split
    · exact (dirties_dropEvent _ (.inr ⟨w, rfl, inUse_of_classify_shield shield⟩) fun _ => .inl rfl).after rfl
    · exact dirties_of_eq rfl
  · exact dirties_of_eq rfl

theorem dirties_reachF (s : State) (a : Access) : Dirties (OfUse s) s (s.reachF a) := by
  unfold State.reachF
  split
  · exact dirties_of_eq rfl
  · exact (dirties_issueF { s with fp := { s.fp with held := none } } a).after rfl

theorem dirties_retryF (s t : State) : Dirties (OfUse t) t (retryF s t) := by
  unfold retryF
  split
  · split
    · exact dirties_reachF ..
    · exact dirties_refl t
  · exact dirties_refl t

/-! ## Commands -/

/-- The records that a command word may make dirty by its rule. -/
def NotResult (r : RecName) : Prop := r ≠ .result

theorem dirties_setResult (s : State) (c : BitVec 8) (r : ResultCode) (m : BitVec 16) (h : p .global) :
    Dirties p s (s.setResult c r m) := by
  unfold State.setResult
  dsimp only
  split
  · exact dirties_of_eq rfl
  · exact (dirties_record _ _ h).after rfl

theorem dirties_refuse (s : State) {w : Win} (r : Reason) (h : p (.win w)) : Dirties p s (s.refuse w r) :=
  (dirties_touch _ h).after rfl

theorem dirties_rearmEffect (s : State) {w : Win} (h : p (.win w)) : Dirties p s (rearmEffect s w) := by
  unfold rearmEffect
  split
  · exact dirties_refl s
  · exact dirties_prime s _ h

theorem dirties_perWindow {test : State → Win → Reason} {effect : State → Win → State} (x : Word)
    (h : ∀ t w, Dirties NotResult t (effect t w)) (s : State) : Dirties NotResult s (s.perWindow test effect x) :=
  perWindow_induct (P := Dirties NotResult s) test effect x (fun t w k _ => k.trans (h t w))
    (fun t _ r k => k.trans (dirties_refuse t r nofun)) (fun t c r m k => k.trans (dirties_setResult t c r m nofun))
    (dirties_refl s)

theorem dirties_beginLoad (s : State) : Dirties NotResult s s.beginLoad := by
  unfold State.beginLoad
  refine Dirties.trans (Dirties.after (dirties_foldl (fun t _ => ?_) allWindows _) ?_) (dirties_touch _ nofun)
  · exact dirties_modTouch t _ nofun
  · rfl

theorem stopped_dirty (s : State) : (stopped s).cba.dirty = s.cba.dirty := by simp [stopped]

theorem dirties_stop (s : State) : Dirties NotResult s s.stop := by
  rw [stop_eq]
  refine ((dirties_retryF s (stopped s)).after (stopped_dirty s)).mono fun r hr => ?_
  rcases hr with rfl | ⟨w, rfl, -⟩ <;> exact nofun

theorem dirties_runCommand (s : State) (x : Word) (c : Command) : Dirties NotResult s (s.runCommand x c) := by
  cases c <;> rw [State.runCommand]
  case start => exact (dirties_beginLoad s).trans (dirties_setResult _ _ _ _ nofun)
  case stop => exact (dirties_stop s).trans (dirties_setResult _ _ _ _ nofun)
  case reset => exact (dirties_setResult _ _ _ _ nofun).after rfl
  case clearerr => exact (dirties_setResult _ _ _ _ nofun).after rfl
  case load => exact (dirties_perWindow (test := loadTest) (effect := loadEffect) x (fun _ _ => dirties_of_eq rfl) s).before (by simp)
  case switch => exact dirties_perWindow (effect := switchEffect) x (fun _ _ => dirties_of_eq rfl) s
  case cancel => exact dirties_perWindow (effect := cancelEffect) x (fun _ _ => dirties_of_eq rfl) s
  case hold => exact dirties_perWindow (effect := holdEffect) x (fun _ _ => dirties_of_eq rfl) s
  case release => exact dirties_perWindow (effect := releaseEffect) x (fun _ _ => dirties_of_eq rfl) s
  case commit => exact dirties_perWindow (effect := commitEffect) x (fun _ _ => dirties_of_eq rfl) s
  case rearm => exact dirties_perWindow x (fun t w => dirties_rearmEffect t nofun) s

theorem dirties_takeCommand (s : State) (be : Lanes) (x : Word) : Dirties NotResult s (s.takeCommand be x) := by
  unfold State.takeCommand
  split
  · exact dirties_setResult _ _ _ _ nofun
  · split
    · exact dirties_runCommand ..
    · exact dirties_setResult _ _ _ _ nofun

theorem OfUse.notResult {s : State} {r : RecName} (h : OfUse s r) : NotResult r := by
  rcases h with rfl | ⟨w, rfl, -⟩ <;> exact nofun

/-! ## Issue and retries -/

theorem dirties_issueWrite (s : State) (x : PWrite) (rest : List PWrite) :
    Dirties (fun r => OfUse s r ∨ s.classify .p true x.addr = .command ∧ NotResult r) s (s.issueWrite x rest) := by
  unfold State.issueWrite
  dsimp only
  split
  · exact (dirties_record _ _ (.inl (.inl rfl))).after rfl
  next command => exact ((dirties_takeCommand _ _ _).mono fun r hr => .inr ⟨command, hr⟩).after rfl
  · exact dirties_of_eq rfl
  · exact (dirties_record _ _ (.inl (.inl rfl))).after rfl
  · split
    · exact dirties_refl s
    · exact ((dirties_pWriteWindow { s with pp := { s.pp with pwq := rest } } _ x).mono fun r hr => .inl hr).after rfl
  next w shield =>
    exact (dirties_dropEvent _ (.inl (.inr ⟨w, rfl, inUse_of_classify_shield shield⟩)) fun _ => .inl (.inl rfl)).after rfl
  · exact dirties_of_eq rfl

/-- Issue on the P port makes dirty GLOBAL and records of windows in use, unless it takes a command word. -/
theorem dirties_issueP (s : State) :
    Dirties (fun r => OfUse s r ∨ s.headClass = some .command ∧ NotResult r) s s.issueP := by
  unfold State.issueP
  split
  · exact dirties_refl s
  · split
    next x rest queue =>
      have head : s.headClass = some (s.classify .p true x.addr) := by simp [State.headClass, queue]
      rw [head]
      exact (dirties_issueWrite s x rest).mono fun r => Or.imp_right fun h => ⟨by rw [h.1], h.2⟩
    · exact (dirties_issueRead s _).mono fun r => .inl
    · exact dirties_refl s

theorem dirties_retryHead (f : Option Win) (t : State) :
    Dirties (fun r => OfUse t r ∨ t.headClass = some .command ∧ NotResult r) t (retryHead f t) := by
  unfold retryHead
  split
  · exact dirties_of_eq rfl
  · exact dirties_issueP t

theorem dirties_retryP (s t : State) : Dirties NotResult t (retryP s t) := by
  unfold retryP
  split
  · exact ((dirties_retryHead _ _).mono fun r hr => hr.elim OfUse.notResult And.right).after (by simp)
  · exact dirties_of_eq (by simp)

theorem dirties_retryStalled (s t : State) : Dirties NotResult t (retryStalled s t) :=
  (dirties_retryP s t).trans ((dirties_retryF s _).mono fun _ => OfUse.notResult)

end Sys2Proof.Laws
end

section
/-! Resets, the end of DRAINING and the straps. -/

namespace Sys2Proof.Laws

open Sys2Proof Sys2Proof.Machine Sys2Proof.Safety

/-- Without a write granted there is none to cut short. -/
theorem cutShort_of_storeOf {s : State} (h : storeOf .pinReset s = none) : s.cutShort = s := by
  unfold storeOf at h
  unfold State.cutShort
  cases grant : s.mp.grant with
  | free => rfl
  | pairRead t => rfl
  | pairWrite t d => simp [grant] at h
  | single t =>
    cases dir : t.dir with
    | read => simp [dir]
    | write => simp [grant, dir] at h

/-- Settles O17, by the definitions of the reset values and of PIN_RESET. -/
theorem pinResetTakesTheResetValues : Obligations.PinResetTakesTheResetValues := by
  refine ⟨fun w => win_reset w, rfl, rfl, rfl, rfl, rfl, rfl, rfl, fun s => ⟨s.pinReset, rfl, rfl, fun none => ?_⟩⟩
  have cut := cutShort_of_storeOf none
  exact ⟨by rw [show s.pinReset.mem = s.cutShort.mem from rfl, cut], by rw [show s.pinReset.free = s.cutShort.free from rfl, cut]⟩

theorem memSizeOf_eq (m : BitVec 3) : memSizeOf m =
    1048576 * (if m = 0 then 1 else if m = 1 then 2 else if m = 2 then 4 else if m = 3 then 8 else 16) := by
  revert m
  decide

theorem cbBase_toNat (s : State) : s.cbBase.toNat = 65536 * s.lines.cbsel.toNat := by
  have small := s.lines.cbsel.isLt
  simp only [State.cbBase, BitVec.toNat_shiftLeft, BitVec.toNat_setWidth, BitVec.zeroExtend,
    Nat.shiftLeft_eq]
  omega

/-- Settles O18, from what the straps select. -/
theorem rstReleaseSamplesTheStraps : Obligations.RstReleaseSamplesTheStraps := by
  intro s m k f
  refine ⟨s.releaseRst m k f, rfl, fun asserted => ?_, fun released => ?_⟩
  · have eq : s.releaseRst m k f = { s with
        lines := { s.lines with rst := false, memsz := m, cbsel := k }, cc := { s.cc with frz := f } } := by
      simp [State.releaseRst, asserted]
    rw [eq]
    exact ⟨rfl, memSizeOf_eq m, cbBase_toNat _⟩
  · simp [State.releaseRst, released]

theorem quiet_iff (s : State) : s.quiet = true ↔ s.mp.grant = .free ∧ s.pp.current = none ∧ s.fp.inFlight = none ∧
    s.ce.request = false ∧ s.cba.request = none := by
  simp [State.quiet, and_assoc]

/-- The end of the reset pass: STOPPED is entered and the accesses held are retried. -/
theorem endPass_eq {s : State} (state : s.cc.state = .resetting) (done : s.cc.phase = .passDone) : s.endPass =
    retryStalled s (({ s with cc := { s.cc with state := .stopped, phase := .inactive } } : State).touch .global) := by
  simp [State.endPass, state, done]

/-- Settles O19. -/
theorem resettingEndsInStopped : Obligations.ResettingEndsInStopped := by
  refine ⟨fun s rst state phase grant current inFlight ce k => ?_, fun s busy => ?_, fun s rst state done => ?_⟩
  · have quiet := (quiet_iff s).2 ⟨grant, current, inFlight, ce, k⟩
    simp only [exec, execResetValues, rst, State.takeResetValues, state, phase, quiet]
    rfl
  · have busy : s.quiet = false := by
      rw [← Bool.not_eq_true, quiet_iff]
      rintro ⟨grant, current, inFlight, ce, k⟩
      simp [grant, current, inFlight, ce, k] at busy
    simp [exec, execResetValues, State.takeResetValues, busy]
  · obtain ⟨t, next, ends⟩ := act_ends State.endPass rst
    rw [endPass_eq state done] at ends
    refine ⟨t, _, next, ends.2 _ ((dirties_retryStalled s _).kept _ ?_), touch_eq _ _, ends⟩
    simp

theorem drained_iff (s : State) : s.drained = true ↔ s.cc.drainSet = [] ∧ s.nu.queue = [] ∧ s.nu.reservations = [] := by
  simp [State.drained, and_assoc]

/-- Settles O20. -/
theorem drainEndEntersStopped : Obligations.DrainEndEntersStopped := by
  refine ⟨fun s rst state set queue places => ?_, fun s busy => ?_⟩
  · have drained := (drained_iff s).2 ⟨set, queue, places⟩
    obtain ⟨t, next, ends⟩ := act_ends State.endDrain rst
    have eq : s.endDrain = ({ s with cc := { s.cc with state := .stopped } } : State).record .stopped := by
      simp [State.endDrain, state, drained]
    rw [eq] at ends
    refine ⟨t, next, ends.2 _ ((mem_dirty_record _ _ _).2 (.inr rfl)), endsIn_trans ends ⟨?_, fun r hr => ?_⟩⟩
    · rw [record_eq]
    · exact (mem_dirty_record _ _ _).2 (.inl hr)
  · have eq : s.endDrain = s := by
      unfold State.endDrain
      refine if_neg fun h => ?_
      obtain ⟨set, queue, places⟩ := (drained_iff s).1 h.2
      simp [h.1, set, queue, places] at busy
    cases rst : s.lines.rst with
    | true => exact ⟨s, act_held _ rst, rfl, fun _ hr => hr⟩
    | false =>
      obtain ⟨t, next, ends⟩ := act_ends State.endDrain rst
      exact ⟨t, next, eq ▸ ends⟩

end Sys2Proof.Laws
end

section
/-! The Cycle Controller: edges, timers and counted pulses. -/

namespace Sys2Proof.Laws

open Sys2Proof Sys2Proof.Machine Sys2Proof.Safety

/-! ## What an event ends in -/

theorem endsIn_refl (s : State) : EndsIn s s := ⟨rfl, fun _ h => h⟩

theorem endsIn_touch (s : State) (r : RecName) : EndsIn (s.touch r) s :=
  ⟨by rw [touch_eq], fun x h => (mem_dirty_touch s r x).2 (.inl h)⟩

theorem endsIn_record (s : State) (c : Cause) :
    EndsIn (s.record c) { s with cba := { s.cba with causes := s.cba.causes ||| c.mask } } := endsIn_touch _ _

theorem mem_dirty_of_endsIn {t u : State} {r : RecName} (h : EndsIn t u) (hr : r ∈ u.cba.dirty) : r ∈ t.cba.dirty := h.2 r hr

/-- A rising edge, at its level (R22, R100). -/
theorem exec_cycRise (s : State) (rst : s.lines.rst = false) :
    ∃ t, exec .cycRise s = .next t ∧ EndsIn t (retryStalled (s.setCyc true) (s.setCyc true).risingEdge) :=
  act_ends State.edgeTaken (s := s.setCyc true) rst

/-- A rising edge that changes neither a window nor what stalls accesses retries none. -/
theorem exec_cycRise_quiet {s u : State} (rst : s.lines.rst = false) (edge : (s.setCyc true).risingEdge = u)
    (state : u.cc.state = s.cc.state) (windows : ∀ w, u.win w = s.win w) : ∃ t, exec .cycRise s = .next t ∧ EndsIn t u := by
  subst edge
  obtain ⟨t, next, ends⟩ := exec_cycRise s rst
  rw [retryStalled_same (s := s.setCyc true) (by simp) state windows (by simp)] at ends
  exact ⟨t, next, ends⟩

/-- Settles O21: a runt records RUNT alone. -/
theorem runtIsIgnored : Obligations.RuntIsIgnored := by
  intro s rst states interval
  have edge : (s.setCyc true).risingEdge = (s.setCyc true).record .runt := by
    rcases states with state | state | state | state <;> simp [State.risingEdge, state, interval]
  obtain ⟨t, next, ends⟩ := exec_cycRise_quiet rst edge (by simp) fun w => win_record _ _ w
  exact ⟨t, next, ends.2 _ ((mem_dirty_record _ _ _).2 (.inr rfl)), endsIn_trans ends (endsIn_record _ _)⟩

/-- Settles O22. -/
theorem edgesLevelsAndTheIntervalTimer : Obligations.EdgesLevelsAndTheIntervalTimer := by
  refine ⟨fun s rst states => ?_, fun s rst => ?_, fun s rst => ?_, fun s rst => ?_⟩
  · have edge : (s.setCyc true).risingEdge = s.setCyc true := by
      rcases states with state | state | state | state | ⟨state, low⟩ <;> simp [State.risingEdge, *]
    exact exec_cycRise_quiet rst edge rfl fun _ => rfl
  · obtain ⟨t, next, ends⟩ := act_ends State.fallingEdge (s := s.setCyc false) rst
    refine ⟨t, next, ?_⟩
    have edge : (s.setCyc false).fallingEdge = { s.setCyc false with
        cc := { s.cc with lowSeen := if s.cc.state = .armed then true else s.cc.lowSeen } } := by
      unfold State.fallingEdge
      split
      next armed => rw [if_pos (show s.cc.state = .armed from armed)]; rfl
      next other => rw [if_neg (show ¬ s.cc.state = .armed from other)]; rfl
    exact edge ▸ ends
  · exact act_ends State.intervalExpires rst
  · have eq : exec .frzChange s = act State.frzChange s := by simp [exec, execFrzChange, rst]
    rw [eq]
    obtain ⟨t, next, ends⟩ := act_ends State.frzChange rst
    refine ⟨t, next, ?_⟩
    have change : s.frzChange = { s with cc := { s.cc with
        frz := !s.cc.frz
        freezeReq := if s.cc.state = .running then !s.cc.frz && s.cba.config.freezeMode != .ignore else s.cc.freezeReq } } := by
      unfold State.frzChange
      dsimp only
      split <;> rfl
    exact change ▸ ends

/-! ## Timers and counts -/

theorem startInterval_eq (s : State) : s.startInterval =
    { s with cc := { s.cc with interval := s.cc.interval || s.cba.config.minInt != 0 } } := by
  unfold State.startInterval
  split
  next zero => simp [zero]
  next nonzero => rw [bne_iff_ne.2 nonzero, Bool.or_true]

theorem startWatchdog_eq (s : State) : s.startWatchdog =
    { s with cc := { s.cc with watchdog := s.cc.watchdog || s.cba.config.cycTimeout != 0 } } := by
  unfold State.startWatchdog
  split
  next zero => simp [zero]
  next nonzero => rw [bne_iff_ne.2 nonzero, Bool.or_true]

theorem touch_cc (s : State) (c : CycleController) (r : RecName) :
    ({ s with cc := c } : State).touch r = { s.touch r with cc := c } := by
  unfold State.touch
  split <;> rfl

theorem record_cc (s : State) (c : CycleController) (k : Cause) :
    ({ s with cc := c } : State).record k = { s.record k with cc := c } := by
  exact touch_cc { s with cba := { s.cba with causes := s.cba.causes ||| k.mask } } c .global

theorem countPulse_eq (s : State) :
    s.countPulse = { s.record .cycle with cc := { s.cc with cycle := s.cc.cycle + 1 } } := record_cc _ _ _

/-- The controller as a counted pulse sets it, where the interval timer was stopped (R22, R24, R30). -/
def pulsed (s : State) (state : CState) (groupPos : BitVec 8) (freezeReq watchdog : Bool) : State :=
  { s.record .cycle with cc := { s.cc with
    cycle := s.cc.cycle + 1
    interval := s.cba.config.minInt != 0
    watchdog := watchdog
    state := state
    groupPos := groupPos
    freezeReq := freezeReq } }

theorem aligningPulse_eq {s : State} (interval : s.cc.interval = false) : s.aligningPulse =
    (pulsed s .running 0 s.freezeWanted (s.cc.watchdog || s.cba.config.cycTimeout != 0)).deliver false false := by
  simp [State.aligningPulse, countPulse_eq, startInterval_eq, startWatchdog_eq, State.enter, interval, pulsed]

theorem runningPulse_eq {s : State} (interval : s.cc.interval = false) : s.runningPulse =
    (pulsed s .running s.advance.1 s.cc.freezeReq (s.cc.watchdog || s.cba.config.cycTimeout != 0)).deliver
      s.advance.2 false := by
  simp [State.runningPulse, countPulse_eq, startInterval_eq, startWatchdog_eq, State.enter, interval, pulsed]

theorem frozenPulse_eq {s : State} (interval : s.cc.interval = false) : s.frozenPulse =
    let t := pulsed s s.cc.state s.cc.groupPos s.cc.freezeReq s.cc.watchdog
    if s.cba.config.freezeMode = .inputs then t.deliver false true else t := by
  simp [State.frozenPulse, countPulse_eq, startInterval_eq, interval, pulsed]

theorem advance_eq (s : State) : s.advance =
    (if s.cc.groupPos + 1 = s.cba.config.groupLen then 0 else s.cc.groupPos + 1,
      decide (s.cc.groupPos + 1 = s.cba.config.groupLen)) := by
  unfold State.advance
  split
  next wraps => rw [decide_eq_true wraps]
  next stays => rw [decide_eq_false stays]

theorem exec_cycRise_pulse {s u : State} (rst : s.lines.rst = false) (edge : (s.setCyc true).risingEdge = u) :
    ∃ t, exec .cycRise s = .next t ∧ EndsIn t (retryStalled (s.setCyc true) u) := edge ▸ exec_cycRise s rst

/-- Settles O24: each pulse sets the controller, and is delivered. -/
theorem countedPulseIsDelivered : Obligations.CountedPulseIsDelivered := by
  intro s rst interval
  have stopped : (s.setCyc true).cc.interval = false := interval
  have advanced := advance_eq (s.setCyc true)
  refine ⟨by decide, fun state => ?_, fun state request => ?_, fun state request => ?_, fun state level => ?_,
    fun state level => ?_⟩
  · have edge : (s.setCyc true).risingEdge = (s.setCyc true).aligningPulse := by
      simp [State.risingEdge, State.pulse, state, interval]
    refine exec_cycRise_pulse rst ?_
    rw [edge, aligningPulse_eq stopped]
    rfl
  · have edge : (s.setCyc true).risingEdge = (s.setCyc true).runningPulse := by
      simp [State.risingEdge, State.pulse, state, interval, request]
    refine exec_cycRise_pulse rst ?_
    rw [edge, runningPulse_eq stopped, advanced]
    rfl
  · have edge : (s.setCyc true).risingEdge = (s.setCyc true).runningPulse.freeze := by
      simp [State.risingEdge, State.pulse, state, interval, request]
    refine exec_cycRise_pulse rst ?_
    rw [edge, runningPulse_eq stopped, advanced]
    rfl
  · have edge : (s.setCyc true).risingEdge = (s.setCyc true).runningPulse := by
      simp [State.risingEdge, State.pulse, state, interval, level]
    refine exec_cycRise_pulse rst ?_
    rw [edge, runningPulse_eq stopped, advanced]
    rfl
  · have edge : (s.setCyc true).risingEdge = (s.setCyc true).frozenPulse := by
      simp [State.risingEdge, State.pulse, state, interval, level]
    refine exec_cycRise_pulse rst ?_
    rw [edge, frozenPulse_eq stopped]
    rfl

/-! ## The loss of the cycle -/

/-- A window record after the loss of the cycle (R30, R70). -/
def cycleLost (x : Window) : Window := { x with safe := x.safe || (x.valid && x.inUse.any fun d => d.kind == .output) }

theorem win_lose (s : State) (w v : Win) : (s.lose w).win v = if v = w then cycleLost (s.win w) else s.win v := by
  unfold State.lose cycleLost
  split
  next idle => split <;> simp_all
  next d use =>
    split
    next lost => simp [use, lost.1, lost.2]
    next kept =>
      have safe : ((s.win w).valid && (s.win w).inUse.any fun d => d.kind == .output) = false := by
        rw [use, Option.any_some, ← Bool.not_eq_true, Bool.and_eq_true, beq_iff_eq]
        exact fun h => kept ⟨h.2, h.1⟩
      rw [safe, Bool.or_false]
      split
      next same => rw [same]
      next => rfl

/-- A fold whose steps change one window each, by its number. -/
theorem win_foldl_each {f : State → Win → State} (g : Window → Window)
    (h : ∀ s w v, (f s w).win v = if v = w then g (s.win w) else s.win v) (s : State) (v : Win) :
    (allWindows.foldl f s).win v = g (s.win v) := by
  have each (l : List Win) (nodup : l.Nodup) (s : State) : (l.foldl f s).win v = if v ∈ l then g (s.win v) else s.win v := by
    induction l generalizing s with
    | nil => rfl
    | cons w l ih =>
      obtain ⟨fresh, rest⟩ := List.nodup_cons.1 nodup
      rw [List.foldl_cons, ih rest, h]
      by_cases own : v = w
      · subst own
        simp [fresh]
      · simp [own]
  rw [each allWindows nodup_allWindows, if_pos (mem_allWindows v)]

theorem dirties_lose (s : State) (w : Win) : Dirties (fun _ => True) s (s.lose w) := by
  unfold State.lose
  split
  · exact dirties_refl s
  · split
    · exact dirties_modTouch s _ trivial
    · exact dirties_refl s

theorem mem_dirty_lose {s : State} {w : Win} {d : Descriptor} (use : (s.win w).inUse = some d) (output : d.kind = .output)
    (valid : (s.win w).valid = true) : RecName.win w ∈ (s.lose w).cba.dirty := by
  simp [State.lose, use, output, valid]

theorem mem_dirty_loseAll {s : State} {w : Win} {d : Descriptor} (use : (s.win w).inUse = some d) (output : d.kind = .output)
    (valid : (s.win w).valid = true) : RecName.win w ∈ (allWindows.foldl State.lose s).cba.dirty := by
  obtain ⟨before, after, split⟩ := List.append_of_mem (mem_allWindows w)
  rw [split, List.foldl_append, List.foldl_cons]
  refine (dirties_foldl dirties_lose after _).kept _ ?_
  have same : ((before.foldl State.lose s).win w).inUse = (s.win w).inUse ∧
      ((before.foldl State.lose s).win w).valid = (s.win w).valid :=
    ⟨foldl_win_keeps Window.inUse State.lose w (fun t v => by simp [Window.inUse, Window.desc, Window.slot]) before s,
      foldl_win_keeps Window.valid State.lose w (fun t v => by simp) before s⟩
  exact mem_dirty_lose (same.1.trans use) output (same.2.trans valid)

theorem endsIn_windows {t u : State} (h : EndsIn t u) : t.windows = u.windows := by rw [h.1]

/-- Settles O25. -/
theorem watchdogExpiryLosesTheCycle : Obligations.WatchdogExpiryLosesTheCycle := by
  refine ⟨fun s rst watchdog states => ?_, fun s stopped => ?_⟩
  · obtain ⟨t, next, ends⟩ := act_ends State.watchdogExpires rst
    let lost : State := ({ s with cc := { s.cc with state := .lost, watchdog := false, freezeReq := false } } : State).record .lost
    have expires : s.watchdogExpires = allWindows.foldl State.lose lost := if_pos ⟨watchdog, states⟩
    have kept := (dirties_foldl dirties_lose allWindows lost).kept
    rw [expires] at ends
    refine ⟨t, next, endsIn_trans ends ?_, ends.2 _ (kept _ ((mem_dirty_record _ _ _).2 (.inr rfl))),
      fun w d use output valid => ?_, fun w => ?_⟩
    · rw [endsIn_windows ends]
      refine Alike.endsIn ⟨?_, ?_, ?_, ?_, ?_, ?_, ?_, ?_, ?_, ?_, ?_, ?_⟩ fun r hr => kept r ((mem_dirty_record _ _ _).2 (.inl hr))
      all_goals simp [lost]
    · refine ends.2 _ (mem_dirty_loseAll ?_ output ?_)
      · exact (congrArg Window.inUse (win_record _ _ w)).trans use
      · exact (congrArg Window.valid (win_record _ _ w)).trans valid
    · rw [endsIn_win ends, win_foldl_each _ win_lose]
      exact congrArg cycleLost (win_record _ _ w)
  · have eq : s.watchdogExpires = s := if_neg fun h => by simp [stopped] at h
    cases rst : s.lines.rst with
    | true => exact ⟨s, act_held _ rst, endsIn_refl s⟩
    | false =>
      obtain ⟨t, next, ends⟩ := act_ends State.watchdogExpires rst
      exact ⟨t, next, eq ▸ ends⟩

end Sys2Proof.Laws
end

section
/-! An alignment pulse (R18, R47): each input window in step reloads, in ascending number. -/

namespace Sys2Proof.Laws

open Sys2Proof Sys2Proof.Machine Sys2Proof.Safety

/-! ## One window -/

/-- An input window in step with its fill counter reloaded and its copy job ended, before it asks for a loop job. -/
def realigned (s : State) (w : Win) (d : Descriptor) : State :=
  ((s.endJob w).modWin w fun x => { x with fill := d.expect, state := .filling }).touch (.win w)

theorem realigns_iff (s : State) (w : Win) : realigns s w = true ↔ ∃ d, (s.win w).inUse = some d ∧ d.kind = .input ∧
    (s.win w).swapPending = false ∧
    ((s.win w).state = .filling ∨ (s.win w).state = .filled ∨ (s.win w).state = .blocked) := by
  unfold realigns
  cases (s.win w).inUse with
  | none => simp
  | some d => simp [and_assoc, or_assoc]

theorem align_of_not_realigns {s : State} {w : Win} (h : realigns s w = false) : s.align w = s := by
  rw [← Bool.not_eq_true, realigns_iff] at h
  unfold State.align
  split
  · rfl
  next d use =>
    refine if_neg fun k => h ⟨d, use, k.1, by simpa using k.2.1, by simpa using k.2.2⟩

theorem align_of_realigns {s : State} {w : Win} {d : Descriptor} (h : realigns s w = true) (use : (s.win w).inUse = some d) :
    s.align w = (realigned s w d).enqueueLoop w := by
  obtain ⟨e, use', input, noSwap, state⟩ := (realigns_iff s w).1 h
  cases use.symm.trans use'
  unfold State.align
  simp only [use]
  exact if_pos ⟨input, by simp [noSwap], by simpa using state⟩

theorem win_realigned (s : State) (w : Win) (d : Descriptor) (v : Win) : (realigned s w d).win v =
    { s.win v with
      waitSet := jobsLeave (if s.hasJob w then [w] else []) (s.win v).waitSet
      state := if v = w then .filling else (s.win v).state
      fill := if v = w then d.expect else (s.win v).fill } := by
  unfold realigned
  rw [win_touch, win_modWin, win_endJob_jobsLeave, win_endJob_jobsLeave]
  split
  next own => subst own; rfl
  · rfl

theorem realigned_ce (s : State) (w : Win) (d : Descriptor) : (realigned s w d).ce = withoutJobs s.ce fun v => v == w := by
  unfold realigned
  simp only [touch_keeps, modWin_ce, endJob_ce]

theorem hasJob_realigned (s : State) (w : Win) (d : Descriptor) : (realigned s w d).hasJob w = false := by
  unfold State.hasJob
  rw [realigned_ce]
  simp [withoutJobs]

theorem realigned_causes (s : State) (w : Win) (d : Descriptor) : (realigned s w d).cba.causes = s.cba.causes := by
  simp [realigned]

theorem dirties_align (s : State) (w : Win) : Dirties (fun _ => True) s (s.align w) := by
  cases h : realigns s w with
  | false =>
    rw [align_of_not_realigns h]
    exact dirties_refl s
  | true =>
    obtain ⟨d, use, -⟩ := (realigns_iff s w).1 h
    rw [align_of_realigns h use]
    exact ((dirties_endJob s trivial).trans (dirties_modTouch _ _ trivial)).trans (dirties_enqueueLoop _ trivial)

theorem mem_dirty_align {s : State} {w : Win} (h : realigns s w = true) : RecName.win w ∈ (s.align w).cba.dirty := by
  obtain ⟨d, use, -⟩ := (realigns_iff s w).1 h
  rw [align_of_realigns h use]
  exact mem_dirty_enqueueLoop w ((mem_dirty_touch _ _ _).2 (.inr rfl))

theorem inUse_realigned {s : State} {w : Win} (d : Descriptor) (h : realigns s w = true) (v : Win) :
    ((realigned s w d).win v).inUse = (s.win v).inUse := by
  rw [win_realigned]
  refine inUse_congr rfl rfl rfl ?_
  dsimp only
  split
  next own =>
    subst own
    obtain ⟨d, -, -, -, state⟩ := (realigns_iff s v).1 h
    rcases state with state | state | state <;> simp [state]
  · rfl

theorem win_align {s : State} {w : Win} {d : Descriptor} (h : realigns s w = true) (use : (s.win w).inUse = some d) (v : Win) :
    
    (s.align w).win v =
      { s.win v with
        waitSet := jobsLeave (if s.hasJob w then [w] else []) (s.win v).waitSet
        state := if v = w then .filling else (s.win v).state
        fill := if v = w then d.expect else (s.win v).fill
        events := if v = w ∧ d.loop ∧ (s.loopSource d.loopSrc).isNone then (s.win v).events ||| WEvent.mask .loopNosrc
          else (s.win v).events } := by
  obtain ⟨e, use', input, -⟩ := (realigns_iff s w).1 h
  cases use.symm.trans use'
  have source := loopSource_congr (v := d.loopSrc) (inUse_realigned d h _)
  rw [align_of_realigns h use, win_enqueueLoop_eq ((inUse_realigned d h w).trans use) input (hasJob_realigned s w d), source]
  by_cases own : v = w
  · subst own
    rw [if_pos rfl, win_realigned]
    cases d.loop <;> cases s.loopSource d.loopSrc <;> simp
  · rw [if_neg own, win_realigned]
    simp [own]

theorem align_ce {s : State} {w : Win} {d : Descriptor} (h : realigns s w = true) (use : (s.win w).inUse = some d) :
    (s.align w).ce = { withoutJobs s.ce (fun v => v == w) with
      jobs := (withoutJobs s.ce fun v => v == w).jobs ++
        if d.loop ∧ (s.loopSource d.loopSrc).isSome then [{ kind := .loop d.loopSrc 0, dest := w, urgent := false }] else [] } := by
  obtain ⟨e, use', input, -⟩ := (realigns_iff s w).1 h
  cases use.symm.trans use'
  have source := loopSource_congr (v := d.loopSrc) (inUse_realigned d h _)
  have jobs := enqueueLoop_jobs ((inUse_realigned d h w).trans use) input (hasJob_realigned s w d)
  have filling : ((realigned s w d).win w).state = .filling := by rw [win_realigned]; simp
  have ce : ((realigned s w d).enqueueLoop w).ce =
      { (realigned s w d).ce with jobs := ((realigned s w d).enqueueLoop w).ce.jobs } := by
    have running := (enqueueLoop_keeps (realigned s w d) w)
    generalize ((realigned s w d).enqueueLoop w).ce = ce at running ⊢
    cases ce
    simp_all
  rw [align_of_realigns h use, ce, jobs, source, filling, realigned_ce]
  simp

/-! ## The windows so far -/

/-- The job that a loop window asks for when it is realigned, where its source is there (R56). -/
def loopJob (s : State) (w : Win) : Option Job :=
  (s.win w).inUse.bind fun d =>
    if d.loop ∧ (s.loopSource d.loopSrc).isSome then some { kind := .loop d.loopSrc 0, dest := w, urgent := false } else none

/-- Whether window `w` is a loop window without a source. -/
def noSource (s : State) (w : Win) : Bool := (s.win w).inUse.any fun d => d.loop && (s.loopSource d.loopSrc).isNone

/-- Window `v` when the windows of `l` have taken an alignment pulse. -/
def alignedWin (l : List Win) (s : State) (v : Win) : Window :=
  { s.win v with
    waitSet := jobsLeave (l.filter fun w => realigns s w && s.hasJob w) (s.win v).waitSet
    state := if v ∈ l ∧ realigns s v then .filling else (s.win v).state
    fill := if v ∈ l ∧ realigns s v then ((s.win v).inUse.map Descriptor.expect).getD 0 else (s.win v).fill
    events := if v ∈ l ∧ realigns s v ∧ noSource s v then (s.win v).events ||| WEvent.mask .loopNosrc else (s.win v).events }

/-- The Copy Engine when the windows of `l` have taken an alignment pulse. -/
def alignedJobs (l : List Win) (s : State) : CopyEngine :=
  { withoutJobs s.ce (fun v => realigns s v && decide (v ∈ l)) with
    jobs := (withoutJobs s.ce fun v => realigns s v && decide (v ∈ l)).jobs ++
      (l.filter (realigns s)).filterMap (loopJob s) }

/-- `t` is `s` when the windows of `l` have taken an alignment pulse. -/
structure Aligned (l : List Win) (s t : State) : Prop where
  win    : ∀ v, t.win v = alignedWin l s v
  ce     : t.ce = alignedJobs l s
  causes : t.cba.causes = s.cba.causes
  kept   : ∀ r ∈ s.cba.dirty, r ∈ t.cba.dirty
  dirty  : ∀ w ∈ l, realigns s w = true → RecName.win w ∈ t.cba.dirty

theorem withoutJobs_none (ce : CopyEngine) : (withoutJobs ce fun _ => false) = ce := by
  simp [withoutJobs]

theorem loopJob_dest {s : State} {w : Win} {j : Job} (h : loopJob s w = some j) : j.dest = w := by
  unfold loopJob at h
  cases use : (s.win w).inUse with
  | none => simp [use] at h
  | some d =>
    simp only [use, Option.bind_some] at h
    split at h
    · cases h; rfl
    · exact nomatch h

/-- Jobs that end after others have ended and new ones have joined. -/
theorem withoutJobs_append (ce : CopyEngine) (gone : Win → Bool) (w : Win) (new : List Job) (other : ∀ j ∈ new, j.dest ≠ w) :
    withoutJobs { withoutJobs ce gone with jobs := (withoutJobs ce gone).jobs ++ new } (fun v => v == w) =
      { withoutJobs ce (fun v => gone v || v == w) with
        jobs := (withoutJobs ce fun v => gone v || v == w).jobs ++ new } := by
  have newKept : new.filter (fun j => !(j.dest == w)) = new := List.filter_eq_self.2 fun j hj => by simp [other j hj]
  have newHead : (new.head?.any fun j => j.dest == w) = false := by
    cases new with
    | nil => rfl
    | cons j l => simpa using other j
  obtain ⟨jobs, running, request⟩ := ce
  cases jobs with
  | nil => simp [withoutJobs, newKept, newHead]
  | cons j js =>
    cases head : gone j.dest <;> cases own : j.dest == w <;>
      simp [withoutJobs, newKept, head, own, List.filter_filter, Bool.and_comm]

theorem aligned_nil (s : State) : Aligned [] s s where
  win v := by simp [alignedWin, jobsLeave]
  ce := by simp [alignedJobs, withoutJobs_none]
  causes := rfl
  kept _ h := h
  dirty w h := nomatch h

section
variable {l : List Win} {s t : State} (h : Aligned l s t)
include h

theorem Aligned.inUse (v : Win) : (t.win v).inUse = (s.win v).inUse := by
  rw [h.win]
  refine inUse_congr rfl rfl rfl ?_
  simp only [alignedWin]
  split
  next own =>
    obtain ⟨d, -, -, -, state⟩ := (realigns_iff s v).1 own.2
    rcases state with state | state | state <;> simp [state]
  · rfl

theorem Aligned.loopSource (v : Win) : t.loopSource v = s.loopSource v := loopSource_congr (h.inUse v)

theorem Aligned.realigns {w : Win} (fresh : w ∉ l) : Safety.realigns t w = Safety.realigns s w := by
  have state : (t.win w).state = (s.win w).state := by rw [h.win]; simp [alignedWin, fresh]
  have swap : (t.win w).swapPending = (s.win w).swapPending := by rw [h.win]; rfl
  simp only [Safety.realigns, h.inUse, state, swap]

theorem Aligned.hasJob {w : Win} (fresh : w ∉ l) : t.hasJob w = s.hasJob w := by
  have new : ((l.filter (Safety.realigns s)).filterMap (loopJob s)).any (fun j => j.dest == w) = false := by
    rw [List.any_eq_false]
    intro j hj
    obtain ⟨v, hv, job⟩ := List.mem_filterMap.1 hj
    rw [loopJob_dest job]
    rintro same
    exact fresh (by simpa [← beq_iff_eq.1 same] using (List.mem_filter.1 hv).1)
  rw [State.hasJob, h.ce]
  simp only [alignedJobs, withoutJobs, List.any_append, new, Bool.or_false, List.any_filter]
  congr 1
  funext j
  by_cases own : j.dest = w
  · simp [own, fresh]
  · simp [own]

end

/-- A window that an alignment pulse does not bring into step changes nothing. -/
theorem Aligned.skip {l : List Win} {s t : State} (h : Aligned l s t) {w : Win} (still : Safety.realigns s w = false) :
    Aligned (l ++ [w]) s t where
  win v := by
    have same : (v ∈ l ++ [w] ∧ Safety.realigns s v) ↔ (v ∈ l ∧ Safety.realigns s v) := by
      simp only [List.mem_append, List.mem_singleton]
      refine ⟨fun k => ⟨k.1.resolve_right ?_, k.2⟩, fun k => ⟨.inl k.1, k.2⟩⟩
      rintro rfl
      simp [still] at k
    rw [h.win]
    simp only [alignedWin, List.filter_append, ← and_assoc, same]
    simp [still]
  ce := by
    have same (v : Win) : (Safety.realigns s v && decide (v ∈ l ++ [w])) = (Safety.realigns s v && decide (v ∈ l)) := by
      by_cases own : v = w
      · simp [own, still]
      · simp [own]
    rw [h.ce]
    simp only [alignedJobs, same, List.filter_append]
    simp [still]
  causes := h.causes
  kept := h.kept
  dirty v hv k := by
    refine h.dirty v ((List.mem_append.1 hv).resolve_right fun own => ?_) k
    simp only [List.mem_singleton] at own
    simp [own, still] at k

theorem Aligned.step {l : List Win} {s t : State} (h : Aligned l s t) {w : Win} (fresh : w ∉ l) :
    Aligned (l ++ [w]) s (t.align w) := by
  cases step : Safety.realigns s w with
  | false =>
    rw [align_of_not_realigns ((h.realigns fresh).trans step)]
    exact h.skip step
  | true =>
    have step' := (h.realigns fresh).trans step
    obtain ⟨d, use, -⟩ := (realigns_iff s w).1 step
    have use' := (h.inUse w).trans use
    refine ⟨fun v => ?_, ?_, ?_, fun r hr => (dirties_align t w).kept r (h.kept r hr), fun v hv k => ?_⟩
    · rw [win_align step' use', h.hasJob fresh, h.loopSource, h.win]
      by_cases own : v = w
      · subst own
        simp [alignedWin, fresh, step, use, noSource, jobsLeave, List.filter_append, List.filter_cons]
      · simp [alignedWin, own, step, jobsLeave, List.filter_append, List.filter_cons]
    · have other : ∀ j ∈ (l.filter (Safety.realigns s)).filterMap (loopJob s), j.dest ≠ w := by
        rintro j hj rfl
        obtain ⟨v, hv, job⟩ := List.mem_filterMap.1 hj
        exact fresh (loopJob_dest job ▸ (List.mem_filter.1 hv).1)
      have gone : (fun v => Safety.realigns s v && decide (v ∈ l) || v == w) =
          fun v => Safety.realigns s v && decide (v ∈ l ++ [w]) := by
        funext v
        by_cases own : v = w
        · simp [own, step]
        · simp [own]
      rw [align_ce step' use', h.loopSource, h.ce]
      unfold alignedJobs
      rw [withoutJobs_append _ _ _ _ other, gone]
      have last : (List.filter (Safety.realigns s) [w]).filterMap (loopJob s) =
          if d.loop ∧ (s.loopSource d.loopSrc).isSome then [{ kind := .loop d.loopSrc 0, dest := w, urgent := false }] else [] := by
        rw [List.filter_cons_of_pos step, List.filter_nil, List.filterMap_cons]
        by_cases asks : d.loop ∧ (s.loopSource d.loopSrc).isSome
        · simp [loopJob, use, asks]
        · simp [loopJob, use, asks]
      simp only [List.filter_append, List.filterMap_append, List.append_assoc, last]
    · rw [align_of_realigns step' use', enqueueLoop_causes, realigned_causes, h.causes]
    · rcases List.mem_append.1 hv with old | own
      · exact (dirties_align t w).kept _ (h.dirty v old k)
      · cases List.mem_singleton.1 own
        exact mem_dirty_align step'

theorem aligned_foldl (l : List Win) (nodup : l.Nodup) (s : State) : Aligned l s (l.foldl State.align s) := by
  induction l using List.reverseRecOn with
  | nil => exact aligned_nil s
  | append_singleton l w ih =>
    rw [List.foldl_append]
    have fresh : w ∉ l := fun hw => (List.nodup_append.1 nodup).2.2 w hw w (List.mem_singleton_self w) rfl
    exact (ih (List.nodup_append.1 nodup).1).step fresh

/-! ## Retries that do not happen -/

/-- Two states in which the same accesses stall. -/
structure StallAlike (s t : State) : Prop where
  memsz     : t.lines.memsz = s.lines.memsz
  cbsel     : t.lines.cbsel = s.lines.cbsel
  passes    : t.cc.state.passes = s.cc.state.passes
  resetting : (t.cc.state == .resetting) = (s.cc.state == .resetting)
  inUse     : ∀ w, (t.win w).inUse = (s.win w).inUse
  swap      : ∀ w, (t.win w).swapPending = (s.win w).swapPending
  fence     : ∀ w, (t.win w).fence = (s.win w).fence

section
variable {s t : State} (h : StallAlike s t)
include h

theorem StallAlike.classify (q : Port) (write : Bool) (a : Addr) : t.classify q write a = s.classify q write a := by
  have view : t.inView q a = s.inView q a := by funext w; simp only [State.inView, h.inUse]
  have bank : t.inBank a = s.inBank a := by funext w; simp only [State.inBank, h.inUse]
  have size : t.memSize = s.memSize := by simp only [State.memSize, h.memsz]
  have base : t.cbBase = s.cbBase := by simp only [State.cbBase, h.cbsel]
  simp only [State.classify, size, State.inCB, base, h.passes, view, bank]
  rfl

theorem StallAlike.stalls (q : Port) (write : Bool) (a : Addr) : t.stalls q write a = s.stalls q write a := by
  simp only [State.stalls, h.resetting, h.classify, State.windowStalls, h.swap, h.fence]

theorem StallAlike.fenceStands (pp : t.pp = s.pp) : t.fenceStands = s.fenceStands := by
  have holds : t.fenceHolds = s.fenceHolds := by funext w; simp only [State.fenceHolds, h.fence, h.inUse]
  simp only [State.fenceStands, holds, pp]

theorem StallAlike.headStalls (pp : t.pp = s.pp) : t.headStalls = s.headStalls := by
  simp only [State.headStalls, h.fenceStands pp, pp, h.stalls]

/-- An event that changes no stall retries no access. -/
theorem StallAlike.retryStalled (pp : t.pp = s.pp) : retryStalled s t = t := by
  have fenced : endFenced s t = t := by
    unfold endFenced
    rw [h.fenceStands pp]
    simp
  have head : retryP s t = t := by
    unfold retryP
    rw [fenced, h.headStalls pp]
    simp
  unfold Machine.retryStalled retryF
  rw [head]
  split
  · rw [h.stalls]
    simp
  · rfl

end

/-! ## The pulse -/

/-- The state in which an alignment pulse finds the windows (R27, R31). -/
def atAlignment (s : State) : State :=
  { (if s.cc.state = .lost then (s.setCyc true).record .cycle else s.setCyc true) with
    cc := { s.cc with
      state := .aligning
      cycle := if s.cc.state = .lost then s.cc.cycle + 1 else s.cc.cycle
      interval := s.cc.interval || s.cba.config.minInt != 0
      watchdog := s.cc.watchdog || s.cba.config.cycTimeout != 0 } }

theorem atAlignment_eq (s : State) : atAlignment s =
    { s with
      lines := { s.lines with cyc := true }
      cc := (atAlignment s).cc
      cba := { s.cba with
        causes := if s.cc.state = .lost then s.cba.causes ||| Cause.mask .cycle else s.cba.causes
        dirty := (atAlignment s).cba.dirty } } := by
  unfold atAlignment
  by_cases lost : s.cc.state = .lost
  · simp only [lost, if_true]
    rw [record_eq]
    rfl
  · simp only [lost, if_false]
    rfl

@[simp] theorem atAlignment_keeps (s : State) : (atAlignment s).lines = { s.lines with cyc := true } ∧
    (atAlignment s).pp = s.pp ∧ (atAlignment s).fp = s.fp ∧ (atAlignment s).ce = s.ce ∧ (atAlignment s).nu = s.nu ∧
    (atAlignment s).mp = s.mp ∧ (atAlignment s).mem = s.mem ∧ (atAlignment s).free = s.free ∧
    (atAlignment s).pending = s.pending ∧ (atAlignment s).cba.result = s.cba.result ∧
    (atAlignment s).cba.writeback = s.cba.writeback ∧ (atAlignment s).cba.request = s.cba.request ∧
    (atAlignment s).cba.turn = s.cba.turn ∧ (atAlignment s).cba.published = s.cba.published ∧
    (atAlignment s).cba.config = s.cba.config ∧ (atAlignment s).cba.load = s.cba.load ∧
    (atAlignment s).cba.loadQueue = s.cba.loadQueue ∧ (atAlignment s).cba.fetch = s.cba.fetch := by
  rw [atAlignment_eq]
  simp

theorem atAlignment_causes (s : State) : (atAlignment s).cba.causes =
    if s.cc.state = .lost then s.cba.causes ||| Cause.mask .cycle else s.cba.causes := by
  rw [atAlignment_eq]

theorem mem_dirty_atAlignment {s : State} {r : RecName} (h : r ∈ s.cba.dirty) : r ∈ (atAlignment s).cba.dirty := by
  unfold atAlignment
  split
  · exact (mem_dirty_record _ _ _).2 (.inl h)
  · exact h

theorem win_atAlignment (s : State) (w : Win) : (atAlignment s).win w = s.win w := by
  rw [atAlignment_eq]
  rfl

theorem risingEdge_alignment {s : State}
    (h : (s.cc.state = .armed ∧ s.cc.lowSeen = true) ∨ (s.cc.state = .lost ∧ s.cc.interval = false)) :
    (s.setCyc true).risingEdge = (atAlignment s).deliverAlignment := by
  rcases h with ⟨state, low⟩ | ⟨state, interval⟩
  · have edge : (s.setCyc true).risingEdge = (s.setCyc true).armedPulse := by
      simp [State.risingEdge, State.pulse, state, low]
    rw [edge, State.armedPulse, startWatchdog_eq, startInterval_eq]
    simp [atAlignment, State.enter, state, State.setCyc]
  · have edge : (s.setCyc true).risingEdge = (s.setCyc true).lostPulse := by
      simp [State.risingEdge, State.pulse, state, interval]
    rw [edge, State.lostPulse, startWatchdog_eq, startInterval_eq, countPulse_eq]
    simp [atAlignment, State.enter, state]

/-- A record whose words an event changes is dirty at its end (R155). -/
theorem mem_finish_of_shown {s u : State} {r : RecName} {i : Nat} (hi : i < r.length)
    (differs : s.recordWord r i ≠ u.recordWord r i) : r ∈ (finish s u).cba.dirty := by
  rw [finish_dirty, List.mem_append]
  by_cases old : r ∈ s.cba.dirty
  · exact .inl old
  · refine .inr (List.mem_filter.2 ⟨mem_allRecords r, ?_⟩)
    have shown : shownDiffers s u r = true := List.any_eq_true.2 ⟨i, List.mem_range.2 hi, bne_iff_ne.2 differs⟩
    simp [joinsDirty, old, shown]

theorem globalWord_state (s : State) : (s.globalWord 1).getLsbD 0 = s.cc.state.code.testBit 0 := by
  cases state : s.cc.state <;> simp [State.globalWord, put, putBit, putNat, CState.code, state]

theorem act_finish (f : State → State) {s : State} (rst : s.lines.rst = false) : act f s = .next (finish s (f s)) := by
  simp [act, rst]

theorem realigns_atAlignment (s : State) : realigns (atAlignment s) = realigns s := by
  funext w
  simp only [realigns, win_atAlignment]

theorem hasJob_atAlignment (s : State) : (atAlignment s).hasJob = s.hasJob := by
  rw [atAlignment_eq]
  rfl

theorem loopSource_atAlignment (s : State) : (atAlignment s).loopSource = s.loopSource :=
  funext fun w => loopSource_congr (by rw [win_atAlignment])

/-- What an alignment pulse leaves, in the items of the state before it. -/
theorem aligned_deliverAlignment (s : State) :
    (∀ v, (atAlignment s).deliverAlignment.win v = alignedWin allWindows s v) ∧
    (atAlignment s).deliverAlignment.ce = alignedJobs allWindows s ∧
    (atAlignment s).deliverAlignment.cba.causes = (atAlignment s).cba.causes ∧
    (∀ r ∈ (atAlignment s).cba.dirty, r ∈ (atAlignment s).deliverAlignment.cba.dirty) ∧
    ∀ w, realigns s w = true → RecName.win w ∈ (atAlignment s).deliverAlignment.cba.dirty := by
  have aligned : Aligned allWindows (atAlignment s) (atAlignment s).deliverAlignment :=
    aligned_foldl allWindows nodup_allWindows (atAlignment s)
  have ce : (atAlignment s).ce = s.ce := by rw [atAlignment_eq]
  have job : loopJob (atAlignment s) = loopJob s := by
    funext w
    simp only [loopJob, win_atAlignment, loopSource_atAlignment]
  refine ⟨fun v => ?_, ?_, aligned.causes, aligned.kept, fun w k => ?_⟩
  · have source : noSource (atAlignment s) = noSource s := by
      funext w
      simp only [noSource, win_atAlignment, loopSource_atAlignment]
    rw [aligned.win]
    unfold alignedWin
    rw [win_atAlignment, realigns_atAlignment, hasJob_atAlignment, source]
  · rw [aligned.ce]
    simp only [alignedJobs, ce, realigns_atAlignment, job]
  · exact aligned.dirty w (mem_allWindows w) (by rw [realigns_atAlignment]; exact k)

/-- An alignment pulse stalls and frees no access (R100). -/
theorem stallAlike_alignment {s : State} (h : s.cc.state = .armed ∨ s.cc.state = .lost) :
    StallAlike (s.setCyc true) (atAlignment s).deliverAlignment := by
  obtain ⟨win, -⟩ := aligned_deliverAlignment s
  have aligned : Aligned allWindows (atAlignment s) (atAlignment s).deliverAlignment :=
    aligned_foldl allWindows nodup_allWindows (atAlignment s)
  have state : (atAlignment s).deliverAlignment.cc.state = .aligning := by simp [atAlignment]
  have lines : (atAlignment s).deliverAlignment.lines = (atAlignment s).lines := by simp
  refine ⟨?_, ?_, ?_, ?_, fun w => ?_, fun w => ?_, fun w => ?_⟩
  · rw [lines, atAlignment_eq]; rfl
  · rw [lines, atAlignment_eq]; rfl
  · rw [state]; rcases h with h | h <;> rw [setCyc_cc, h] <;> rfl
  · rw [state]; rcases h with h | h <;> rw [setCyc_cc, h] <;> rfl
  · rw [aligned.inUse, win_atAlignment]; rfl
  · rw [win]; rfl
  · rw [win]; rfl

/-- An alignment pulse as an event, up to what its end adds. -/
theorem deliverAlignment_eq (s : State) : EndsIn (atAlignment s).deliverAlignment
    { s with
      lines := { s.lines with cyc := true }
      cc := (atAlignment s).cc
      cba := { s.cba with causes := (atAlignment s).cba.causes }
      windows := (atAlignment s).deliverAlignment.windows
      ce := alignedJobs allWindows s } := by
  obtain ⟨-, ce, causes, kept, -⟩ := aligned_deliverAlignment s
  have keeps := deliverAlignment_keeps (atAlignment s)
  generalize (atAlignment s).deliverAlignment = u at *
  refine Alike.endsIn ⟨?_, ?_, fun w => rfl, ?_, ?_, ce, ?_, ?_, ?_, ?_, ?_, ?_⟩ fun r hr => kept r (mem_dirty_atAlignment hr)
  all_goals simp [causes, keeps]

theorem alignedJobs_all (s : State) : alignedJobs allWindows s = { withoutJobs s.ce (realigns s) with
    jobs := (withoutJobs s.ce (realigns s)).jobs ++ (allWindows.filter (realigns s)).filterMap (loopJob s) } := by
  have all : (fun v => realigns s v && decide (v ∈ allWindows)) = realigns s := by
    funext v
    simp [mem_allWindows]
  rw [alignedJobs, all]

/-- Settles O23. -/
theorem alignmentPulseReloadsInputs : Obligations.AlignmentPulseReloadsInputs := by
  intro s rst h
  have states : s.cc.state = .armed ∨ s.cc.state = .lost := h.imp And.left And.left
  obtain ⟨win, -, causes, -, dirty⟩ := aligned_deliverAlignment s
  have effect : (s.setCyc true).edgeTaken = (atAlignment s).deliverAlignment := by
    unfold State.edgeTaken
    rw [risingEdge_alignment h, (stallAlike_alignment states).retryStalled (by simp)]
  have ends := endsIn_finish (s.setCyc true) (atAlignment s).deliverAlignment
  refine ⟨_, effect ▸ act_finish State.edgeTaken rst, ?_, fun w => ?_, ?_, fun w k => ends.2 _ (dirty w k), ?_⟩
  · have eq := deliverAlignment_eq s
    rw [alignedJobs_all] at eq
    rw [endsIn_windows ends, endsIn_causes ends, causes]
    exact endsIn_trans ends eq
  · rw [endsIn_win ends, win]
    simp [alignedWin, mem_allWindows, noSource]
  · refine mem_finish_of_shown (i := 1) (by decide) fun same => ?_
    have bit : (s.globalWord 1).getLsbD 0 = ((atAlignment s).deliverAlignment.globalWord 1).getLsbD 0 :=
      congrArg (BitVec.getLsbD · 0) same
    rw [globalWord_state, globalWord_state] at bit
    rcases states with state | state <;> simp [state, atAlignment, CState.code] at bit
  · rw [endsIn_causes ends, causes, atAlignment_causes]

end Sys2Proof.Laws
end

section
/-! What a window does with an evaluated pulse: images held back, and swaps decided. -/

namespace Sys2Proof.Laws

open Sys2Proof Sys2Proof.Machine Sys2Proof.Safety

/-! ## Notice places -/

theorem noticeOf_eq (w : Win) (d : Descriptor) : noticeOf w d = { win := w, base := d.pview, len := noticeLen d } := by
  rw [noticeOf, pviewLen_eq]
  rfl

theorem hasNotice_iff (s : State) (w : Win) : s.hasNotice w = true ↔ ∃ n ∈ s.nu.queue, n.win = w := by
  simp [State.hasNotice]

theorem find_eq_none_iff (s : State) (w : Win) : s.nu.queue.find? (fun n => n.win == w) = none ↔ s.hasNotice w = false := by
  simp [State.hasNotice]

theorem askPlace_noPlace_iff (s : State) (w : Win) (d : Descriptor) : s.askPlace w d = .noPlace ↔ NoPlace s w d := by
  unfold State.askPlace NoPlace State.places
  rw [← noticeOf_eq]
  cases d.cached with
  | false => simp
  | true => cases s.nu.queue.find? (fun n => n.win == w) <;> simp

/-- The Notice Unit's answer to a window for which it has a place, or which needs none (R121). -/
theorem askPlace_of_place {s : State} {w : Win} {d : Descriptor} (h : ¬ NoPlace s w d) : s.askPlace w d =
    if d.cached then (if s.hasNotice w then .coalesced else .place) else .unneeded := by
  rw [← askPlace_noPlace_iff] at h
  unfold State.askPlace at h ⊢
  cases cached : d.cached with
  | false => simp
  | true =>
    cases found : s.nu.queue.find? (fun n => n.win == w) with
    | none =>
      have noNotice := (find_eq_none_iff s w).1 found
      simp_all
    | some n =>
      have notice : s.hasNotice w = true := by
        rw [← Bool.not_eq_false, ← find_eq_none_iff, found]
        exact nofun
      simp_all

/-! ## Images held back -/

theorem evaluate_of_idle {s : State} {w : Win} (o : Bool) (h : (s.win w).inUse = none) : s.evaluate o w = s := by
  simp [State.evaluate, h]

theorem evaluate_out_of_scope {s : State} {w : Win} {d : Descriptor} (use : (s.win w).inUse = some d) (input : d.kind = .input) :
    
    s.evaluate true w = s := by
  simp [State.evaluate, use, input]

section
variable {s : State} {w : Win} {d : Descriptor} {o : Bool} (use : (s.win w).inUse = some d)
  (scope : o = true → d.kind = .output)
include use scope

theorem evaluate_in_scope : s.evaluate o w =
    if (s.win w).swapPending then s.holdBack w .slip
    else match d.kind with
      | .input => s.evalInput w d
      | .output => s.evalOutput w d := by
  have inScope : (o && d.kind == .input) = false := by
    cases o with
    | false => rfl
    | true => simp [scope rfl]
  simp only [State.evaluate, use, inScope]
  rfl

theorem evaluate_input (noSwap : (s.win w).swapPending = false) (input : d.kind = .input) :
    s.evaluate o w = s.evalInput w d := by
  rw [evaluate_in_scope use scope, noSwap, input]
  rfl

theorem evaluate_output (noSwap : (s.win w).swapPending = false) (output : d.kind = .output) :
    s.evaluate o w = s.evalOutput w d := by
  rw [evaluate_in_scope use scope, noSwap, output]
  rfl

theorem evaluate_ended (noSwap : (s.win w).swapPending = false) (h : (s.win w).state = .tripped ∨ (s.win w).state = .fault) :
    s.evaluate o w = s := by
  rw [evaluate_in_scope use scope]
  rcases h with h | h <;> cases d.kind <;> simp [noSwap, State.evalInput, State.evalOutput, h]

end

theorem holdBack_eq (s : State) (w : Win) (e : WEvent) : s.holdBack w e = (s.setWin w { s.win w with
    blocked := if (s.win w).blocked = 255 then 255 else (s.win w).blocked + 1 }).event w e := by
  rw [← satInc8_eq]
  rfl

theorem setWin_setWin (s : State) (w : Win) (x y : Window) : (s.setWin w x).setWin w y = s.setWin w y := by
  simp [State.setWin]

theorem holdBack_blocked_eq (s : State) (w : Win) (e : WEvent) :
    (s.modWin w fun x => { x with state := .blocked }).holdBack w e = (s.setWin w { s.win w with
      state := .blocked, blocked := if (s.win w).blocked = 255 then 255 else (s.win w).blocked + 1 }).event w e := by
  rw [holdBack_eq, State.modWin, win_setWin, if_pos rfl, setWin_setWin]

theorem evalInput_filled {s : State} {w : Win} (d : Descriptor) (h : (s.win w).state = .filled ∨ (s.win w).state = .blocked) :
    
    s.evalInput w d = s.evalFilled w d := by
  rcases h with h | h <;> simp [State.evalInput, h]

theorem evalFilled_held {s : State} {w : Win} (d : Descriptor) (held : (s.win w).held = true) :
    s.evalFilled w d = (s.modWin w fun x => { x with state := .blocked }).holdBack w .overrun := if_pos held

theorem evalFilled_full {s : State} {w : Win} {d : Descriptor} (free : (s.win w).held = false) (full : NoPlace s w d) :
    s.evalFilled w d = (s.modWin w fun x => { x with state := .blocked }).holdBack w .noticeFull := by
  unfold State.evalFilled
  rw [free, (askPlace_noPlace_iff s w d).2 full]
  rfl

theorem evalFilled_place {s : State} {w : Win} {d : Descriptor} (free : (s.win w).held = false) (place : ¬ NoPlace s w d) :
    s.evalFilled w d = (s.decideSwap w d (s.askPlace w d)).enqueueLoop w := by
  unfold State.evalFilled
  rw [free]
  rw [← askPlace_noPlace_iff] at place
  simp only [Bool.false_eq_true, if_false]

theorem evalOutput_full {s : State} {w : Win} {d : Descriptor} (committed : (s.win w).state = .committed)
    (full : NoPlace s w d) : s.evalOutput w d = s.holdBack w .noticeFull := by
  unfold State.evalOutput State.evalCommitted
  rw [committed, (askPlace_noPlace_iff s w d).2 full]

theorem evalOutput_place {s : State} {w : Win} {d : Descriptor} (committed : (s.win w).state = .committed)
    (place : ¬ NoPlace s w d) : s.evalOutput w d = s.decideSwap w d (s.askPlace w d) := by
  unfold State.evalOutput State.evalCommitted
  rw [committed]
  rw [← askPlace_noPlace_iff] at place
  simp only []

/-- Settles O28. -/
theorem pulseHoldsTheImageBack : Obligations.PulseHoldsTheImageBack := by
  intro s w boundary outputOnly noSwitch
  dsimp only
  rw [takePulse_eq_evaluate outputOnly noSwitch]
  refine ⟨evaluate_of_idle outputOnly, fun d use => ⟨fun only input => ?_, fun scope pending => ?_,
    fun scope noSwap ended => evaluate_ended use scope noSwap ended, fun only input noSwap complete => ⟨fun held => ?_,
    fun free full => ?_⟩, fun output noSwap committed full => ?_⟩⟩
  · rw [only, evaluate_out_of_scope use input]
  · rw [evaluate_in_scope use scope, if_pos pending, holdBack_eq]
  · rw [evaluate_input use (by simp [only]) noSwap input, evalInput_filled d complete, evalFilled_held d held,
      holdBack_blocked_eq]
  · rw [evaluate_input use (by simp [only]) noSwap input, evalInput_filled d complete, evalFilled_full free full,
      holdBack_blocked_eq]
  · rw [evaluate_output use (fun _ => output) noSwap output, evalOutput_full committed full, holdBack_eq]

/-! ## Swaps decided -/

theorem loopSource_eq_some_iff (s : State) (w : Win) (d : Descriptor) :
    s.loopSource w = some d ↔ (s.win w).inUse = some d ∧ d.kind = .output := by
  unfold State.loopSource
  cases (s.win w).inUse with
  | none => simp
  | some e =>
    by_cases output : e.kind = .output
    · simp only [output, if_true, Option.some_inj]
      exact ⟨fun same => ⟨same, same ▸ output⟩, And.left⟩
    · simp only [output, if_false, reduceCtorEq, false_iff, Option.some_inj]
      rintro ⟨rfl, k⟩
      exact output k

theorem hasJob_iff (s : State) (w : Win) : s.hasJob w = true ↔ ∃ j ∈ s.ce.jobs, j.dest = w := by
  simp [State.hasJob]

theorem job_eq_some_iff (s : State) (j : Job) : s.job = some j ↔ s.ce.running = true ∧ ∃ js, s.ce.jobs = j :: js := by
  simp [State.job, List.head?_eq_some_iff]

theorem readsFrom_iff (j : Job) (w : Win) : j.readsFrom w = true ↔ ∃ n, j.kind = .loop w n := by
  unfold Job.readsFrom
  cases j.kind <;> simp

theorem mem_swapWaits_iff (s : State) (w : Win) (k : Kind) (m : WaitMember) : m ∈ s.swapWaits w k ↔
    (m = .p ∧ ∃ a, s.pp.current = some a ∧ a.win = some w) ∨ (m = .f ∧ ∃ a, s.fp.inFlight = some a ∧ a.win = some w) ∨
    (k = .output ∧ ((m = .job w ∧ s.hasJob w = true) ∨ ∃ j n, s.job = some j ∧ j.kind = .loop w n ∧ m = .job j.dest)) := by
  have current : m ∈ (if s.pp.current.any (fun a => a.win == some w) then [WaitMember.p] else []) ↔
      m = .p ∧ ∃ a, s.pp.current = some a ∧ a.win = some w := by
    cases s.pp.current <;> simp [and_comm]
  have inFlight : m ∈ (if s.fp.inFlight.any (fun a => a.win == some w) then [WaitMember.f] else []) ↔
      m = .f ∧ ∃ a, s.fp.inFlight = some a ∧ a.win = some w := by
    cases s.fp.inFlight <;> simp [and_comm]
  have own : m ∈ (if s.hasJob w then [WaitMember.job w] else []) ↔ m = .job w ∧ s.hasJob w = true := by
    simp [and_comm]
  have reader : m ∈ (match s.job with
      | some j => if j.readsFrom w && j.dest != w then [WaitMember.job j.dest] else []
      | none => []) ↔ ∃ j n, s.job = some j ∧ j.kind = .loop w n ∧ j.dest ≠ w ∧ m = .job j.dest := by
    cases s.job with
    | none => simp
    | some j => simp [readsFrom_iff, and_assoc]
  have ownJob (j : Job) (job : s.job = some j) (dest : j.dest = w) : s.hasJob w = true := by
    obtain ⟨-, js, jobs⟩ := (job_eq_some_iff s j).1 job
    exact (hasJob_iff s w).2 ⟨j, by simp [jobs], dest⟩
  unfold State.swapWaits
  rw [List.mem_append, List.mem_append, current, inFlight, List.mem_ite_nil_right, List.mem_append, own, or_assoc]
  refine or_congr_right (or_congr_right (and_congr_right fun _ => (or_congr_right reader).trans ⟨?_, ?_⟩))
  · rintro (h | ⟨j, n, job, kind, -, same⟩)
    · exact .inl h
    · exact .inr ⟨j, n, job, kind, same⟩
  · rintro (h | ⟨j, n, job, kind, same⟩)
    · exact .inl h
    · by_cases dest : j.dest = w
      · exact .inl ⟨dest ▸ same, ownJob j job dest⟩
      · exact .inr ⟨j, n, job, kind, dest, same⟩

/-- The state in which a swap of `w` is decided and not yet performed, apart from the order of jobs (R13). -/
def swapMarked (s : State) (w : Win) (d : Descriptor) : State :=
  { s.setWin w { s.win w with
      swapPending := true, waitSet := s.swapWaits w d.kind, coalesced := d.cached && s.hasNotice w } with
    nu := { s.nu with reservations := s.nu.reservations ++ if d.cached && !s.hasNotice w then [w] else [] }
    cba := (s.touch (.win w)).cba }

theorem touch_setWin (s : State) (v : Win) (x : Window) (r : RecName) :
    (s.setWin v x).touch r = { s.setWin v x with cba := (s.touch r).cba } := by
  unfold State.touch
  split <;> simp_all [State.setWin]

/-- A decision marks the window, reserves a place where one is needed, and performs the swap where nothing is waited for. -/
theorem decideSwap_eq {s : State} {w : Win} {d : Descriptor} (place : ¬ NoPlace s w d) :
    s.decideSwap w d (s.askPlace w d) =
      let t := if .job w ∈ s.swapWaits w d.kind then (swapMarked s w d).makeUrgent w else swapMarked s w d
      if s.swapWaits w d.kind = [] then t.performSwap w else t := by
  have marked : (let t := (s.modWin w fun x => { x with
        swapPending := true, waitSet := s.swapWaits w d.kind
        coalesced := s.askPlace w d == .coalesced }).touch (.win w)
      if s.askPlace w d = .place then t.reserve w else t) = swapMarked s w d := by
    have coalesced : (s.askPlace w d == .coalesced) = (d.cached && s.hasNotice w) := by
      rw [askPlace_of_place place]
      cases d.cached <;> cases s.hasNotice w <;> rfl
    have reserves : s.askPlace w d = .place ↔ (d.cached && !s.hasNotice w) = true := by
      rw [askPlace_of_place place]
      cases d.cached <;> cases s.hasNotice w <;> simp
    simp only [coalesced, reserves, State.modWin, touch_setWin]
    unfold swapMarked
    split <;> simp [State.reserve]
  unfold State.decideSwap
  dsimp only at marked ⊢
  rw [marked]

theorem urgentOrder_eq (running : Bool) (w : Win) (js : List Job) :
    let inProgress := js.take (if running then 1 else 0)
    let behind := js.drop (if running then 1 else 0)
    let marked := fun (j : Job) => if j.dest = w then { j with urgent := true } else j
    urgentOrder running w js = inProgress.map marked ++ behind.filter (fun j => j.dest != w && j.urgent) ++
      (behind.filter fun j => j.dest == w).map marked ++ behind.filter fun j => j.dest != w && !j.urgent := by
  simp only [urgentOrder, List.filter_filter, beq_iff_eq]
  congr 3
  · exact List.filter_congr fun j _ => Bool.and_comm _ _
  · exact funext fun j => Bool.and_comm _ _

/-- A decision that waits for work in flight (R13). -/
theorem decideSwap_waiting {s : State} {w : Win} {d : Descriptor} (place : ¬ NoPlace s w d)
    (waits : s.swapWaits w d.kind ≠ []) : s.decideSwap w d (s.askPlace w d) =
      { swapMarked s w d with ce := { s.ce with
          jobs := if .job w ∈ s.swapWaits w d.kind then urgentOrder s.ce.running w s.ce.jobs else s.ce.jobs } } := by
  rw [decideSwap_eq place]
  dsimp only
  rw [if_neg waits]
  split <;> rfl

theorem decideSwap_performs {s : State} {w : Win} {d : Descriptor} (place : ¬ NoPlace s w d)
    (waits : s.swapWaits w d.kind = []) :
    s.decideSwap w d (s.askPlace w d) = (swapMarked s w d).performSwap w := by
  rw [decideSwap_eq place]
  simp [waits]

theorem filter_not_mem {l : List Win} {w : Win} (h : w ∉ l) : (l.filter fun v => v != w) = l :=
  List.filter_eq_self.2 fun v hv => by
    rw [bne_iff_ne]
    rintro rfl
    exact h hv

/-- FENCE of a window after its performance has filled its place (R16, R122). -/
def fenceFilled (s : State) (w : Win) : Bool :=
  (s.win w).fence || decide (w ∈ s.nu.reservations) || ((s.win w).coalesced && s.hasNotice w)

theorem win_fillPlace_eq (s : State) (w : Win) (d : Descriptor) (v : Win) : (s.fillPlace w d).win v =
    if v = w then { s.win w with fence := fenceFilled s w } else s.win v := by
  unfold State.fillPlace fenceFilled
  split
  next reserved => simp [reserved, noticeOf]
  next free =>
    split
    next queued => simp [queued]
    next quiet =>
      rw [Bool.not_eq_true] at quiet
      simp only [free, quiet, decide_false, Bool.or_false]
      split
      next own => rw [own]
      · rfl

theorem fillPlace_nu (s : State) (w : Win) (d : Descriptor) : (s.fillPlace w d).nu = { s.nu with
    queue := s.nu.queue ++ if w ∈ s.nu.reservations then [noticeOf w d] else []
    reservations := s.nu.reservations.filter fun v => v != w } := by
  unfold State.fillPlace
  split
  next reserved => simp
  next free => split <;> simp [free, filter_not_mem]

section
variable {s : State} {w : Win} {d : Descriptor} (use : (s.win w).inUse = some d)
include use

theorem win_performSwap_eq (v : Win) : (s.performSwap w).win v =
    if v = w then { (s.win w).swapped d s.cc.cycle with fence := fenceFilled s w } else s.win v := by
  have touched : (((s.fillPlace w d).modWin w fun x => x.swapped d s.cc.cycle).touch (.win w)).win v =
      if v = w then { (s.win w).swapped d s.cc.cycle with fence := fenceFilled s w } else s.win v := by
    rw [win_touch, win_modWin, win_fillPlace_eq, win_fillPlace_eq]
    split
    · rw [if_pos rfl]
      unfold Window.swapped
      cases d.kind <;> rfl
    · rfl
  unfold State.performSwap
  simp only [use]
  split
  · exact touched
  · rw [win_enqueueJob, touched]

theorem performSwap_nu : (s.performSwap w).nu = { s.nu with
    queue := s.nu.queue ++ if w ∈ s.nu.reservations then [noticeOf w d] else []
    reservations := s.nu.reservations.filter fun v => v != w } := by
  unfold State.performSwap
  simp only [use]
  split <;> simp [fillPlace_nu]

theorem performSwap_ce : (s.performSwap w).ce = { s.ce with
    jobs := s.ce.jobs ++
      if d.kind = .output ∧ s.hasJob w = false then [{ kind := .carry, dest := w, urgent := false }] else [] } := by
  unfold State.performSwap
  simp only [use]
  split
  next input => simp [input]
  next output =>
    have job : (((s.fillPlace w d).modWin w fun x => x.swapped d s.cc.cycle).touch (.win w)).hasJob w = s.hasJob w := by
      simp [State.hasJob]
    simp only [State.enqueueJob, job]
    cases s.hasJob w <;> simp [output]

theorem mem_dirty_performSwap : RecName.win w ∈ (s.performSwap w).cba.dirty := by
  unfold State.performSwap
  simp only [use]
  split
  · simp
  · simp [State.enqueueJob]
    split <;> simp

end

/-- `t` differs from `s` in windows, notices, copy jobs, cause flags and the dirty set alone. -/
def Framed (s t : State) : Prop :=
  t = { s with windows := t.windows, nu := t.nu, ce := t.ce
               cba := { s.cba with causes := t.cba.causes, dirty := t.cba.dirty } }

theorem framed_iff (s t : State) : Framed s t ↔
    (t.lines = s.lines ∧ t.cc = s.cc ∧ t.pp = s.pp ∧ t.fp = s.fp ∧ t.mp = s.mp ∧ t.mem = s.mem ∧ t.free = s.free ∧
      t.pending = s.pending) ∧
    t.cba.result = s.cba.result ∧ t.cba.writeback = s.cba.writeback ∧ t.cba.request = s.cba.request ∧
      t.cba.turn = s.cba.turn ∧ t.cba.published = s.cba.published ∧ t.cba.config = s.cba.config ∧
      t.cba.load = s.cba.load ∧ t.cba.loadQueue = s.cba.loadQueue ∧ t.cba.fetch = s.cba.fetch := by
  obtain ⟨-, -, -, -, -, -, -, ⟨-, -, -, -, -, -, -, -, -, -, -⟩, -, -, -, -⟩ := t
  simp only [Framed, State.mk.injEq, ControlBlockAgent.mk.injEq, true_and]
  tauto

theorem Framed.trans {s t u : State} (first : Framed s t) (second : Framed t u) : Framed s u := by
  rw [framed_iff] at *
  simp [second, first]

theorem Framed.of_causes {s t : State} (h : Framed s t) (causes : t.cba.causes = s.cba.causes) :
    t = { s with windows := t.windows, nu := t.nu, ce := t.ce, cba := { s.cba with dirty := t.cba.dirty } } := by
  unfold Framed at h
  rw [causes] at h
  exact h

theorem framed_setWin (s : State) (w : Win) (x : Window) : Framed s (s.setWin w x) := by simp [framed_iff]
theorem framed_modWin (s : State) (w : Win) (f : Window → Window) : Framed s (s.modWin w f) := by simp [framed_iff]
theorem framed_touch (s : State) (r : RecName) : Framed s (s.touch r) := by simp [framed_iff]
theorem framed_event (s : State) (w : Win) (e : WEvent) : Framed s (s.event w e) := by simp [framed_iff]
theorem framed_endJob (s : State) (w : Win) : Framed s (s.endJob w) := by simp [framed_iff]
theorem framed_enqueueNotice (s : State) (n : Notice) : Framed s (s.enqueueNotice n) := by simp [framed_iff]
theorem framed_enqueueLoop (s : State) (w : Win) : Framed s (s.enqueueLoop w) := by simp [framed_iff]
theorem framed_performSwap (s : State) (w : Win) : Framed s (s.performSwap w) := by simp [framed_iff]

theorem swapMarked_eq (s : State) (w : Win) (d : Descriptor) : swapMarked s w d =
    { s.setWin w { s.win w with
        swapPending := true, waitSet := s.swapWaits w d.kind, coalesced := d.cached && s.hasNotice w } with
      nu := { s.nu with reservations := s.nu.reservations ++ if d.cached && !s.hasNotice w then [w] else [] }
      cba := { s.cba with dirty := (swapMarked s w d).cba.dirty } } := by
  unfold swapMarked
  rw [touch_eq]

theorem win_swapMarked (s : State) (w : Win) (d : Descriptor) (v : Win) : (swapMarked s w d).win v =
    if v = w then { s.win w with
      swapPending := true, waitSet := s.swapWaits w d.kind, coalesced := d.cached && s.hasNotice w } else s.win v := by
  rw [swapMarked_eq]
  exact win_setWin ..

theorem mem_dirty_swapMarked (s : State) (w : Win) (d : Descriptor) : RecName.win w ∈ (swapMarked s w d).cba.dirty :=
  (mem_dirty_touch s _ _).2 (.inr rfl)

theorem inUse_swapMarked (s : State) (w : Win) (d : Descriptor) (v : Win) :
    ((swapMarked s w d).win v).inUse = (s.win v).inUse := by
  rw [win_swapMarked]
  split
  next own => rw [own]; rfl
  · rfl

/-- A loop window that is not FILLING asks for no job (R56). -/
theorem enqueueLoop_of_not_filling {s : State} {w : Win} (h : (s.win w).state ≠ .filling) : s.enqueueLoop w = s := by
  unfold State.enqueueLoop
  split
  · rfl
  · exact if_neg fun k => h k.2.2.1

/-- What a pulse does at a window that is free to swap its image (R50, R72). -/
theorem evaluate_decides {s : State} {w : Win} {d : Descriptor} {o : Bool} (use : (s.win w).inUse = some d)
    (noSwap : (s.win w).swapPending = false)
    (complete : (d.kind = .output ∧ (s.win w).state = .committed) ∨
      (o = false ∧ d.kind = .input ∧ ((s.win w).state = .filled ∨ (s.win w).state = .blocked) ∧ (s.win w).held = false))
    (place : ¬ NoPlace s w d) : s.evaluate o w =
      match d.kind with
      | .input => (s.decideSwap w d (s.askPlace w d)).enqueueLoop w
      | .output => s.decideSwap w d (s.askPlace w d) := by
  rcases complete with ⟨output, committed⟩ | ⟨rfl, input, full, free⟩
  · rw [evaluate_output use (fun _ => output) noSwap output, evalOutput_place committed place, output]
  · rw [evaluate_input use (o := false) nofun noSwap input, evalInput_filled d full, evalFilled_place free place, input]

/-- The part of O29 with work of the window in flight. -/
theorem evaluate_decides_waiting {s : State} {w : Win} {d : Descriptor} {o : Bool} (use : (s.win w).inUse = some d)
    (noSwap : (s.win w).swapPending = false)
    (complete : (d.kind = .output ∧ (s.win w).state = .committed) ∨
      (o = false ∧ d.kind = .input ∧ ((s.win w).state = .filled ∨ (s.win w).state = .blocked) ∧ (s.win w).held = false))
    (place : ¬ NoPlace s w d) (waits : s.swapWaits w d.kind ≠ []) : s.evaluate o w =
      { swapMarked s w d with ce := { s.ce with
          jobs := if .job w ∈ s.swapWaits w d.kind then urgentOrder s.ce.running w s.ce.jobs else s.ce.jobs } } := by
  rw [evaluate_decides use noSwap complete place, decideSwap_waiting place waits]
  cases kind : d.kind with
  | output => rfl
  | input =>
    refine enqueueLoop_of_not_filling ?_
    have state : ((swapMarked s w d).win w).state = (s.win w).state := by rw [win_swapMarked, if_pos rfl]
    rcases complete with ⟨output, -⟩ | ⟨-, -, full, -⟩
    · simp [kind] at output
    · show ((swapMarked s w d).win w).state ≠ .filling
      rw [state]
      rcases full with full | full <;> simp [full]

/-! ## Swaps performed by the pulse -/

section
variable {s : State} {w : Win} {d : Descriptor} (use : (s.win w).inUse = some d) (free : w ∉ s.nu.reservations)
include free

theorem mem_reservations_swapMarked :
    w ∈ (swapMarked s w d).nu.reservations ↔ (d.cached && !s.hasNotice w) = true := by
  rw [swapMarked_eq]
  simp only [List.mem_append, free, false_or, List.mem_ite_nil_right, List.mem_singleton, and_true]

theorem filter_reservations_swapMarked :
    ((swapMarked s w d).nu.reservations.filter fun v => v != w) = s.nu.reservations := by
  rw [swapMarked_eq]
  simp only [List.filter_append, filter_not_mem free]
  split <;> simp

theorem fenceFilled_swapMarked : fenceFilled (swapMarked s w d) w = ((s.win w).fence || d.cached) := by
  have notice : (swapMarked s w d).hasNotice w = s.hasNotice w := by rw [swapMarked_eq]; rfl
  have fence : ((swapMarked s w d).win w).fence = (s.win w).fence := by rw [win_swapMarked, if_pos rfl]
  have coalesced : ((swapMarked s w d).win w).coalesced = (d.cached && s.hasNotice w) := by rw [win_swapMarked, if_pos rfl]
  unfold fenceFilled
  rw [notice, fence, coalesced]
  simp only [mem_reservations_swapMarked free]
  cases (s.win w).fence <;> cases cached : d.cached <;> cases s.hasNotice w <;> simp

include use

theorem win_performed (v : Win) : ((swapMarked s w d).performSwap w).win v =
    if v = w then { (s.win w).swapped d s.cc.cycle with fence := (s.win w).fence || d.cached } else s.win v := by
  rw [win_performSwap_eq ((inUse_swapMarked s w d w).trans use), fenceFilled_swapMarked free, win_swapMarked, if_pos rfl]
  split
  · rw [swapMarked_eq]
    unfold Window.swapped
    cases d.kind <;> rfl
  next other => rw [win_swapMarked, if_neg other]

theorem performed_nu : ((swapMarked s w d).performSwap w).nu = { s.nu with
    queue := s.nu.queue ++
      if d.cached && !s.hasNotice w then [{ win := w, base := d.pview, len := noticeLen d }] else [] } := by
  rw [performSwap_nu ((inUse_swapMarked s w d w).trans use), filter_reservations_swapMarked free]
  simp only [mem_reservations_swapMarked free, noticeOf_eq]
  rw [swapMarked_eq]

omit free in
theorem performed_ce : ((swapMarked s w d).performSwap w).ce = { s.ce with
    jobs := s.ce.jobs ++
      if d.kind = .output ∧ s.hasJob w = false then [{ kind := .carry, dest := w, urgent := false }] else [] } := by
  have job : (swapMarked s w d).hasJob w = s.hasJob w := by rw [swapMarked_eq]; rfl
  rw [performSwap_ce ((inUse_swapMarked s w d w).trans use), job]
  rfl

theorem inUse_performed (v : Win) : (((swapMarked s w d).performSwap w).win v).inUse = (s.win v).inUse := by
  rw [win_performed use free]
  split
  next own =>
    obtain ⟨notIdle, -⟩ := inUse_eq_some.mp use
    subst own
    refine inUse_congr (by simp) (by simp) (by simp) ?_
    cases kind : d.kind <;> simp [Window.swapped, kind, notIdle]
  · rfl

end

theorem carryMarks_eq (d : Descriptor) : d.buffered =
    (List.range d.len).filter fun k => !(decide (d.liveOff ≤ k ∧ k < d.liveOff + d.liveLen)) := by
  simp [Descriptor.buffered, Descriptor.live]

theorem framed_swapMarked (s : State) (w : Win) (d : Descriptor) : Framed s (swapMarked s w d) := by
  rw [swapMarked_eq]
  simp [framed_iff]

theorem performSwap_causes (s : State) (w : Win) : (s.performSwap w).cba.causes = s.cba.causes := by simp

/-- What is kept by a pulse that decides a swap, beside windows, notices and jobs. -/
theorem performed_frame {s t : State} {w : Win} {d : Descriptor}
    (h : t = (swapMarked s w d).performSwap w ∨ t = ((swapMarked s w d).performSwap w).enqueueLoop w) :
    t = { s with windows := t.windows, nu := t.nu, ce := t.ce, cba := { s.cba with dirty := t.cba.dirty } } := by
  have performed : Framed s ((swapMarked s w d).performSwap w) := (framed_swapMarked s w d).trans (framed_performSwap ..)
  have causes : ((swapMarked s w d).performSwap w).cba.causes = s.cba.causes := by
    rw [performSwap_causes, swapMarked_eq]
  rcases h with rfl | rfl
  · exact performed.of_causes causes
  · exact (performed.trans (framed_enqueueLoop ..)).of_causes ((enqueueLoop_causes ..).trans causes)

theorem mem_dirty_performed {s : State} {w : Win} {d : Descriptor} (use : (s.win w).inUse = some d) :
    RecName.win w ∈ ((swapMarked s w d).performSwap w).cba.dirty :=
  mem_dirty_performSwap ((inUse_swapMarked s w d w).trans use)

section
variable {s : State} {w : Win} {d : Descriptor} (use : (s.win w).inUse = some d) (input : d.kind = .input)
  (free : w ∉ s.nu.reservations)
include use input free

theorem state_performed_input : (((swapMarked s w d).performSwap w).win w).state = .filling := by
  rw [win_performed use free, if_pos rfl]
  simp [Window.swapped, input]

omit free in
theorem performed_input_jobs : ((swapMarked s w d).performSwap w).ce = s.ce := by
  rw [performed_ce use]
  simp [input]

omit free in
theorem hasJob_performed_input (v : Win) : ((swapMarked s w d).performSwap w).hasJob v = s.hasJob v := by
  unfold State.hasJob
  rw [performed_input_jobs use input]

/-- The windows after the swap of an input window, with the word that a loop window without a source records (R56). -/
theorem win_performed_loop (v : Win) : (((swapMarked s w d).performSwap w).enqueueLoop w).win v =
    if v = w then
      { (s.win w).swapped d s.cc.cycle with
        fence := (s.win w).fence || d.cached
        events := if d.loop ∧ ¬ s.hasJob w ∧ (s.loopSource d.loopSrc).isNone then
          (s.win w).events ||| WEvent.mask .loopNosrc else (s.win w).events }
    else s.win v := by
  have source := loopSource_congr (v := d.loopSrc) (inUse_performed use free d.loopSrc)
  have job := hasJob_performed_input use input w
  have use' := (inUse_performed use free w).trans use
  cases busy : s.hasJob w with
  | true =>
    have kept : ((swapMarked s w d).performSwap w).enqueueLoop w = (swapMarked s w d).performSwap w := by
      unfold State.enqueueLoop
      simp [use', job, busy]
    rw [kept, win_performed use free]
    simp
  | false =>
    rw [win_enqueueLoop_eq use' input (job.trans busy), source, state_performed_input use input free]
    by_cases own : v = w
    · rw [if_pos own, if_pos own, win_performed use free, if_pos rfl]
      cases d.loop <;> cases s.loopSource d.loopSrc <;> simp
    · rw [if_neg own, if_neg own, win_performed use free, if_neg own]

theorem performed_loop_ce : (((swapMarked s w d).performSwap w).enqueueLoop w).ce = { s.ce with
    jobs := s.ce.jobs ++ if d.loop ∧ ¬ s.hasJob w ∧ (s.loopSource d.loopSrc).isSome then
      [{ kind := .loop d.loopSrc 0, dest := w, urgent := false }] else [] } := by
  have source := loopSource_congr (v := d.loopSrc) (inUse_performed use free d.loopSrc)
  have job := hasJob_performed_input use input w
  have use' := (inUse_performed use free w).trans use
  have ce := performed_input_jobs use input
  cases busy : s.hasJob w with
  | true =>
    have kept : ((swapMarked s w d).performSwap w).enqueueLoop w = (swapMarked s w d).performSwap w := by
      unfold State.enqueueLoop
      simp [use', job, busy]
    rw [kept, ce]
    simp
  | false =>
    have jobs := enqueueLoop_jobs use' input (job.trans busy)
    rw [source, state_performed_input use input free, ce] at jobs
    have keeps := enqueueLoop_keeps ((swapMarked s w d).performSwap w) w
    generalize (((swapMarked s w d).performSwap w).enqueueLoop w).ce = ce' at keeps jobs ⊢
    cases ce'
    simp_all

end

/-- A swap of an output window that waits for nothing finds no job of the window (R13). -/
theorem not_hasJob_of_no_waits {s : State} {w : Win} (h : s.swapWaits w .output = []) : s.hasJob w = false := by
  rw [← Bool.not_eq_true]
  intro job
  have : WaitMember.job w ∈ s.swapWaits w .output := (mem_swapWaits_iff ..).2 (.inr (.inr ⟨rfl, .inl ⟨rfl, job⟩⟩))
  simp [h] at this

theorem mem_dirty_evaluate_decides {s : State} {w : Win} {d : Descriptor} {o : Bool} (use : (s.win w).inUse = some d)
    (noSwap : (s.win w).swapPending = false)
    (complete : (d.kind = .output ∧ (s.win w).state = .committed) ∨
      (o = false ∧ d.kind = .input ∧ ((s.win w).state = .filled ∨ (s.win w).state = .blocked) ∧ (s.win w).held = false))
    (place : ¬ NoPlace s w d) : RecName.win w ∈ (s.evaluate o w).cba.dirty := by
  by_cases waits : s.swapWaits w d.kind = []
  · rw [evaluate_decides use noSwap complete place, decideSwap_performs place waits]
    cases d.kind with
    | input => exact mem_dirty_enqueueLoop w (mem_dirty_performed use)
    | output => exact mem_dirty_performed use
  · rw [evaluate_decides_waiting use noSwap complete place waits]
    exact mem_dirty_swapMarked s w d

/-- Settles O29. -/
theorem pulseDecidesTheSwap : Obligations.PulseDecidesTheSwap := by
  refine ⟨fun s w => ⟨loopSource_eq_some_iff s w, hasNotice_iff s w, hasJob_iff s w, job_eq_some_iff s⟩, ?_⟩
  intro s w d boundary outputOnly noSwitch use noSwap complete place
  dsimp only
  rw [takePulse_eq_evaluate outputOnly noSwitch]
  refine ⟨mem_dirty_evaluate_decides use noSwap complete place, mem_swapWaits_iff s w d.kind, fun waits => ?_, fun waits free => ?_⟩
  · rw [evaluate_decides_waiting use noSwap complete place waits, ← urgentOrder_eq, swapMarked_eq]
  · have decided := evaluate_decides use noSwap complete place
    rw [decideSwap_performs place waits] at decided
    cases kind : d.kind with
    | input =>
      rw [kind] at decided
      rw [decided]
      refine ⟨fun v other => ?_, ?_, fun _ => ⟨?_, ?_⟩, nofun, ?_⟩
      · rw [win_performed_loop use kind free, if_neg other]
      · rw [(enqueueLoop_keeps ..).2.2.2.2.1]
        exact performed_nu use free
      · rw [win_performed_loop use kind free, if_pos rfl]
        simp [Window.swapped, kind]
      · exact performed_loop_ce use kind free
      · exact performed_frame (.inr rfl)
    | output =>
      rw [kind] at decided
      rw [decided]
      refine ⟨fun v other => ?_, ?_, nofun, fun _ => ⟨?_, ?_⟩, ?_⟩
      · rw [win_performed use free, if_neg other]
      · exact performed_nu use free
      · rw [win_performed use free, if_pos rfl, ← carryMarks_eq]
        simp [Window.swapped, kind]
      · have noJob := not_hasJob_of_no_waits (kind ▸ waits)
        rw [performed_ce use, if_pos ⟨kind, noJob⟩]
      · exact performed_frame (.inl rfl)

end Sys2Proof.Laws
end

section
/-! The context switch that a group boundary takes or defers (chapter 9.4). -/

namespace Sys2Proof.Laws

open Sys2Proof Sys2Proof.Machine Sys2Proof.Safety

theorem switchBusy_iff (s : State) (w : Win) : s.switchBusy w = true ↔
    (∃ a, s.pp.current = some a ∧ a.win = some w) ∨ (∃ a, s.fp.inFlight = some a ∧ a.win = some w) ∨
      s.mp.grant.copyDest = some w := by
  unfold State.switchBusy
  cases s.pp.current <;> cases s.fp.inFlight <;> simp [or_assoc]

/-- Tests 1 and 2 of R138, and its test 3 for the view being left, decide whether a switch is deferred. -/
theorem switchAnswer_eq_none_iff (s : State) (w : Win) : s.switchAnswer w = none ↔
    ((s.win w).swapPending = true ∨ (∃ a, s.pp.current = some a ∧ a.win = some w) ∨
      (∃ a, s.fp.inFlight = some a ∧ a.win = some w) ∨ s.mp.grant.copyDest = some w) ∨
    ∃ d, (s.win w).inUse = some d ∧ NoPlace s w d := by
  rw [← switchBusy_iff]
  unfold State.switchAnswer
  by_cases busy : ((s.win w).swapPending || s.switchBusy w) = true
  · simp [busy, ← Bool.or_eq_true]
  · rw [if_neg busy, ← Bool.or_eq_true, or_iff_right busy]
    cases (s.win w).inUse with
    | none => simp
    | some d =>
      simp only [Option.some_inj, exists_eq_left', ← askPlace_noPlace_iff]
      cases s.askPlace w d <;> simp

/-- Whether the view that window `w` leaves owes a notice for which a place is taken (R123, R138). -/
def leavesNotice (s : State) (w : Win) : Bool := (s.win w).inUse.any fun d => d.cached && !s.hasNotice w

/-- The notices of the view that window `w` leaves. -/
def leftNotices (s : State) (w : Win) : List Notice :=
  match (s.win w).inUse with
  | some d => if d.cached ∧ ¬ s.hasNotice w then [{ win := w, base := d.pview, len := noticeLen d }] else []
  | none => []

theorem setWin_win (s : State) (w : Win) : s.setWin w (s.win w) = s := by
  cases s
  simp [State.setWin, State.win]

theorem noticeOld_of_answer {s : State} {w : Win} {a : PlaceAnswer} (answer : s.switchAnswer w = some a) :
    s.noticeOld w a =
      { s.setWin w { s.win w with fence := (s.win w).fence || leavesNotice s w } with
        nu := { s.nu with queue := s.nu.queue ++ leftNotices s w } } := by
  have kept (quiet : leavesNotice s w = false) (none : leftNotices s w = []) :
      s = { s.setWin w { s.win w with fence := (s.win w).fence || leavesNotice s w } with
        nu := { s.nu with queue := s.nu.queue ++ leftNotices s w } } := by
    rw [quiet, none, Bool.or_false, List.append_nil]
    exact (setWin_win s w).symm
  obtain ⟨-, -, idle | ⟨d, use, asked, place⟩⟩ := switchAnswer_some answer
  · obtain ⟨none, rfl⟩ := idle
    exact kept (by simp [leavesNotice, none]) (by simp [leftNotices, none])
  · have free : ¬ NoPlace s w d := by rwa [← askPlace_noPlace_iff, asked]
    rw [askPlace_of_place free] at asked
    subst asked
    cases cached : d.cached with
    | false => exact kept (by simp [leavesNotice, use, cached]) (by simp [leftNotices, use, cached])
    | true =>
      cases notice : s.hasNotice w with
      | true => exact kept (by simp [leavesNotice, use, notice]) (by simp [leftNotices, use, notice])
      | false =>
        have leaves : leavesNotice s w = true := by simp [leavesNotice, use, cached, notice]
        have left : leftNotices s w = [noticeOf w d] := by simp [leftNotices, use, cached, notice, noticeOf_eq]
        rw [leaves, left, Bool.or_true]
        simp only [if_true, Bool.false_eq_true, if_false, State.noticeOld, use]
        rfl

/-- The record of a window that a switch takes to its other slot (R139). -/
theorem switched_eq (x : Window) :
    let y := { x with
      active := if x.active = SlotName.a then .b else .a
      switchPending := false, role := false, valid := false, held := false, safe := false, miss := 0, carry := [] }
    x.switched =
      match (if x.active = SlotName.a then x.slotB else x.slotA) with
      | some d =>
        if d.enable then
          { y with
            state := if d.kind = Kind.input then .filling else .composing
            fill := if d.kind = Kind.input then d.expect else 0 }
        else { y with state := .idle, fill := 0 }
      | none => { y with state := .idle, fill := 0 } := by
  have desc : x.flipped.desc = if x.active = .a then x.slotB else x.slotA := by
    cases active : x.active <;> simp [Window.flipped, Window.desc, Window.slot, SlotName.other, active]
  have active : x.active.other = if x.active = SlotName.a then .b else .a := by cases x.active <;> rfl
  dsimp only
  rw [← desc, ← active]
  unfold Window.switched
  cases x.flipped.desc with
  | none => rfl
  | some d =>
    simp only []
    split
    · cases kind : d.kind <;> simp [Window.primed, Window.flipped, kind]
    · rfl

theorem switched_marks (x : Window) (fence : Bool) (waitSet : List WaitMember) :
    ({ x with fence := fence, waitSet := waitSet } : Window).switched =
      { x.switched with fence := fence, waitSet := waitSet } := by
  rw [switched_eq, switched_eq]
  dsimp only
  cases (if x.active = SlotName.a then x.slotB else x.slotA) with
  | none => rfl
  | some d => cases enable : d.enable <;> simp [enable]

theorem takeSwitch_causes (s : State) (w : Win) (a : PlaceAnswer) :
    (s.takeSwitch w a).cba.causes = s.cba.causes ||| Cause.mask .switched := by
  simp [State.takeSwitch, event_causes, WEvent.cause]

section
variable {s : State} {w : Win} {a : PlaceAnswer} (answer : s.switchAnswer w = some a)
include answer

theorem win_takeSwitch (v : Win) : (s.takeSwitch w a).win v =
    { (if v = w then { (s.win w).switched with
        fence := (s.win w).fence || leavesNotice s w, events := (s.win w).events ||| WEvent.mask .switched }
      else s.win v) with waitSet := jobsLeave (if s.hasJob w then [w] else []) (s.win v).waitSet } := by
  have job : (s.noticeOld w a).hasJob w = s.hasJob w := by rw [noticeOld_of_answer answer]; rfl
  have win (v : Win) : (s.noticeOld w a).win v = if v = w then { s.win w with fence := (s.win w).fence || leavesNotice s w }
      else s.win v := by
    rw [noticeOld_of_answer answer]
    exact win_setWin ..
  rw [State.takeSwitch, win_event, win_modWin, win_modWin, if_pos rfl, win_endJob_jobsLeave, win_endJob_jobsLeave, job]
  simp only [win]
  by_cases own : v = w
  · subst own
    simp only [if_true]
    rw [switched_marks]
    simp
  · simp only [if_neg own]

omit answer in
theorem takeSwitch_ce : (s.takeSwitch w a).ce = withoutJobs s.ce fun v => v == w := by

  simp [State.takeSwitch, endJob_ce]

theorem takeSwitch_nu : (s.takeSwitch w a).nu = { s.nu with queue := s.nu.queue ++ leftNotices s w } := by
  simp [State.takeSwitch, noticeOld_of_answer answer]

theorem takeSwitch_frame : s.takeSwitch w a = { s with
    windows := (s.takeSwitch w a).windows
    nu := { s.nu with queue := s.nu.queue ++ leftNotices s w }
    ce := withoutJobs s.ce fun v => v == w
    cba := { s.cba with
      causes := s.cba.causes ||| Cause.mask .switched, dirty := (s.takeSwitch w a).cba.dirty } } := by
  have noticed : Framed s (s.noticeOld w a) := by
    rw [noticeOld_of_answer answer]
    simp [framed_iff]
  have framed : Framed s (s.takeSwitch w a) :=
    ((noticed.trans (framed_endJob _ w)).trans (framed_modWin _ w _)).trans (framed_event _ w _)
  unfold Framed at framed
  rwa [takeSwitch_nu answer, takeSwitch_ce, takeSwitch_causes] at framed

end

/-- Settles O30. -/
theorem switchAtABoundary : Obligations.SwitchAtABoundary := by
  intro s w outputOnly pending
  dsimp only
  rw [← switchAnswer_eq_none_iff]
  refine ⟨fun late => ⟨?_, ?_⟩, fun answered => ?_⟩
  · simp [State.takePulse, pending, late]
  · simpa using pending
  · obtain ⟨a, answer⟩ := Option.ne_none_iff_exists'.1 answered
    have taken : s.takePulse true outputOnly w = s.takeSwitch w a := by simp [State.takePulse, pending, answer]
    rw [taken]
    refine ⟨?_, ?_, ?_, fun v other => ?_, takeSwitch_frame answer⟩
    · rw [win_takeSwitch answer, if_pos rfl, switched_eq]
      dsimp only
      cases (if (s.win w).active = SlotName.a then (s.win w).slotB else (s.win w).slotA) with
      | none => rfl
      | some d => cases enable : d.enable <;> simp [enable, leavesNotice]
    · simp [State.takeSwitch, mem_dirty_event]
    · simp [State.takeSwitch, mem_dirty_event, WEvent.cause]
    · rw [win_takeSwitch answer, if_neg other]

end Sys2Proof.Laws
end

section
/-! Accesses: how they are taken, how they are classified at issue, and how stalled ones wait (chapters 6 and 7). -/

namespace Sys2Proof.Laws

open Sys2Proof Sys2Proof.Machine Sys2Proof.Safety

/-! ## Events with a known effect -/

theorem act_ends_of_eq {f : State → State} {s u : State} (rst : s.lines.rst = false) (effect : f s = u) :
    ∃ t, act f s = .next t ∧ EndsIn t u := effect ▸ act_ends f rst

theorem act_ends_of_endsIn {f : State → State} {s u : State} (rst : s.lines.rst = false) (effect : EndsIn (f s) u) :
    ∃ t, act f s = .next t ∧ EndsIn t u := by
  obtain ⟨t, next, ends⟩ := act_ends f rst
  exact ⟨t, next, endsIn_trans ends effect⟩

/-! ## Taking -/

/-- Settles O31. -/
theorem accessesAreTaken : Obligations.AccessesAreTaken := by
  intro s a be d rst
  refine ⟨fun room free => act_ends_of_eq rst ?_, fun blocked => act_ends_of_eq rst ?_,
    fun empty none free => act_ends_of_eq rst ?_, fun busy => act_ends_of_eq rst ?_⟩
  · exact if_pos ⟨room, free⟩
  · exact if_neg fun taken => blocked.elim (Nat.not_le.2 taken.1) fun reads => reads taken.2
  · exact if_pos ⟨empty, none, free⟩
  · refine if_neg fun taken => ?_
    obtain ⟨empty, none, free⟩ := taken
    simp_all

/-! ## Issue -/

theorem issueP_of_write {s : State} {x : PWrite} {rest : List PWrite} (h : WriteAtIssue s x rest) :
    s.issueP = s.issueWrite x rest := by
  simp [State.issueP, State.fenceStands, h.current, h.running, h.fenced, h.head]

theorem issueP_of_read {s : State} {r : PRead} (h : ReadAtIssue s r) : s.issueP = s.issueRead r := by
  simp [State.issueP, State.fenceStands, h.current, h.running, h.fenced, h.empty, h.slot]

theorem issueWrite_ends {s u : State} {x : PWrite} {rest : List PWrite} (h : WriteAtIssue s x rest)
    (effect : s.issueWrite x rest = u) : ∃ t, exec (.accessIssue .p) s = .next t ∧ EndsIn t u :=
  act_ends_of_eq (f := fun s => s.issue .p) h.rst ((issueP_of_write h).trans effect)

theorem issueRead_ends {s u : State} {r : PRead} (h : ReadAtIssue s r) (effect : s.issueRead r = u) :
    ∃ t, exec (.accessIssue .p) s = .next t ∧ EndsIn t u :=
  act_ends_of_eq (f := fun s => s.issue .p) h.rst ((issueP_of_read h).trans effect)

theorem issue_f_of_free {s : State} (free : FieldPortFree s) (a : Access) :
    s.issue (.f a) = s.reachF { a with addr := wordAddr a.addr } := by
  simp [State.issue, free.port]

theorem reachF_of_free {s : State} {a : Access} (free : FieldPortFree s) (open_ : s.stalls .f a.write a.addr = false) :
    s.reachF a = s.issueF a := by
  have port : ({ s with fp := { s.fp with held := none } } : State) = s := by
    have := free.port
    cases s
    simp_all
  rw [State.reachF, open_, port]
  rfl

theorem issueF_ends {s u : State} {a : Access} (free : FieldPortFree s)
    (open_ : s.stalls .f a.write (wordAddr a.addr) = false)
    (effect : EndsIn (s.issueF { a with addr := wordAddr a.addr }) u) :
    ∃ t, exec (.accessIssue (.f a)) s = .next t ∧ EndsIn t u := by
  refine act_ends_of_endsIn (f := fun s => s.issue (.f a)) free.rst ?_
  rw [issue_f_of_free free, reachF_of_free free open_]
  exact effect

/-! ## Stalls -/

theorem stalls_of_resetting {s : State} (h : s.cc.state = .resetting) (q : Port) (write : Bool) (a : Addr) :
    s.stalls q write a = true := by
  simp [State.stalls, h]

theorem stalls_window {s : State} {q : Port} {a : Addr} {w : Win} {d : Descriptor} (running : s.cc.state ≠ .resetting)
    (h : InWindow s q a w d) (write : Bool) : s.stalls q write a = s.windowStalls q w := by
  simp [State.stalls, running, classify_window h]

theorem windowStalls_iff (s : State) (q : Port) (w : Win) :
    s.windowStalls q w = true ↔ (s.win w).swapPending = true ∨ (q = .p ∧ (s.win w).fence = true) := by
  simp [State.windowStalls]

theorem cbClass_ne_window (off : Nat) (write : Bool) (w : Win) : cbClass off write ≠ .window w := by
  unfold cbClass
  split
  · cases write <;> nofun
  · split
    · cases write <;> nofun
    · split
      · cases write <;> nofun
      · nofun

/-- A class that is no window access (R89, tests 1 to 3). -/
theorem classify_ne_window {s : State} {q : Port} {a : Addr}
    (h : s.memSize ≤ a.toNat ∨ s.inCB a = true ∨ s.cc.state = .stopped ∨ s.cc.state = .loading ∨
      ∀ w, s.inView q a w = false) (write : Bool) (w : Win) : s.classify q write a ≠ .window w := by
  unfold State.classify
  split
  · nofun
  next inMemory =>
    split
    · cases q with
      | p => exact cbClass_ne_window _ _ _
      | f => nofun
    next outside =>
      split
      · nofun
      next decoding =>
        rw [find_none (p := s.inView q a)]
        · simp only []
          split <;> nofun
        · rcases h with h | h | h | h | h
          · exact absurd h inMemory
          · exact absurd h outside
          · simp [h, CState.passes] at decoding
          · simp [h, CState.passes] at decoding
          · exact h

theorem stalls_of_ne_window {s : State} {q : Port} {write : Bool} {a : Addr} (running : s.cc.state ≠ .resetting)
    (h : ∀ w, s.classify q write a ≠ .window w) : s.stalls q write a = false := by
  have : (s.cc.state == .resetting) = false := by simpa using running
  rw [State.stalls, this, Bool.false_or]
  split
  next w window => exact absurd window (h w)
  · rfl

theorem issueWrite_stalled {s : State} {x : PWrite} {w : Win} {d : Descriptor} (rest : List PWrite)
    (h : InWindow s .p x.addr w d) (stalled : (s.win w).swapPending = true ∨ (s.win w).fence = true) :
    s.issueWrite x rest = s := by
  have stalls : s.windowStalls .p w = true := (windowStalls_iff ..).2 (stalled.imp_right fun f => ⟨rfl, f⟩)
  unfold State.issueWrite
  rw [classify_window h]
  exact if_pos stalls

theorem issueRead_stalled {s : State} {r : PRead} {w : Win} {d : Descriptor} (h : InWindow s .p r.addr w d)
    (stalled : (s.win w).swapPending = true ∨ (s.win w).fence = true) : s.issueRead r = s := by
  have stalls : s.windowStalls .p w = true := (windowStalls_iff ..).2 (stalled.imp_right fun f => ⟨rfl, f⟩)
  unfold State.issueRead
  rw [classify_window h]
  exact if_pos stalls

theorem fenceStands_iff (s : State) : s.fenceStands = true ↔
    ∃ w, s.pp.fenced = some w ∧ (s.win w).fence = true ∧ (s.win w).inUse ≠ none := by
  simp [State.fenceStands, State.fenceHolds, Option.any_eq_true, Option.isSome_iff_ne_none]

theorem headStalls_of_fenceStands {s : State} (h : s.fenceStands = true) : s.headStalls = true := by
  simp [State.headStalls, h]

/-! ## The FENCE of the access next in order -/

theorem headFence_of_busy {s : State} (h : s.pp.current ≠ none ∨ s.cc.state = .resetting) : s.headFence = none := by
  refine if_pos ?_
  simpa [Option.isSome_iff_ne_none] using h

theorem headFence_window {s : State} {w : Win} (idle : s.pp.current = none) (running : s.cc.state ≠ .resetting)
    (h : s.headClass = some (.window w)) :
    s.headFence = if (s.win w).swapPending = false ∧ (s.win w).fence = true then some w else none := by
  simp [State.headFence, idle, running, h]

/-- An access that does not stall stands at no FENCE (R100). -/
theorem headFence_of_not_stalls {s : State} {write : Bool} {a : Addr}
    (h : s.headClass = some (s.classify .p write a)) (open_ : s.stalls .p write a = false) : s.headFence = none := by
  unfold State.headFence
  split
  · rfl
  · rw [h]
    split
    next w window =>
      have class_ : s.classify .p write a = .window w := Option.some.inj window
      have : s.windowStalls .p w = false := by
        simp only [State.stalls, class_, Bool.or_eq_false_iff] at open_
        exact open_.2
      simp only [State.windowStalls, Bool.or_eq_false_iff, Bool.and_eq_false_iff] at this
      simp_all
    · rfl

/-! ## Retries -/

theorem retryHead_eq (f : Option Win) (t : State) : retryHead f t =
    match f with
    | none => t.issueP
    | some w => if (t.win w).fence = true ∧ (t.win w).inUse ≠ none then { t with pp := { t.pp with fenced := some w } }
      else t.issueP := by
  unfold retryHead
  cases f with
  | none => rfl
  | some w => simp [State.fenceHolds, Option.isSome_iff_ne_none]

theorem retryF_issues {s u : State} {a : Access} (port : u.fp = { held := some a, inFlight := none })
    (before : s.stalls .f a.write a.addr = true) (after : u.stalls .f a.write a.addr = false) :
    retryF s u = ({ u with fp := { held := none, inFlight := none } } : State).issueF a := by
  simp [retryF, port, before, after, State.reachF]

theorem retryF_idle {s u : State} (h : u.fp.held = none ∨ u.fp.inFlight ≠ none ∨
    ∃ a, u.fp.held = some a ∧ (s.stalls .f a.write a.addr = false ∨ u.stalls .f a.write a.addr = true)) :
    retryF s u = u := by
  unfold retryF
  split
  next a held none =>
    refine if_neg fun both => ?_
    rcases h with h | h | ⟨b, h, open_⟩
    · simp [held] at h
    · exact h none
    · cases held.symm.trans h
      rcases open_ with open_ | open_ <;> simp [open_] at both
  · rfl

theorem issueP_held {s : State} (h : s.cc.state = .resetting ∨ s.fenceStands = true) : s.issueP = s := by
  refine if_pos ?_
  rcases h with h | h <;> simp [h]

theorem accessIssue_held {s : State} (h : s.fenceStands = true) :
    ∃ t, exec (.accessIssue .p) s = .next t ∧ EndsIn t s := by
  cases rst : s.lines.rst with
  | true => exact ⟨s, by simp [exec, execAccessIssue, act, rst], endsIn_refl s⟩
  | false => exact act_ends_of_eq (f := fun s => s.issue .p) rst (issueP_held (.inr h))

theorem reachF_stalled {s : State} {a : Access} (h : s.stalls .f a.write a.addr = true) :
    s.reachF a = { s with fp := { s.fp with held := some a } } := if_pos h

/-- A held access reaches issue as it was taken (R100). -/
theorem reachF_of_held {s : State} {a : Access} (port : s.fp = { held := some a, inFlight := none }) :
    s.reachF a = ({ s with fp := { held := none, inFlight := none } } : State).reachF a := by
  have stalls : ({ s with fp := { held := none, inFlight := none } } : State).stalls .f a.write a.addr =
      s.stalls .f a.write a.addr := stalls_congr rfl rfl (fun _ => rfl) ..
  rw [State.reachF, State.reachF, stalls, port]

/-- The end of an event depends on its beginning by the records it shows and the dirty set alone. -/
theorem finish_fp (s t : State) (port : FPort) : finish { s with fp := port } t = finish s t := by
  have words (r : RecName) (i : Nat) : ({ s with fp := port } : State).recordWord r i = s.recordWord r i := by
    cases r <;> rfl
  have joins : joinsDirty { s with fp := port } t = joinsDirty s t := by
    funext r
    simp only [joinsDirty, shownDiffers, words]
  simp only [finish, joinDirty, joins]

theorem fHeld_eq {s : State} {a : Access} (rst : s.lines.rst = false) (port : s.fp = { held := some a, inFlight := none })
    (aligned : a.addr &&& 0xFFFFFC#24 = a.addr) :
    exec (.accessIssue .fHeld) s = exec (.accessIssue (.f a)) { s with fp := { held := none, inFlight := none } } := by
  have held : s.issue .fHeld = s.reachF a := by simp [State.issue, port]
  have taken : ({ s with fp := { held := none, inFlight := none } } : State).issue (.f a) =
      ({ s with fp := { held := none, inFlight := none } } : State).reachF a := by
    simp [State.issue, wordAddr, aligned]
  simp only [exec, execAccessIssue, act, rst, held, taken, Bool.false_eq_true, if_false, finish_fp, ← reachF_of_held port]

/-! ## The access next in order -/

theorem headClass_of_write {s : State} {x : PWrite} {rest : List PWrite} (head : s.pp.pwq = x :: rest) :
    s.headClass = some (s.classify .p true x.addr) := by
  simp [State.headClass, head]

theorem headClass_of_read {s : State} {r : PRead} (empty : s.pp.pwq = []) (slot : s.pp.readSlot = some r) :
    s.headClass = some (s.classify .p false r.addr) := by
  simp [State.headClass, empty, slot]

theorem headClass_of_none {s : State} (empty : s.pp.pwq = []) (slot : s.pp.readSlot = none) : s.headClass = none := by
  simp [State.headClass, empty, slot]

theorem retryP_eq (s t : State) : retryP s t =
    let v : State := if s.fenceStands && !t.fenceStands then { t with pp := { t.pp with fenced := none } } else t
    if s.headStalls && !v.headStalls then
      match s.headFence with
      | none => v.issueP
      | some w => if (v.win w).fence = true ∧ (v.win w).inUse ≠ none then { v with pp := { v.pp with fenced := some w } }
        else v.issueP
    else v := by
  unfold retryP
  rw [retryHead_eq]
  rfl

/-- Settles O33. -/
theorem stalledAccessesWait : Obligations.StalledAccessesWait := by
  refine ⟨fun s x rest w d issue window stalled => issueWrite_ends issue (issueWrite_stalled rest window stalled),
    fun s r w d issue window stalled => issueRead_ends issue (issueRead_stalled window stalled),
    fun s rst resetting => act_ends_of_eq (f := fun s => s.issue .p) rst (issueP_held (.inl resetting)),
    fun s a w d rst port stalled => act_ends_of_eq (f := fun s => s.issue (.f a)) rst ?_,
    fun s a rst port aligned => fHeld_eq rst port aligned, fun s q write a => ⟨fun r => stalls_of_resetting r q write a, fun running =>
      ⟨fun w d window => ?_, fun outside => stalls_of_ne_window running (classify_ne_window outside write)⟩⟩,
    fenceStands_iff, fun s => accessIssue_held, fun s => ⟨headStalls_of_fenceStands, fun free => ?_⟩,
    fun s => ⟨headFence_of_busy, fun x rest w d issue window => ?_, fun r w d issue window => ?_,
      fun x rest head open_ => headFence_of_not_stalls (headClass_of_write head) open_,
      fun r empty slot open_ => headFence_of_not_stalls (headClass_of_read empty slot) open_, fun empty slot => ?_⟩,
    fun s t => ?_, fun s rst => act_ends_of_eq (f := fun s => s.issue .p) rst rfl,
    fun s a free open_ => issueF_ends free open_ (endsIn_refl _)⟩
  · have stalls : s.stalls .f a.write (wordAddr a.addr) = true := by
      by_cases resetting : s.cc.state = .resetting
      · exact stalls_of_resetting resetting ..
      · obtain ⟨window, swap⟩ := stalled.resolve_left resetting
        rw [wordAddr, stalls_window resetting window, windowStalls_iff]
        exact .inl swap
    simp only [State.issue, port]
    rw [if_pos ⟨trivial, trivial⟩, reachF_stalled stalls, port]
    rfl
  · rw [stalls_window running window, windowStalls_iff]
  · exact ⟨fun x rest head => by simp only [State.headStalls, free, head, Bool.false_or],
      fun r empty slot => by simp only [State.headStalls, free, empty, slot, Bool.false_or],
      fun empty slot => by simp only [State.headStalls, free, empty, slot, Bool.false_or]⟩
  · exact headFence_window issue.current issue.running ((headClass_of_write issue.head).trans (by rw [classify_window window]))
  · exact headFence_window issue.current issue.running
      ((headClass_of_read issue.empty issue.slot).trans (by rw [classify_window window]))
  · unfold State.headFence
    rw [headClass_of_none empty slot]
    split <;> rfl
  · intro v u
    have retried : retryP s t = u := retryP_eq s t
    clear_value u
    subst retried
    exact ⟨fun a => retryF_issues, retryF_idle⟩

end Sys2Proof.Laws
end

section
/-! Accesses that no window takes (chapter 6.1): the decoder's tests by address, and what becomes of them. -/

namespace Sys2Proof.Laws

open Sys2Proof Sys2Proof.Machine Sys2Proof.Safety

/-! ## The tests by address -/

theorem inRange_iff (base : Addr) (len : Nat) (a : Addr) :
    inRange base len a = true ↔ base.toNat ≤ a.toNat ∧ a.toNat < base.toNat + len := by
  simp [inRange]

theorem inUse_eq (x : Window) :
    x.inUse = if x.state = .idle then none else if x.active = .a then x.slotA else x.slotB := by
  unfold Window.inUse Window.desc Window.slot
  cases x.active <;> rfl

theorem live_iff (d : Descriptor) (k : Nat) : d.live k = true ↔ d.liveOff ≤ k ∧ k < d.liveOff + d.liveLen := by
  simp [Descriptor.live]

theorem inView_p_iff (s : State) (a : Addr) (w : Win) : s.inView .p a w = true ↔
    ∃ d, (s.win w).inUse = some d ∧ d.pview.toNat ≤ a.toNat ∧
      a.toNat < d.pview.toNat + if d.kind = .output then 16 * d.len else 4 * d.len := by
  unfold State.inView
  cases (s.win w).inUse with
  | none => simp
  | some d => simp [inRange_iff, pviewLen_eq]

theorem inView_f_iff (s : State) (a : Addr) (w : Win) : s.inView .f a w = true ↔
    ∃ d, (s.win w).inUse = some d ∧ d.fview.toNat ≤ a.toNat ∧ a.toNat < d.fview.toNat + 4 * d.len := by
  unfold State.inView
  cases (s.win w).inUse with
  | none => simp
  | some d => simp [inRange_iff, Descriptor.bankLen]

theorem inBank_iff (s : State) (a : Addr) (w : Win) : s.inBank a w = true ↔
    ∃ d, (s.win w).inUse = some d ∧
      ((d.bank0.toNat ≤ a.toNat ∧ a.toNat < d.bank0.toNat + 4 * d.len) ∨
        (d.bank1.toNat ≤ a.toNat ∧ a.toNat < d.bank1.toNat + 4 * d.len)) := by
  unfold State.inBank
  cases (s.win w).inUse with
  | none => simp
  | some d => simp [inRange_iff, Descriptor.bankLen]

theorem wordAt_toNat_of_lt {base : Addr} {k : Nat} (h : base.toNat + 4 * k < 2 ^ 24) :
    (wordAt base k).toNat = base.toNat + 4 * k := by
  rw [wordAt, BitVec.toNat_add, BitVec.toNat_ofNat]
  omega

theorem wordsFrom_of_lt {base : Addr} {k i : Nat} (lane : i < 4) (h : base.toNat + 4 * k + i < 2 ^ 24) :
    wordsFrom base (BitVec.ofNat 24 (base.toNat + 4 * k + i)) = k := by
  rw [wordsFrom, BitVec.toNat_ofNat, Nat.mod_eq_of_lt h]
  omega

/-! ## Classes -/

theorem classify_beyond {s : State} {a : Addr} (h : s.memSize ≤ a.toNat) (q : Port) (write : Bool) :
    s.classify q write a = .refused := if_pos h

section
variable {s : State} {a : Addr} (inMemory : a.toNat < s.memSize)
include inMemory

theorem classify_cb_p (inCB : s.inCB a = true) (write : Bool) :
    s.classify .p write a = cbClass (a.toNat - s.cbBase.toNat) write := by
  simp [State.classify, Nat.not_le.2 inMemory, inCB]

theorem classify_cb_f (inCB : s.inCB a = true) (write : Bool) : s.classify .f write a = .refused := by
  simp [State.classify, Nat.not_le.2 inMemory, inCB]

theorem classify_passes (outside : s.inCB a = false) (h : s.cc.state = .stopped ∨ s.cc.state = .loading) (q : Port)
    (write : Bool) : s.classify q write a = .pass := by
  have passes : s.cc.state.passes = true := by rcases h with h | h <;> simp [h, CState.passes]
  simp [State.classify, Nat.not_le.2 inMemory, outside, passes]

end

section
variable {s : State} {q : Port} {a : Addr} (decoded : Decoded s a) (noView : ∀ v, s.inView q a v = false)
include decoded noView

theorem classify_no_view (write : Bool) :
    s.classify q write a = .pass ∨ ∃ w, s.classify q write a = .shield w := by
  simp only [State.classify, Nat.not_le.2 decoded.inMemory, decoded.outsideCB, decoded.decoding, find_none noView, if_false,
    Bool.false_eq_true]
  split
  next w _ => exact .inr ⟨w, rfl⟩
  · exact .inl rfl

theorem classify_nowhere (noBank : ∀ v, s.inBank a v = false) (write : Bool) : s.classify q write a = .pass := by
  simp [State.classify, Nat.not_le.2 decoded.inMemory, decoded.outsideCB, decoded.decoding, find_none noView,
    find_none noBank]

end

theorem cbClass_write_status {off : Nat} (h : (0x010 ≤ off ∧ off < 0x038) ∨ (0x100 ≤ off ∧ off < 0x200)) :
    cbClass off true = .cbDrop := by
  unfold cbClass
  rw [if_neg (by omega)]
  rcases h with h | h
  · rw [if_pos h]; rfl
  · rw [if_neg (by omega), if_pos h]; rfl

theorem cbClass_write_other {off : Nat} (word : off ≠ 0) (low : ¬ (0x010 ≤ off ∧ off < 0x038))
    (high : ¬ (0x100 ≤ off ∧ off < 0x200)) : cbClass off true = .cbPass none := by
  simp only [cbClass, if_neg word, if_neg low, if_neg high]

theorem cbClass_read_global : cbClass 0x020 false = .cbPass (some .global) := rfl

theorem cbClass_read_window (w : Win) : cbClass (0x100 + 16 * w.val + 12) false = .cbPass (some (.win w)) := by
  have lt := w.isLt
  have index : (0x100 + 16 * w.val + 12 - 0x100) / 16 = w.val := by omega
  unfold cbClass
  rw [if_neg (by omega), if_neg (by omega), if_pos (by omega), if_neg (by decide), if_pos (by omega), index]
  simp

theorem cbClass_read_other {off : Nat} (noGlobal : off ≠ 0x020) (noWindow : ∀ w : Win, off ≠ 0x100 + 16 * w.val + 12) :
    cbClass off false = .cbPass none := by
  unfold cbClass
  split
  · rfl
  · split
    · simp
    · split
      next area =>
        have : off % 16 ≠ 12 := by
          intro twelve
          refine noWindow ⟨(off - 0x100) / 16, by omega⟩ ?_
          dsimp only
          omega
        simp [this]
      · rfl

/-! ## What becomes of them -/

theorem recordsProtect_of_refused {s : State} {x : PWrite} {rest : List PWrite}
    (h : s.classify .p true x.addr = .refused ∨ s.classify .p true x.addr = .cbDrop) :
    s.issueWrite x rest = ({ s with pp := { s.pp with pwq := rest } } : State).record .protect := by
  unfold State.issueWrite
  rcases h with h | h <;> rw [h]

theorem issueWrite_shield {s : State} {x : PWrite} {w : Win} (rest : List PWrite)
    (h : s.classify .p true x.addr = .shield w) :
    s.issueWrite x rest = (({ s with pp := { s.pp with pwq := rest } } : State).drop w).event w .protect := by
  unfold State.issueWrite
  rw [h]
  rfl

theorem issueWrite_passes {s : State} {x : PWrite} (rest : List PWrite)
    (h : s.classify .p true x.addr = .pass ∨ ∃ c, s.classify .p true x.addr = .cbPass c) :
    s.issueWrite x rest = { s with pp := { s.pp with
      pwq := rest
      current := some { win := none, bankWrite := false, items := [.plain .write x.addr x.be x.data none] } } } := by
  unfold State.issueWrite
  rcases h with h | ⟨c, h⟩ <;> rw [h] <;> rfl

theorem issueRead_refused {s : State} {r : PRead} (h : s.classify .p false r.addr = .refused) :
    s.issueRead r = ({ s with
      pp := { s.pp with readSlot := none }, lines := { s.lines with pBus := .readError } } : State).record .protect := by
  unfold State.issueRead
  rw [h]
  rfl

theorem issueRead_cbPass {s : State} {r : PRead} {c : Option RecName} (h : s.classify .p false r.addr = .cbPass c) :
    s.issueRead r = { s with pp := { s.pp with
      current := some { win := none, bankWrite := false, items := [.plain .read r.addr r.be 0 c] } } } := by
  unfold State.issueRead
  rw [h]
  rfl

theorem issueRead_passes {s : State} {r : PRead}
    (h : s.classify .p false r.addr = .pass ∨ ∃ w, s.classify .p false r.addr = .shield w) :
    s.issueRead r = { s with pp := { s.pp with
      current := some { win := none, bankWrite := false, items := [.plain .read r.addr r.be 0 none] } } } := by
  unfold State.issueRead
  rcases h with h | ⟨w, h⟩ <;> rw [h] <;> rfl

theorem issueF_refused {s : State} {a : Access} (h : s.classify .f a.write a.addr = .refused) :
    s.issueF a =
      ({ s with lines := { s.lines with fBus := if a.write then .writeError else .readError } } : State).record .protect := by
  unfold State.issueF
  rw [h]
  rfl

theorem issueF_shield_write {s : State} {a : Access} {w : Win} (h : s.classify .f a.write a.addr = .shield w)
    (write : a.write = true) :
    s.issueF a = (({ s with lines := { s.lines with fBus := .writeOk } } : State).drop w).event w .protect := by
  unfold State.issueF
  rw [h]
  exact if_pos write

theorem issueF_passes {s : State} {a : Access} (port : s.fp = { held := none, inFlight := none })
    (h : s.classify .f a.write a.addr = .pass ∨ (a.write = false ∧ ∃ w, s.classify .f a.write a.addr = .shield w)) :
    s.issueF a = { s with fp := { held := none, inFlight := some {
      win := none, bankWrite := false, dir := if a.write then .write else .read, addr := a.addr, be := a.be
      data := a.data } } } := by
  unfold State.issueF
  rcases h with h | ⟨read, w, h⟩
  · rw [h]
    simp [State.flyF, port]
  · rw [h]
    simp [State.flyF, port, read]

/-- Settles O32. -/
theorem accessesOutsideTheViews : Obligations.AccessesOutsideTheViews := by
  refine ⟨fun s => ⟨cbBase_toNat s, fun a => inRange_iff ..⟩, fun s w => inUse_eq _,
    fun x d k => ⟨rfl, rfl, ?_, live_iff d k⟩, fun s w a => ⟨inView_p_iff s a w, inView_f_iff s a w, inBank_iff s a w⟩,
    fun base k h => ⟨wordAt_toNat_of_lt h, fun i => wordsFrom_of_lt⟩, fun s x rest issue => ?_, fun s r issue => ?_,
    fun s a free => ?_⟩
  · unfold Window.desc Window.slot
    cases x.active <;> rfl
  · dsimp only
    refine ⟨fun h => issueWrite_ends issue (recordsProtect_of_refused ?_),
      fun w bank => issueWrite_ends issue (issueWrite_shield rest (classify_shield bank true)),
      fun h => issueWrite_ends issue (issueWrite_passes rest ?_)⟩
    · rcases h with beyond | ⟨inMemory, inCB, status⟩
      · exact .inl (classify_beyond beyond ..)
      · exact .inr ((classify_cb_p inMemory inCB true).trans (cbClass_write_status status))
    · rcases h with ⟨inMemory, inCB, word, low, high⟩ | ⟨inMemory, outside, state⟩ | ⟨decoded, nowhere⟩
      · exact .inr ⟨none, (classify_cb_p inMemory inCB true).trans (cbClass_write_other word low high)⟩
      · exact .inl (classify_passes inMemory outside state ..)
      · exact .inl (classify_nowhere decoded (fun v => (nowhere v).1) (fun v => (nowhere v).2) _)
  · dsimp only
    refine ⟨fun beyond => issueRead_ends issue (issueRead_refused (classify_beyond beyond ..)),
      fun inMemory inCB => ?_, fun h => issueRead_ends issue (issueRead_passes ?_)⟩
    · have cls := classify_cb_p inMemory inCB false
      refine ⟨fun global => issueRead_ends issue (issueRead_cbPass ?_), fun w flags => issueRead_ends issue (issueRead_cbPass ?_),
        fun noGlobal noWindow => issueRead_ends issue (issueRead_cbPass ?_)⟩
      · rw [cls, global, cbClass_read_global]
      · rw [cls, flags, cbClass_read_window]
      · rw [cls, cbClass_read_other noGlobal noWindow]
    · rcases h with ⟨inMemory, outside, state⟩ | ⟨decoded, noView⟩
      · exact .inl (classify_passes inMemory outside state ..)
      · exact classify_no_view decoded noView _
  · dsimp only
    have issues {u : State} (cls : ∀ w, s.classify .f a.write (wordAddr a.addr) ≠ .window w)
        (effect : s.issueF { a with addr := wordAddr a.addr } = u) :
        ∃ t, exec (.accessIssue (.f a)) s = .next t ∧ EndsIn t u :=
      issueF_ends free (stalls_of_ne_window free.running cls) (effect ▸ endsIn_refl _)
    refine ⟨fun h => ?_, fun w bank write => ?_, fun h => ?_⟩
    · have cls : s.classify .f a.write (wordAddr a.addr) = .refused := by
        rcases h with beyond | ⟨inMemory, inCB⟩
        · exact classify_beyond beyond ..
        · exact classify_cb_f inMemory inCB _
      exact issues (fun w => by simp [cls]) (issueF_refused cls)
    · have cls := classify_shield bank a.write
      exact issues (fun w => by simp [wordAddr, cls]) (issueF_shield_write cls write)
    · have cls : s.classify .f a.write (wordAddr a.addr) = .pass ∨
          (a.write = false ∧ ∃ w, s.classify .f a.write (wordAddr a.addr) = .shield w) := by
        rcases h with ⟨inMemory, outside, state⟩ | ⟨decoded, noView, read | noBank⟩
        · exact .inl (classify_passes inMemory outside state ..)
        · exact (classify_no_view decoded noView _).imp_right fun shield => ⟨read, shield⟩
        · exact .inl (classify_nowhere decoded noView noBank _)
      refine issues (fun w => ?_) (issueF_passes free.port cls)
      rcases cls with cls | ⟨-, v, cls⟩ <;> simp [cls]

end Sys2Proof.Laws
end

section
/-! Accesses of windows (chapters 3.3, 4.2, 4.3, 6.3 and 7): what the field engine and the processor read and write. -/

namespace Sys2Proof.Laws

open Sys2Proof Sys2Proof.Machine Sys2Proof.Safety

/-! ## Words of the banks -/

theorem fieldAt_of_live {d : Descriptor} {k : Nat} (h : d.live k = true) (role : Bool) :
    d.fieldAt role k = wordAt d.bank0 k := if_pos h

theorem procAt_of_live {d : Descriptor} {k : Nat} (h : d.live k = true) (role : Bool) :
    d.procAt role k = wordAt d.bank0 k := if_pos h

theorem fieldAt_of_not_live {d : Descriptor} {k : Nat} (h : d.live k = false) (role : Bool) :
    d.fieldAt role k = wordAt (if role then d.bank0 else d.bank1) k := by
  unfold Descriptor.fieldAt
  rw [h]
  cases role <;> rfl

theorem procAt_of_not_live {d : Descriptor} {k : Nat} (h : d.live k = false) (role : Bool) :
    d.procAt role k = wordAt (if role then d.bank1 else d.bank0) k := by
  unfold Descriptor.procAt
  rw [h]
  cases role <;> rfl

/-! ## The F port -/

theorem fieldOpen {s : State} {a : Access} {w : Win} {d : Descriptor} (free : FieldPortFree s)
    (h : InWindow s .f (wordAddr a.addr) w d) (noSwap : (s.win w).swapPending = false) :
    s.stalls .f a.write (wordAddr a.addr) = false := by
  rw [stalls_window free.running h]
  simp [State.windowStalls, noSwap]

/-- A field access of a window that is not stalled is issued as the window makes it (R40 to R43, R66, R67). -/
theorem fieldWindow_ends {s u : State} {a : Access} {w : Win} {d : Descriptor} (free : FieldPortFree s)
    (h : InWindow s .f (wordAddr a.addr) w d) (noSwap : (s.win w).swapPending = false)
    (effect : EndsIn (s.fWindow w { a with addr := wordAddr a.addr }) u) :
    ∃ t, exec (.accessIssue (.f a)) s = .next t ∧ EndsIn t u := by
  refine issueF_ends free (fieldOpen free h noSwap) ?_
  unfold State.issueF
  rw [show s.classify .f _ _ = .window w from classify_window h _]
  exact effect

section
variable {s : State} {w : Win} {d : Descriptor} {a : Access} (use : (s.win w).inUse = some d)
include use

theorem fWindow_input (input : d.kind = .input) : s.fWindow w a = s.fInput w d a := by
  simp [State.fWindow, use, input]

theorem fWindow_output (output : d.kind = .output) : s.fWindow w a = s.fOutput w d a := by
  simp [State.fWindow, use, output]

end

/-- The effect of a field access that its window makes to a bank (R90, R105; log 37). -/
theorem writeF_eq {s : State} (port : s.fp = { held := none, inFlight := none }) (w : Win) (bankWrite : Bool) {a : Access}
    (write : a.write = true) (target : Addr) : s.writeF w bankWrite a target =
      if a.be = 0 then { s with lines := { s.lines with fBus := .writeOk } }
      else { s with fp := { held := none, inFlight := some {
        win := some w, bankWrite := bankWrite, dir := .write, addr := target, be := a.be, data := a.data } } } := by
  unfold State.writeF State.answerF State.flyF
  rw [port, write]
  rfl

section
variable {s : State} {w : Win} {d : Descriptor} {a : Access}

theorem fInput_loop (write : a.write = true) (loop : d.loop = true) : s.fInput w d a =
    (({ s with lines := { s.lines with fBus := .writeOk } } : State).drop w).event w .loopback := by
  simp [State.fInput, write, loop, State.answerF, State.dropEvent]

theorem fInput_live (write : a.write = true) (noLoop : d.loop = false) (live : d.live (wordsFrom d.fview a.addr) = true) :
    s.fInput w d a = s.writeF w false a (wordAt d.bank0 (wordsFrom d.fview a.addr)) := by
  simp [State.fInput, write, noLoop, live, fieldAt_of_live live]

section
variable (write : a.write = true) (noLoop : d.loop = false) (notLive : d.live (wordsFrom d.fview a.addr) = false)
include write noLoop notLive

theorem fInput_counts (filling : (s.win w).state = .filling) : s.fInput w d a =
    ((s.modWin w Window.counted).touch (.win w)).writeF w true a
      (wordAt (if (s.win w).role then d.bank0 else d.bank1) (wordsFrom d.fview a.addr)) := by
  simp [State.fInput, write, noLoop, notLive, filling, fieldAt_of_not_live notLive]

theorem fInput_excess (filled : (s.win w).state = .filled) : s.fInput w d a =
    (({ s with lines := { s.lines with fBus := .writeOk } } : State).drop w).event w .excess := by
  simp [State.fInput, write, noLoop, notLive, filled, State.answerF, State.dropEvent]

theorem fInput_overrun (blocked : (s.win w).state = .blocked) : s.fInput w d a =
    (({ s with lines := { s.lines with fBus := .writeOk } } : State).drop w).event w .overrun := by
  simp [State.fInput, write, noLoop, notLive, blocked, State.answerF, State.dropEvent]

theorem fInput_ended (ended : (s.win w).state = .tripped ∨ (s.win w).state = .fault) : s.fInput w d a =
    ({ s with lines := { s.lines with fBus := .writeOk } } : State).drop w := by
  rcases ended with ended | ended <;> simp [State.fInput, write, noLoop, notLive, ended, State.answerF]

end

theorem fOutput_live (write : a.write = true) (live : d.live (wordsFrom d.fview a.addr) = true) :
    s.fOutput w d a = s.writeF w false a (wordAt d.bank0 (wordsFrom d.fview a.addr)) := by
  simp [State.fOutput, write, live, fieldAt_of_live live]

theorem fOutput_protect (write : a.write = true) (notLive : d.live (wordsFrom d.fview a.addr) = false) : s.fOutput w d a =
    (({ s with lines := { s.lines with fBus := .writeOk } } : State).drop w).event w .protect := by
  simp [State.fOutput, write, notLive, State.answerF, State.dropEvent]

end

/-- A counted write ends in its record and in the write (R40). -/
theorem counted_ends {s : State} {w : Win} {a : Access} {y : Window} (free : FieldPortFree s) (write : a.write = true)
    (counted : (s.win w).counted = y) (target : Addr) :
    EndsIn (((s.modWin w Window.counted).touch (.win w)).writeF w true a target)
      (if a.be = 0 then { s.setWin w y with lines := { s.lines with fBus := .writeOk } }
       else { s.setWin w y with fp := { held := none, inFlight := some {
         win := some w, bankWrite := true, dir := .write, addr := target, be := a.be, data := a.data } } }) := by
  have port : ((s.modWin w Window.counted).touch (.win w)).fp = { held := none, inFlight := none } := by
    rw [touch_eq]
    exact free.port
  rw [writeF_eq port w true write, State.modWin, counted, touch_eq]
  split <;> exact ⟨rfl, fun r h => (mem_dirty_touch (s.setWin w y) (.win w) r).2 (.inl h)⟩

theorem not_live_iff (d : Descriptor) (k : Nat) : d.live k = false ↔ ¬ (d.liveOff ≤ k ∧ k < d.liveOff + d.liveLen) := by
  rw [← live_iff, Bool.not_eq_true]

section
variable {s u v : State} {a : Access} {w : Win} {d : Descriptor} (free : FieldPortFree s)
  (window : InWindow s .f (wordAddr a.addr) w d) (noSwap : (s.win w).swapPending = false)
include free window noSwap

theorem fieldInput_ends (input : d.kind = .input) (effect : s.fInput w d { a with addr := wordAddr a.addr } = v)
    (ends : EndsIn v u) : ∃ t, exec (.accessIssue (.f a)) s = .next t ∧ EndsIn t u :=
  fieldWindow_ends free window noSwap (by rwa [fWindow_input window.inUse input, effect])

theorem fieldOutput_ends (output : d.kind = .output) (effect : s.fOutput w d { a with addr := wordAddr a.addr } = v)
    (ends : EndsIn v u) : ∃ t, exec (.accessIssue (.f a)) s = .next t ∧ EndsIn t u :=
  fieldWindow_ends free window noSwap (by rwa [fWindow_output window.inUse output, effect])

end

/-- Settles O34. -/
theorem fieldWriteFillsTheImage : Obligations.FieldWriteFillsTheImage := by
  intro s a w d free window noSwap write input
  dsimp only
  have ends {u v : State} (effect : s.fInput w d { a with addr := wordAddr a.addr } = v) (ends : EndsIn v u) :=
    fieldInput_ends free window noSwap input effect ends
  refine ⟨fun loop => ends (fInput_loop write loop) (endsIn_refl _), fun noLoop notLive => ?_⟩
  have notLive : d.live (wordsFrom d.fview (wordAddr a.addr)) = false := (not_live_iff ..).2 notLive
  exact ⟨fun filling more => ends (fInput_counts write noLoop notLive filling) (counted_ends free write (if_neg more) _),
    fun filling last => ends (fInput_counts write noLoop notLive filling) (counted_ends free write (if_pos last) _),
    fun filled => ends (fInput_excess write noLoop notLive filled) (endsIn_refl _),
    fun blocked => ends (fInput_overrun write noLoop notLive blocked) (endsIn_refl _),
    fun ended => ends (fInput_ended write noLoop notLive ended) (endsIn_refl _)⟩

/-- A field write to a live word, which is made to bank 0 with its enables (R41, R67). -/
theorem writeF_live {s : State} (free : FieldPortFree s) (w : Win) {a : Access} (write : a.write = true) (target : Addr) :
    (a.be ≠ 0 → s.writeF w false a target = { s with fp := { held := none, inFlight := some {
      win := some w, bankWrite := false, dir := .write, addr := target, be := a.be, data := a.data } } }) ∧
    (a.be = 0 → s.writeF w false a target = { s with lines := { s.lines with fBus := .writeOk } }) := by
  rw [writeF_eq free.port w false write]
  exact ⟨fun enabled => if_neg enabled, fun silent => if_pos silent⟩

/-- Settles O35. -/
theorem fieldWriteToALiveWord : Obligations.FieldWriteToALiveWord := by
  intro s a w d free window noSwap write input noLoop k liveAt
  have live : d.live (wordsFrom d.fview (wordAddr a.addr)) = true := (live_iff ..).2 liveAt
  have made := fInput_live (s := s) (w := w) (a := { a with addr := wordAddr a.addr }) write noLoop live
  obtain ⟨enabled, silent⟩ := writeF_live free w (a := { a with addr := wordAddr a.addr }) write (wordAt d.bank0 k)
  exact ⟨fun h => fieldInput_ends free window noSwap input (made.trans (enabled h)) (endsIn_refl _),
    fun h => fieldInput_ends free window noSwap input (made.trans (silent h)) (endsIn_refl _),
    procAt_of_live live⟩

/-- Settles O36. -/
theorem fieldWriteToAnOutput : Obligations.FieldWriteToAnOutput := by
  intro s a w d free window noSwap write output k live
  refine ⟨fun liveAt => ?_, fun notLive => ?_⟩
  · have live : d.live (wordsFrom d.fview (wordAddr a.addr)) = true := (live_iff ..).2 liveAt
    have made := fOutput_live (s := s) (w := w) (a := { a with addr := wordAddr a.addr }) write live
    obtain ⟨enabled, silent⟩ := writeF_live free w (a := { a with addr := wordAddr a.addr }) write (wordAt d.bank0 k)
    exact ⟨fun h => fieldOutput_ends free window noSwap output (made.trans (enabled h)) (endsIn_refl _),
      fun h => fieldOutput_ends free window noSwap output (made.trans (silent h)) (endsIn_refl _),
      procAt_of_live live⟩
  · have notLive : d.live (wordsFrom d.fview (wordAddr a.addr)) = false := (not_live_iff ..).2 notLive
    exact fieldOutput_ends free window noSwap output (fOutput_protect write notLive) (endsIn_refl _)

end Sys2Proof.Laws
end

section
/-! Reads of windows, and what the processor writes in them (chapters 4.3, 6.3 and 7). -/

namespace Sys2Proof.Laws

open Sys2Proof Sys2Proof.Machine Sys2Proof.Safety

/-! ## Banks -/

theorem fieldAt_eq (d : Descriptor) (role : Bool) (k : Nat) : d.fieldAt role k =
    wordAt (if (d.liveOff ≤ k ∧ k < d.liveOff + d.liveLen) ∨ role = true then d.bank0 else d.bank1) k := by
  cases live : d.live k with
  | true => rw [fieldAt_of_live live, if_pos (.inl ((live_iff d k).1 live))]
  | false =>
    have notLive := (not_live_iff d k).1 live
    rw [fieldAt_of_not_live live]
    cases role <;> simp only [notLive, false_or, if_true, if_false, Bool.false_eq_true]

theorem procAt_eq (d : Descriptor) (role : Bool) (k : Nat) : d.procAt role k =
    wordAt (if (d.liveOff ≤ k ∧ k < d.liveOff + d.liveLen) ∨ role = false then d.bank0 else d.bank1) k := by
  cases live : d.live k with
  | true => rw [procAt_of_live live, if_pos (.inl ((live_iff d k).1 live))]
  | false =>
    have notLive := (not_live_iff d k).1 live
    rw [procAt_of_not_live live]
    cases role <;> simp only [notLive, false_or, if_true, if_false, Bool.false_eq_true, reduceCtorEq]

/-! ## Field reads -/

theorem fSubstituted_iff (x : Window) : x.fSubstituted = true ↔
    x.valid = false ∨ x.safe = true ∨ x.state = .tripped ∨ x.state = .fault := by
  simp [Window.fSubstituted, or_assoc]

section
variable {s : State} {w : Win} {d : Descriptor} {a : Access} (free : FieldPortFree s) (read : a.write = false)
include free read

/-- A field read that its window makes to a bank (R42, R66). -/
theorem flyF_read (target : Addr) : s.flyF (some w) false a target =
    { s with fp := { held := none, inFlight := some {
      win := some w, bankWrite := false, dir := .read, addr := target, be := a.be, data := a.data } } } := by
  unfold State.flyF
  rw [free.port, read]
  rfl

theorem fInput_read : s.fInput w d a = { s with fp := { held := none, inFlight := some {
    win := some w, bankWrite := false, dir := .read, addr := d.fieldAt (s.win w).role (wordsFrom d.fview a.addr)
    be := a.be, data := a.data } } } := by
  rw [← flyF_read free read]
  simp [State.fInput, read]

theorem fOutput_read (seen : (s.win w).fSubstituted = false) : s.fOutput w d a =
    { s with fp := { held := none, inFlight := some {
      win := some w, bankWrite := false, dir := .read, addr := d.fieldAt (s.win w).role (wordsFrom d.fview a.addr)
      be := a.be, data := a.data } } } := by
  rw [← flyF_read free read]
  simp [State.fOutput, read, seen]

omit free in
theorem fOutput_unseen (unseen : (s.win w).fSubstituted = true) : s.fOutput w d a =
    { s with lines := { s.lines with fBus := .data d.safepat } } := by
  simp [State.fOutput, read, unseen, State.answerF]

end

/-! ## Processor accesses of windows -/

section
variable {s : State} {w : Win} {d : Descriptor} (open_ : Open (s.win w))
include open_

theorem windowStalls_of_open (q : Port) : s.windowStalls q w = false := by
  simp [State.windowStalls, open_.1, open_.2]

theorem issueRead_window {r : PRead} (h : InWindow s .p r.addr w d) : s.issueRead r = s.pReadWindow w r := by
  unfold State.issueRead
  rw [classify_window h]
  simp only [windowStalls_of_open open_, Bool.false_eq_true, if_false]

theorem issueWrite_window {x : PWrite} (rest : List PWrite) (h : InWindow s .p x.addr w d) :
    s.issueWrite x rest = ({ s with pp := { s.pp with pwq := rest } } : State).pWriteWindow w x := by
  unfold State.issueWrite
  rw [classify_window h]
  simp only [windowStalls_of_open open_, Bool.false_eq_true, if_false]

end

theorem pSubstituted_iff (x : Window) : x.pSubstituted = true ↔
    x.valid = false ∨ x.state = .tripped ∨ x.state = .fault := by
  simp [Window.pSubstituted, or_assoc]

/-- A plan begins with a demand copy for a marked word that is not live, unless the window is in FAULT (R65, R113). -/
theorem copyFirst_eq (x : Window) (w : Win) (d : Descriptor) (k : Nat) : x.copyFirst w d k =
    if ¬ (d.liveOff ≤ k ∧ k < d.liveOff + d.liveLen) ∧ k ∈ x.carry ∧ x.state ≠ .fault then
      [.demand w k (wordAt (if x.role then d.bank0 else d.bank1) k) (wordAt (if x.role then d.bank1 else d.bank0) k)]
    else [] := by
  unfold Window.copyFirst
  simp only [← not_live_iff, Bool.and_eq_true, Bool.not_eq_true', List.contains_iff_mem, bne_iff_ne, and_assoc]
  split
  next copies => rw [fieldAt_of_not_live copies.1, procAt_of_not_live copies.1]
  · rfl

theorem copyFirst_not_isEmpty (x : Window) (w : Win) (d : Descriptor) (k : Nat) : (!(x.copyFirst w d k).isEmpty) =
    decide (¬ (d.liveOff ≤ k ∧ k < d.liveOff + d.liveLen) ∧ k ∈ x.carry ∧ x.state ≠ .fault) := by
  rw [copyFirst_eq]
  split
  next copies => rw [decide_eq_true copies]; rfl
  next none => rw [decide_eq_false none]; rfl

theorem pReadWindow_output {s : State} {w : Win} {d : Descriptor} {r : PRead} (use : (s.win w).inUse = some d)
    (output : d.kind = .output) :
    let k := wordsFrom d.pview r.addr % d.len
    s.pReadWindow w r = s.issueAs (some w) (!((s.win w).copyFirst w d k).isEmpty)
      ((s.win w).copyFirst w d k ++ [plainRead (d.procAt (s.win w).role k) r.be none]) := by
  simp [State.pReadWindow, use, output]

section
variable {s : State} {w : Win} {d : Descriptor} {r : PRead} (use : (s.win w).inUse = some d) (input : d.kind = .input)
include use input

theorem pReadWindow_unseen (unseen : (s.win w).pSubstituted = true) : s.pReadWindow w r =
    { s with pp := { s.pp with readSlot := none }, lines := { s.lines with pBus := .data d.safepat } } := by
  simp [State.pReadWindow, use, input, unseen, State.answerP]

theorem pReadWindow_seen (seen : (s.win w).pSubstituted = false) : s.pReadWindow w r =
    { s with pp := { s.pp with current := some {
      win := some w, bankWrite := false
      items := [.plain .read (d.procAt (s.win w).role (wordsFrom d.pview r.addr)) r.be 0 none] } } } := by
  simp [State.pReadWindow, use, input, seen, State.issueAs, plainRead]

end

/-- Settles O37. -/
theorem readsOfWindows : Obligations.ReadsOfWindows := by
  refine ⟨fun s a w d free window noSwap read => ?_, fun s r w d issue window open_ => ?_⟩
  · dsimp only
    rw [← fSubstituted_iff, ← fieldAt_eq]
    refine ⟨fun unseen => fieldOutput_ends free window noSwap unseen.1 (fOutput_unseen read unseen.2) (endsIn_refl _), fun seen => ?_⟩
    cases kind : d.kind with
    | input => exact fieldInput_ends free window noSwap kind (fInput_read free read) (endsIn_refl _)
    | output =>
      have shown : (s.win w).fSubstituted = false := by simpa [kind] using seen
      exact fieldOutput_ends free window noSwap kind (fOutput_read free read shown) (endsIn_refl _)
  · have effect := issueRead_window open_ window
    have modulus (n : Nat) : n % (n + 1) = n := Nat.mod_eq_of_lt (Nat.lt_succ_self n)
    dsimp only
    refine ⟨fun input unseen => issueRead_ends issue (effect.trans ?_), fun input valid notTripped notFault =>
      issueRead_ends issue (effect.trans ?_), fun output => issueRead_ends issue (effect.trans ?_)⟩
    · exact pReadWindow_unseen window.inUse input ((pSubstituted_iff _).2 unseen)
    · have seen : (s.win w).pSubstituted = false := by simp [Window.pSubstituted, valid, notTripped, notFault]
      rw [pReadWindow_seen window.inUse input seen, ← procAt_eq]
      simp [input, modulus]
    · rw [pReadWindow_output window.inUse output, ← procAt_eq, copyFirst_not_isEmpty, copyFirst_eq, if_pos output]
      rfl

/-! ## Processor writes -/

section
variable {s : State} {w : Win} {d : Descriptor} {x : PWrite} (use : (s.win w).inUse = some d)
include use

theorem pWriteWindow_input (input : d.kind = .input) : s.pWriteWindow w x =
    if d.live (wordsFrom d.pview x.addr) then
      (if x.be = 0 then s
       else { s with pp := { s.pp with current := some {
         win := some w, bankWrite := false
         items := [.plain .write (wordAt d.bank0 (wordsFrom d.pview x.addr)) x.be x.data none] } } })
    else (s.drop w).event w .protect := by
  simp only [State.pWriteWindow, use, input]
  rfl

theorem pWriteWindow_output (output : d.kind = .output) : s.pWriteWindow w x = s.pWriteOutput w d x := by
  simp only [State.pWriteWindow, use, output]

end

/-- Settles O38. -/
theorem processorWriteToAnInput : Obligations.ProcessorWriteToAnInput := by
  intro s x rest w d issue window open_ input
  have effect : s.issueWrite x rest = _ := (issueWrite_window open_ rest window).trans (pWriteWindow_input window.inUse input)
  intro k live
  have ends {u : State} (same : _ = u) := issueWrite_ends issue (effect.trans same)
  refine ⟨fun liveAt enabled => ends ?_, fun liveAt silent => ends ?_, fun notLive => ends ?_⟩
  · rw [if_pos ((live_iff ..).2 liveAt), if_neg enabled]
  · rw [if_pos ((live_iff ..).2 liveAt), if_pos silent]
  · rw [if_neg fun live => notLive ((live_iff ..).1 live)]

theorem ofBools_getLsbD (f : Nat → Bool) {i : Nat} (below : i < 4) :
    (BitVec.ofBool (f 3) ++ BitVec.ofBool (f 2) ++ BitVec.ofBool (f 1) ++ BitVec.ofBool (f 0)).getLsbD i = f i := by
  interval_cases i <;> cases f 0 <;> cases f 1 <;> cases f 2 <;> cases f 3 <;> rfl

theorem nonzeroLanes_getLsbD (be : Lanes) (x : Word) {i : Nat} (below : i < 4) :
    (nonzeroLanes be x).getLsbD i = (be.getLsbD i && !(x.extractLsb' (8 * i) 8 == 0)) :=
  ofBools_getLsbD (fun i => be.getLsbD i && lane x i != 0) below

/-- The lanes of a SET write, lane by lane (R63). -/
theorem setLanes_getLsbD (d : Descriptor) (be : Lanes) (x : Word) {i : Nat} (lane : i < 4) :
    (d.setLanes be x).getLsbD i = (be.getLsbD i && !(d.transparent && x.extractLsb' (8 * i) 8 == 0)) := by
  unfold Descriptor.setLanes
  cases d.transparent with
  | true => exact nonzeroLanes_getLsbD be x lane
  | false => simp

theorem eq_setLanes {d : Descriptor} {be be' : Lanes} {x : Word}
    (h : ∀ i < 4, be'.getLsbD i = (be.getLsbD i && !(d.transparent && x.extractLsb' (8 * i) 8 == 0))) :
    d.setLanes be x = be' :=
  BitVec.eq_of_getLsbD_eq fun i lane => (setLanes_getLsbD d be x lane).trans (h i lane).symm

theorem mergeOpOf_zero : mergeOpOf 0 = none := rfl

theorem mergeOpOf_eq {n : Nat} {op : MergeOp} (h : (n = 1 ∧ op = .or) ∨ (n = 2 ∧ op = .clear) ∨ (n = 3 ∧ op = .toggle)) :
    mergeOpOf n = some op := by
  obtain ⟨rfl, rfl⟩ | ⟨rfl, rfl⟩ | ⟨rfl, rfl⟩ := h <;> rfl

section
variable {s : State} {w : Win} {d : Descriptor} {x : PWrite}

theorem pWriteOutput_committed (committed : (s.win w).state = .committed)
    (notLive : d.live (wordsFrom d.pview x.addr % d.len) = false) :
    s.pWriteOutput w d x = (s.drop w).event w .writeAfterCommit := by
  simp [State.pWriteOutput, committed, notLive, State.dropEvent]

variable (composing : ¬ ((s.win w).state = .committed ∧ d.live (wordsFrom d.pview x.addr % d.len) = false))
include composing

theorem pWriteOutput_set {be : Lanes} (op : mergeOpOf (wordsFrom d.pview x.addr / d.len) = none)
    (lanes : d.setLanes x.be x.data = be) :
    let k := wordsFrom d.pview x.addr % d.len
    s.pWriteOutput w d x = if be = 0 then s else s.issueAs (some w) (!d.live k)
      ((s.win w).copyFirst w d k ++ [.plain .write (d.procAt (s.win w).role k) be x.data none]) := by
  unfold State.pWriteOutput
  dsimp only
  rw [if_neg (by simpa using composing), op, lanes]

theorem pWriteOutput_merge {op : MergeOp} (isAlias : mergeOpOf (wordsFrom d.pview x.addr / d.len) = some op) :
    let k := wordsFrom d.pview x.addr % d.len
    s.pWriteOutput w d x = if x.be = 0 then s else s.issueAs (some w) (!d.live k)
      ((s.win w).copyFirst w d k ++ [.merge w op x.be x.data (d.procAt (s.win w).role k)]) := by
  unfold State.pWriteOutput
  dsimp only
  rw [if_neg (by simpa using composing), isAlias]

end

/-- Settles O39. -/
theorem processorWriteToAnOutput : Obligations.ProcessorWriteToAnOutput := by
  intro s x rest w d issue window open_ output n k live y target copy planned nothing
  have effect : s.issueWrite x rest = nothing.pWriteOutput w d x :=
    (issueWrite_window open_ rest window).trans (pWriteWindow_output window.inUse output)
  have plan (item : PItem) : nothing.issueAs (some w) (!d.live k) (y.copyFirst w d k ++ [item]) = planned item := by
    have buffered : (!d.live k) = decide (¬ live) := by
      cases at_ : d.live k with
      | true => exact (decide_eq_false (not_not_intro ((live_iff ..).1 at_))).symm
      | false => exact (decide_eq_true ((not_live_iff ..).1 at_)).symm
    rw [buffered, copyFirst_eq]
    rfl
  have ends {u : State} (same : nothing.pWriteOutput w d x = u) := issueWrite_ends issue (effect.trans same)
  have made : d.procAt y.role k = target := procAt_eq ..
  refine ⟨fun committed => ends (pWriteOutput_committed committed.1 ((not_live_iff ..).2 committed.2)),
    fun composing => ?_⟩
  have composing : ¬ ((nothing.win w).state = .committed ∧ d.live k = false) :=
    fun h => composing ⟨h.1, (not_live_iff ..).1 h.2⟩
  refine ⟨fun be set lanes => ?_, fun op isAlias => ?_⟩
  · have effect := pWriteOutput_set composing (set ▸ mergeOpOf_zero) (eq_setLanes lanes)
    rw [← made, ← plan]
    exact ⟨fun enabled => ends (effect.trans (if_neg enabled)), fun silent => ends (effect.trans (if_pos silent))⟩
  · have effect := pWriteOutput_merge composing (mergeOpOf_eq isAlias)
    rw [← made, ← plan]
    exact ⟨fun enabled => ends (effect.trans (if_neg enabled)), fun silent => ends (effect.trans (if_pos silent))⟩

end Sys2Proof.Laws
end

section
/-! The words of the records, bit by bit (section 12.3), and their write-back (R156). -/

namespace Sys2Proof.Laws

open Sys2Proof Sys2Proof.Machine Sys2Proof.Safety

/-! ## Items in a word -/

theorem setWidth_append {m n : Nat} (w : Nat) (hi : BitVec m) (lo : BitVec n) :
    (hi ++ lo).setWidth w = lo.setWidth w ||| hi.setWidth w <<< n := by
  refine BitVec.eq_of_getLsbD_eq fun i below => ?_
  rw [BitVec.getLsbD_setWidth, BitVec.getLsbD_append, BitVec.getLsbD_or, BitVec.getLsbD_shiftLeft,
    BitVec.getLsbD_setWidth, BitVec.getLsbD_setWidth]
  by_cases low : i < n
  · simp [low]
  · have := BitVec.getLsbD_of_ge lo i (by omega)
    have : i - n < w := by omega
    simp_all

theorem shiftLeft_or (x y : Word) (n : Nat) : (x ||| y) <<< n = x <<< n ||| y <<< n := by
  simp [BitVec.shiftLeft_or_distrib]

/-- A word put together from its items (section 12.3). -/
theorem word_append {m n : Nat} (pos : Nat) (hi : BitVec m) (lo : BitVec n) :
    put (hi ++ lo) pos = put lo pos ||| put hi (pos + n) := by
  simp only [put, BitVec.zeroExtend]
  rw [setWidth_append, shiftLeft_or, Nat.add_comm, BitVec.shiftLeft_add]

theorem put_zero (n pos : Nat) : put (0#n) pos = 0#32 := by
  simp [put]

/-- A word is told by its items. -/
theorem word_of_put {x y : Word} (h : y = put x 0) : y = x := by
  simpa [put] using h

/-- A counted item that fits in its field. -/
theorem putNat_eq_put {n v : Nat} (fits : v < 2 ^ n) (pos : Nat) : putNat v pos = put (BitVec.ofNat n v) pos := by
  have same : BitVec.ofNat 32 v = (BitVec.ofNat n v).zeroExtend 32 := by
    refine BitVec.eq_of_toNat_eq ?_
    simp [Nat.mod_eq_of_lt fits]
  rw [putNat, put, same]

/-! ## The words of the records -/

theorem CState.code_lt (c : CState) : c.code < 2 ^ 4 := by cases c <;> decide
theorem WState.code_lt (x : WState) : x.code < 2 ^ 3 := by cases x <;> decide
theorem Reason.code_lt (r : Reason) : r.code < 2 ^ 3 := by cases r <;> decide
theorem ResultCode.code_lt (r : ResultCode) : r.code < 2 ^ 3 := by cases r <;> decide
theorem FreezeMode.code_lt (m : FreezeMode) : m.code < 2 ^ 2 := by cases m <;> decide
theorem ErrSource.code_lt (q : Option ErrSource) : ErrSource.code q < 2 ^ 3 := by
  cases q with
  | none => decide
  | some q => cases q <;> decide

theorem resultWord_zero (s : State) : s.resultWord 0 =
    0#8 ++ s.cba.result.seq ++ 0#5 ++ BitVec.ofNat 3 s.cba.result.result.code ++ s.cba.result.code := by
  refine word_of_put ?_
  simp only [word_append, put_zero, ← putNat_eq_put (ResultCode.code_lt _)]
  simp only [State.resultWord, BitVec.or_assoc, BitVec.or_zero, BitVec.zero_or, Nat.reduceAdd, Nat.zero_add]

theorem globalWord_one (s : State) (jobs : s.ce.jobs.length < 2 ^ 5) (places : s.places < 2 ^ 4)
    (loads : s.cba.loadQueue.length < 2 ^ 5) : s.globalWord 1 =
    0#2 ++ BitVec.ofNat 5 s.cba.loadQueue.length ++ BitVec.ofNat 4 s.places ++ BitVec.ofNat 5 s.ce.jobs.length ++
      s.cc.groupPos ++ 0#2 ++ BitVec.ofBool s.mp.latch.valid ++ BitVec.ofBool s.cc.freezeReq ++
      BitVec.ofNat 4 s.cc.state.code := by
  refine word_of_put ?_
  simp only [word_append, put_zero, ← putNat_eq_put (CState.code_lt _), ← putNat_eq_put jobs, ← putNat_eq_put places,
    ← putNat_eq_put loads]
  simp only [State.globalWord, putBit, BitVec.or_assoc, BitVec.or_zero, BitVec.zero_or, Nat.reduceAdd, Nat.zero_add]

theorem globalWord_four (s : State) : s.globalWord 4 =
    0#27 ++ BitVec.ofBool s.mp.latch.multiple ++ BitVec.ofBool (s.mp.latch.dir == .write) ++
      BitVec.ofNat 3 (ErrSource.code s.mp.latch.source) := by
  refine word_of_put ?_
  simp only [word_append, put_zero, ← putNat_eq_put (ErrSource.code_lt _)]
  simp only [State.globalWord, putBit, BitVec.or_assoc, BitVec.or_zero, Nat.reduceAdd, Nat.zero_add]

theorem globalWord_five (s : State) : s.globalWord 5 =
    0#8 ++ s.lines.cbsel ++ 0#1 ++ s.lines.memsz ++ 0#1 ++ BitVec.ofBool (s.cba.config.arbMode == .rotating) ++
      BitVec.ofNat 2 s.cba.config.freezeMode.code ++ s.cba.config.groupLen := by
  refine word_of_put ?_
  simp only [word_append, put_zero, ← putNat_eq_put (FreezeMode.code_lt _)]
  simp only [State.globalWord, putBit, BitVec.or_assoc, BitVec.or_zero, BitVec.zero_or, Nat.reduceAdd, Nat.zero_add]

theorem windowWord_zero (x : Window) : x.recordWord 0 =
    x.fill ++ 0#1 ++ BitVec.ofNat 3 x.refusal.code ++ x.miss ++ BitVec.ofBool x.switchPending ++ BitVec.ofBool x.fence ++
      BitVec.ofBool x.swapPending ++ BitVec.ofBool x.safe ++ BitVec.ofBool x.held ++ BitVec.ofBool x.valid ++
      BitVec.ofBool x.role ++ BitVec.ofBool x.slotB.isSome ++ BitVec.ofBool x.slotA.isSome ++
      BitVec.ofBool (x.active == .b) ++ BitVec.ofBool x.kindBit ++ BitVec.ofNat 3 x.state.code := by
  refine word_of_put ?_
  simp only [word_append, put_zero, ← putNat_eq_put (WState.code_lt _), ← putNat_eq_put (Reason.code_lt _)]
  simp only [Window.recordWord, putBit, BitVec.or_assoc, BitVec.zero_or, Nat.reduceAdd, Nat.zero_add]

theorem windowWord_one (x : Window) : x.recordWord 1 = 0#8 ++ x.drops ++ x.blocked ++ x.lost := by
  refine word_of_put ?_
  simp only [word_append, put_zero]
  simp only [Window.recordWord, BitVec.or_assoc, BitVec.or_zero, Nat.reduceAdd, Nat.zero_add]

/-- A word that holds one item at its low end. -/
theorem put_low {n : Nat} (m : Nat) (v : BitVec n) : put v 0 = put (0#m ++ v) 0 := by
  rw [word_append, put_zero, BitVec.or_zero]

theorem readWaits_iff (s : State) :
    s.readWaits = true ↔ (∃ l, s.cba.load = some l ∧ l.ending = none) ∨ s.cba.fetch ≠ none := by
  unfold State.readWaits
  cases s.cba.load <;> simp [Option.isSome_iff_ne_none]

/-! ## Write-back -/

theorem writebackNext_eq {s : State} {r : RecName} {rest : List RecName} (dirty : s.cba.dirty = r :: rest)
    (free : s.cba.writeback = none) (noRequest : s.cba.request = none)
    (pass : s.cc.state = .resetting → s.cc.phase = .pass) (turn : s.readWaits = true → s.cba.turn = .writeback) :
    s.writebackNext = some (r, rest) := by
  have released : s.kHeld = false := by
    simp only [State.kHeld, Bool.and_eq_false_imp, beq_iff_eq, bne_eq_false_iff_eq]
    exact pass
  have ours : (s.readWaits && s.cba.turn == .read) = false := by
    cases reads : s.readWaits with
    | false => rfl
    | true => simp [turn reads]
  simp [State.writebackNext, free, noRequest, released, ours, dirty]

theorem writebackNext_none {s : State} (h : s.cba.dirty = [] ∨ s.cba.writeback ≠ none ∨ s.cba.request ≠ none ∨
    (s.cc.state = .resetting ∧ s.cc.phase ≠ .pass) ∨ (s.readWaits = true ∧ s.cba.turn = .read)) :
    s.writebackNext = none := by
  unfold State.writebackNext
  split
  · rfl
  next free =>
    simp only [State.kHeld, Bool.or_eq_true, not_or, Bool.not_eq_true, Option.isSome_eq_false_iff,
      Option.isNone_iff_eq_none] at free
    rcases h with h | h | h | h | h <;> simp_all

theorem exec_writebackRecord (s : State) :
    exec .writebackRecord s = .next (if s.lines.rst then s else s.beginWriteback) := rfl

/-- The state after a written-back word, apart from the error that may be latched and the published set of a window
(R156, R158). -/
def wordWritten (answer : Resp) (s : State) (r : RecName) (i : Nat) (a : Addr) (d : Word) (windows : Vector Window 16) :
    State :=
  { s with
    mem := (State.memAnswered answer s a 0xF d).mem
    free := (State.memAnswered answer s a 0xF d).free
    mp := { s.mp with grant := .free }
    cc := { s.cc with phase := if s.cc.phase = .pass ∧ r = .win 15 ∧ 3 ≤ i then .passDone else s.cc.phase }
    windows := windows
    cba := { s.cba with
      writeback := if i + 1 < r.length then some { name := r, word := i + 1 } else none
      turn := .read
      published := if answer = .ok ∧ r = .global ∧ i = 0 then d.extractLsb' 0 15 else s.cba.published } }

theorem memAnswered_eq (r : Resp) (s : State) (a : Addr) (be : Lanes) (d : Word) : State.memAnswered r s a be d =
    { s with mem := (State.memAnswered r s a be d).mem, free := (State.memAnswered r s a be d).free } := by
  cases r <;> unfold State.memAnswered <;> simp only [State.memFail, State.memWrite] <;> split <;> rfl

theorem endsIn_latchAnswer {s u : State} (h : EndsIn s u) (r : Resp) (q : ErrSource) (dir : Dir) (a : Addr) :
    EndsIn (State.latchAnswer r s q dir a) (State.latchAnswer r u q dir a) := by
  cases r with
  | ok => exact h
  | err =>
    obtain ⟨same, kept⟩ := h
    refine ⟨?_, fun x hx => (mem_dirty_latchError ..).2 (((mem_dirty_latchError ..).1 hx).imp_left (kept x))⟩
    rw [State.latchAnswer, State.latchAnswer, latchError_eq u, latchError_eq s, same]

/-- The write-back after word `i`, with K's request gone and the turn passed on (R156). -/
def afterWord (s : State) (name : RecName) (i : Nat) : State :=
  { s.nextWord name i with cba := { (s.nextWord name i).cba with request := none, turn := .read } }

theorem afterWord_latchError (s : State) (q : ErrSource) (dir : Dir) (a : Addr) (name : RecName) (i : Nat) :
    afterWord (s.latchError q dir a) name i = (afterWord s name i).latchError q dir a := by
  unfold afterWord State.nextWord State.latchError State.record State.touch
  split <;> dsimp only <;> split <;> rfl

theorem publishAnswered_err (s : State) (name : RecName) (i : Nat) (d : Word) :
    State.publishAnswered .err s name i d = s := rfl

/-- Latching comes last: a word answered with an error publishes nothing (R158). -/
theorem writebackWordComplete_eq {s : State} {r : RecName} {i : Nat} {a : Addr} {d : Word} {h : Option Resp} (answer : Resp)
    (grant : s.mp.grant = .single { work := .writebackWord r i, dir := .write, addr := a, be := 0xF, data := d, foretold := h }) :
    s.writebackWordComplete answer = State.latchAnswer answer
      (afterWord (State.publishAnswered answer ((State.memAnswered answer s a 0xF d).setGrant .free) r i d) r i) .k .write a := by
  unfold State.writebackWordComplete
  simp only [grant]
  cases answer with
  | ok => rfl
  | err => exact afterWord_latchError ..

theorem win_publishAnswered (answer : Resp) (s : State) (name : RecName) (i : Nat) (d : Word) (w : Win) :
    (State.publishAnswered answer s name i d).win w = { s.win w with
      published := if answer = .ok ∧ name = .win w ∧ i = 3 then d.extractLsb' 0 14 else (s.win w).published } := by
  unfold State.publishAnswered
  cases answer with
  | err => rfl
  | ok =>
    cases name with
    | win v =>
      by_cases own : v = w
      · by_cases last : i = 3
        · simp [RecName.flagWord, State.publish, own, last]
        · simp [RecName.flagWord, own, last, Ne.symm last]
      · by_cases last : 3 = i
        · simp [RecName.flagWord, State.publish, last, own, Ne.symm own]
        · simp [RecName.flagWord, last, own]
    | global =>
      by_cases first : i = 0
      · simp only [RecName.flagWord, first, if_true]
        rfl
      · simp [RecName.flagWord, Ne.symm first]
    | result => rfl

theorem publishAnswered_eq (answer : Resp) (s : State) (name : RecName) (i : Nat) (d : Word) :
    State.publishAnswered answer s name i d = { s with
      windows := (State.publishAnswered answer s name i d).windows
      cba := { s.cba with
        published := if answer = .ok ∧ name = .global ∧ i = 0 then d.extractLsb' 0 15 else s.cba.published } } := by
  unfold State.publishAnswered
  cases answer with
  | err => rfl
  | ok =>
    cases name with
    | global =>
      by_cases first : i = 0
      · simp [RecName.flagWord, State.publish, first]
      · simp [RecName.flagWord, first, Ne.symm first]
    | result => rfl
    | win v =>
      simp only [reduceCtorEq, false_and, and_false, if_false]
      split <;> rfl

theorem afterWord_eq (s : State) (r : RecName) (i : Nat) : afterWord s r i = { s with
    cc := { s.cc with phase := if s.cc.phase = .pass ∧ r = .win 15 ∧ 3 ≤ i then .passDone else s.cc.phase }
    cba := { s.cba with
      writeback := if i + 1 < r.length then some { name := r, word := i + 1 } else none, request := none, turn := .read } } := by
  unfold afterWord State.nextWord
  by_cases more : i + 1 < r.length
  · have notLast : ¬ (s.cc.phase = .pass ∧ r = .win 15 ∧ 3 ≤ i) := by
      rintro ⟨-, rfl, last⟩
      simp only [RecName.length] at more
      omega
    simp only [more, if_true, notLast, if_false]
  · have last (name : r = .win 15) : 3 ≤ i := by
      subst name
      simp only [RecName.length] at more
      omega
    have same : (s.cc.phase = .pass ∧ r = .win 15 ∧ 3 ≤ i) ↔ s.cc.phase = .pass ∧ r = .win 15 :=
      ⟨fun h => ⟨h.1, h.2.1⟩, fun h => ⟨h.1, h.2, last h.2⟩⟩
    simp only [more, if_false, same]

/-- Settles O16. -/
theorem writeBackMovesWordByWord : Obligations.WriteBackMovesWordByWord := by
  refine ⟨fun s r rest rst dirty free noRequest pass turn => ?_, fun s h => ?_, readWaits_iff,
    ⟨rfl, rfl, rfl, rfl, fun w => ⟨rfl, rfl⟩⟩, fun s jobs places loads => ?_, fun s => ?_, fun s w => ?_,
    fun s r i a d h answer rst grant => ?_⟩
  · simp [exec_writebackRecord, rst, State.beginWriteback, writebackNext_eq dirty free noRequest pass turn]
  · simp [exec_writebackRecord, State.beginWriteback, writebackNext_none h]
  · intro g state source mode
    have hstate : state = BitVec.ofNat 4 s.cc.state.code := by
      simp only [state]
      cases s.cc.state <;> rfl
    have hsource : source = BitVec.ofNat 3 (ErrSource.code s.mp.latch.source) := by
      simp only [source]
      split <;> simp only [*] <;> rfl
    have hmode : mode = BitVec.ofNat 2 s.cba.config.freezeMode.code := by
      simp only [mode]
      cases s.cba.config.freezeMode <;> rfl
    rw [hstate, hsource, hmode]
    refine ⟨word_of_put (put_low 17 s.cba.causes), ?_, rfl, word_of_put (put_low 8 s.mp.latch.addr), ?_, ?_⟩
    · exact globalWord_one s (by omega) (Nat.lt_of_le_of_lt places (by decide)) (by omega)
    · exact globalWord_four s
    · exact globalWord_five s
  · intro r result
    have hresult : result = BitVec.ofNat 3 s.cba.result.result.code := by
      simp only [result]
      cases s.cba.result.result <;> rfl
    rw [hresult]
    exact ⟨resultWord_zero s, word_of_put (put_low 16 s.cba.result.refused), rfl, rfl⟩
  · intro x r state refusal kind
    have hstate : state = BitVec.ofNat 3 x.state.code := by
      simp only [state]
      cases x.state <;> rfl
    have hrefusal : refusal = BitVec.ofNat 3 x.refusal.code := by
      simp only [refusal]
      cases x.refusal <;> rfl
    have hkind : kind = x.kindBit := by
      have desc : x.desc = if x.active = .a then x.slotA else x.slotB := by
        cases active : x.active <;> simp [Window.desc, Window.slot, active]
      simp only [kind, Window.kindBit, desc]
      cases (if x.active = SlotName.a then x.slotA else x.slotB) <;> rfl
    rw [hstate, hrefusal, hkind]
    exact ⟨windowWord_zero x, windowWord_one x, rfl, word_of_put (put_low 18 x.events)⟩
  · obtain ⟨t, next, ends⟩ := act_ends (fun s => s.writebackWordComplete answer) rst
    rw [writebackWordComplete_eq answer grant] at ends
    have windows := endsIn_windows ends
    have published (w : Win) : t.win w =
        (State.publishAnswered answer ((State.memAnswered answer s a 0xF d).setGrant .free) r i d).win w := by
      rw [State.win, windows, (latchAnswer_keeps ..).2.2.1, afterWord_eq]
      rfl
    refine ⟨t, next, endsIn_trans ends (endsIn_latchAnswer ⟨?_, fun r h => ?_⟩ ..), fun w => ?_⟩
    · rw [windows, (latchAnswer_keeps ..).2.2.1, afterWord_eq, publishAnswered_eq, memAnswered_eq]
      rfl
    · rw [afterWord_eq, publishAnswered_eq, memAnswered_eq]
      exact h
    · rw [published, win_publishAnswered, memAnswered_eq]
      rfl

end Sys2Proof.Laws
end

section
/-! Command words (chapter 11.2): those that are not accepted, and the commands START, STOP and RESET. -/

namespace Sys2Proof.Laws

open Sys2Proof Sys2Proof.Machine Sys2Proof.Safety

/-! ## Command words -/

theorem commandOf_eq_some_iff (code : BitVec 8) (c : Command) : commandOf code = some c ↔
    (code = 0x01 ∧ c = .start) ∨ (code = 0x02 ∧ c = .stop) ∨ (code = 0x03 ∧ c = .reset) ∨ (code = 0x04 ∧ c = .clearerr) ∨
    (code = 0x10 ∧ c = .load) ∨ (code = 0x11 ∧ c = .switch) ∨ (code = 0x12 ∧ c = .cancel) ∨ (code = 0x20 ∧ c = .hold) ∨
    (code = 0x21 ∧ c = .release) ∨ (code = 0x22 ∧ c = .commit) ∨ (code = 0x23 ∧ c = .rearm) := by
  constructor
  · intro h
    have byte (n : Nat) (value : code.toNat = n) : code = BitVec.ofNat 8 n := by rw [← value, BitVec.ofNat_toNat]; simp
    unfold commandOf at h
    split at h
    case h_12 => exact nomatch h
    all_goals
      next value =>
        cases h
        simp [byte _ value]
  · rintro (⟨rfl, rfl⟩ | ⟨rfl, rfl⟩ | ⟨rfl, rfl⟩ | ⟨rfl, rfl⟩ | ⟨rfl, rfl⟩ | ⟨rfl, rfl⟩ | ⟨rfl, rfl⟩ | ⟨rfl, rfl⟩ | ⟨rfl, rfl⟩ |
      ⟨rfl, rfl⟩ | ⟨rfl, rfl⟩) <;> rfl

theorem commandWord_fields (x : Word) : x = cmdMask x ++ x.extractLsb' 8 8 ++ cmdCode x := by
  refine BitVec.eq_of_getLsbD_eq fun i below => ?_
  simp only [cmdMask, cmdCode, BitVec.getLsbD_append, BitVec.getLsbD_extractLsb']
  by_cases code : i < 8
  · simp [code]
  · by_cases ignored : i < 16
    · have : i - 8 < 8 := by omega
      have : 8 + (i - 8) = i := by omega
      simp_all
    · have : ¬ i - 8 < 8 := by omega
      have : i - 8 - 8 < 16 := by omega
      have : 16 + (i - 8 - 8) = i := by omega
      simp_all

theorem cmdMask_getLsbD (x : Word) (w : Win) : (cmdMask x).getLsbD w.val = x.getLsbD (16 + w.val) := by
  simp [cmdMask]

/-! ## The result record -/

theorem resultWord_seq (s : State) : (s.resultWord 0).getLsbD 16 = s.cba.result.seq.getLsbD 0 := by
  rw [resultWord_zero]
  simp only [BitVec.getLsbD_append, Nat.reduceLT, Nat.reduceSub, if_false, if_true]

theorem seq_succ_bit (x : BitVec 8) : (x + 1).getLsbD 0 = !x.getLsbD 0 := by
  revert x
  decide

/-- A command's taking makes the result record dirty, for it takes a sequence number (R154, R155). -/
theorem result_mem_finish {s u : State} (h : u.cba.result.seq = s.cba.result.seq + 1) :
    RecName.result ∈ (finish s u).cba.dirty := by
  refine mem_finish_of_shown (i := 0) (by decide) fun same => ?_
  have bit := congrArg (BitVec.getLsbD · 16) same
  simp only [State.recordWord, resultWord_seq, h, seq_succ_bit] at bit
  simp at bit

/-! ## Rows of commands -/

theorem act_congr {f g : State → State} {s : State} (h : f s = g s) : act f s = act g s := by
  rw [act, act, h]

theorem exec_row (c : Command) (s : State) : exec (rowOf c) s = act (fun s => s.commandRow (.known c)) s := by
  cases c <;> rfl

theorem commandRow_of_atIssue {s : State} {c : Spelling} (h : s.commandAtIssue = some c) : s.commandRow c = s.issueP :=
  if_pos h

theorem exec_row_eq_issue {s : State} {x : PWrite} {rest : List PWrite} {c : Command} (h : CommandAtIssue s x rest c) :
    exec (rowOf c) s = exec (.accessIssue .p) s := by
  rw [exec_row]
  exact act_congr (g := fun s => s.issue .p) (commandRow_of_atIssue (commandAtIssue_eq h))

theorem live_iff_armed (c : CState) : c.live = true ↔ Armed c := by
  cases c <;> simp [CState.live, Armed]

theorem commandRow_takes {s : State} {x : PWrite} {rest : List PWrite} {c : Command} (h : CommandAtIssue s x rest c) :
    s.commandRow (.known c) = ({ s with pp := wordIssued s.pp x rest } : State).takeCommand x.be x.data :=
  (commandRow_of_atIssue (commandAtIssue_eq h)).trans (issueP_command h)

theorem spelling_of_command {s : State} {x : PWrite} {rest : List PWrite} {c : Command} (h : CommandAtIssue s x rest c) :
    spelling x.be x.data = .known c := by
  simp [spelling, h.enables, h.code]

theorem commandRow_badstate {s : State} {x : PWrite} {rest : List PWrite} {c : Command} (h : CommandAtIssue s x rest c)
    (refused : c.accepted s.cc.state = false) : s.commandRow (.known c) =
      ({ s with pp := wordIssued s.pp x rest } : State).setResult (cmdCode x.data) .badstate (c.badstateMask x.data) := by
  rw [commandRow_takes h]
  simp [State.takeCommand, spelling_of_command h, refused]

/-- A command that is not done records CMD_REFUSED (R151 to R153). -/
theorem refusal_ends {f : State → State} {s : State} {p : PPort} {code : BitVec 8} {r : ResultCode} {refused : BitVec 16}
    (rst : s.lines.rst = false) (effect : f s = ({ s with pp := p } : State).setResult code r refused) (notDone : r ≠ .done) :
    ∃ t, act f s = .next t ∧ RecName.global ∈ t.cba.dirty ∧ RecName.result ∈ t.cba.dirty ∧ EndsIn t
      { s with pp := p
               cba := { s.cba with
                 result := resultRecord s code r refused, causes := s.cba.causes ||| Cause.mask .cmdRefused } } := by
  have recorded : f s = ({ s with
      pp := p, cba := { s.cba with result := resultRecord s code r refused } } : State).record .cmdRefused := by
    rw [effect, State.setResult, if_neg notDone]
    rfl
  refine ⟨_, act_finish f rst, mem_finish_dirty (.inr ?_), result_mem_finish ?_, ?_⟩
  · rw [recorded]
    exact (mem_dirty_record ..).2 (.inr rfl)
  · rw [recorded, record_eq]
    rfl
  · rw [recorded]
    exact endsIn_trans (endsIn_finish ..) (endsIn_record ..)

/-! ## Words that spell no command -/

section
variable {s : State} {x : PWrite} {rest : List PWrite} (issue : WriteAtIssue s x rest) (address : x.addr = s.cbBase)
  (inMemory : s.cbBase.toNat < s.memSize)
include address inMemory

theorem classify_commandWord : s.classify .p true x.addr = .command := by
  simp [State.classify, State.inCB, inRange, cbClass, address, Nat.not_le.mpr inMemory]

include issue

theorem commandAtIssue_spells : s.commandAtIssue = some (spelling x.be x.data) := by
  simp [State.commandAtIssue, State.fenceStands, issue.current, issue.running, issue.fenced, issue.head,
    classify_commandWord address inMemory]

theorem issueP_commandWord : s.issueP = ({ s with pp := wordIssued s.pp x rest } : State).takeCommand x.be x.data := by
  rw [issueP_of_write issue, State.issueWrite, classify_commandWord address inMemory]
  rfl

end

theorem spelling_unknown {be : Lanes} {x : Word} (h : be ≠ 0xF#4 ∨ commandOf (cmdCode x) = none) :
    spelling be x = .unknown := by
  rcases h with h | h <;> simp [spelling, h]

/-- Settles O40. -/
theorem commandsNotAccepted : Obligations.CommandsNotAccepted := by
  refine ⟨commandOf_eq_some_iff, fun x => ⟨⟨_, commandWord_fields x⟩, cmdMask_getLsbD x⟩,
    fun s x rest issue address inMemory unknown => ?_, fun s x rest c h => ⟨exec_row_eq_issue h, fun wrong => ?_,
    fun notStart notStop notReset notClear wrong => ?_⟩⟩
  · have spelled := spelling_unknown unknown
    have atIssue : s.commandAtIssue = some .unknown := spelled ▸ commandAtIssue_spells issue address inMemory
    have row : s.commandRow .unknown = s.issueP := commandRow_of_atIssue atIssue
    refine ⟨act_congr (f := fun s => s.commandRow .unknown) (g := fun s => s.issue .p) row,
      refusal_ends (f := fun s => s.commandRow .unknown) issue.rst ?_ (by decide)⟩
    rw [row, issueP_commandWord issue address inMemory, State.takeCommand, spelled]
    rfl
  · have refused : c.accepted s.cc.state = false := by
      rcases wrong with ⟨rfl, wrong⟩ | ⟨rfl, wrong, notLive⟩
      · simpa [Command.accepted] using wrong
      · rw [← live_iff_armed] at notLive
        simpa [Command.accepted, wrong] using notLive
    have mask : c.badstateMask x.data = 0 := by
      rcases wrong with ⟨rfl, -⟩ | ⟨rfl, -⟩ <;> rfl
    rw [exec_row]
    exact refusal_ends h.issue.rst (mask ▸ commandRow_badstate h refused) (by decide)
  · rw [← live_iff_armed, Bool.not_eq_true] at wrong
    have perWindow : c.accepted s.cc.state = s.cc.state.live ∧ c.windowed = true := by
      cases c <;> simp_all [Command.accepted, Command.windowed]
    have mask : c.badstateMask x.data = cmdMask x.data := if_pos perWindow.2
    rw [exec_row]
    exact refusal_ends h.issue.rst (mask ▸ commandRow_badstate h (perWindow.1.trans wrong)) (by decide)

end Sys2Proof.Laws
end

section
/-! START, STOP and RESET at their taking (chapters 2.3, 2.6 and 9.1). -/

namespace Sys2Proof.Laws

open Sys2Proof Sys2Proof.Machine Sys2Proof.Safety

/-- An accepted command that is done ends in its effect, with its word's own write as the current access (R94, R154). -/
theorem command_ends {s u : State} {x : PWrite} {rest : List PWrite} {c : Command} (h : CommandAtIssue s x rest c)
    (accepted : c.accepted s.cc.state = true)
    (effect : EndsIn (({ s with pp := wordIssued s.pp x rest } : State).runCommand x.data c) u) :
    ∃ t, exec (rowOf c) s = .next t ∧ EndsIn t u := by
  rw [exec_row]
  refine act_ends_of_endsIn (f := fun s => s.commandRow (.known c)) h.issue.rst ?_
  rw [commandRow_of_accepted h accepted]
  exact effect

/-- The same, with the result record, which is dirty for the sequence number the command takes. -/
theorem command_ends_result {s u : State} {x : PWrite} {rest : List PWrite} {c : Command} (h : CommandAtIssue s x rest c)
    (accepted : c.accepted s.cc.state = true)
    (seq : (({ s with pp := wordIssued s.pp x rest } : State).runCommand x.data c).cba.result.seq = s.cba.result.seq + 1)
    (effect : EndsIn (({ s with pp := wordIssued s.pp x rest } : State).runCommand x.data c) u) :
    ∃ t, exec (rowOf c) s = .next t ∧ RecName.result ∈ t.cba.dirty ∧ EndsIn t u := by
  rw [exec_row]
  refine ⟨_, act_finish (fun s => s.commandRow (.known c)) h.issue.rst, result_mem_finish ?_,
    endsIn_trans (endsIn_finish ..) ?_⟩
  · rw [commandRow_of_accepted h accepted]
    exact seq
  · rw [commandRow_of_accepted h accepted]
    exact effect

/-- Settles O43. -/
theorem resetEntersResetting : Obligations.ResetEntersResetting := by
  intro s x rest h
  refine command_ends (c := .reset) h rfl ?_
  rw [State.runCommand, setResult_done]
  exact endsIn_refl _

/-! ## START -/

/-- What changing every window of a list and making its record dirty leaves. -/
theorem foldl_marks_eq (f : Window → Window) (l : List Win) (s : State) :
    l.foldl (fun t w => (t.modWin w f).touch (.win w)) s =
      { s with
        windows := (l.foldl (fun t w => (t.modWin w f).touch (.win w)) s).windows
        cba := { s.cba with dirty := (l.foldl (fun t w => (t.modWin w f).touch (.win w)) s).cba.dirty } } := by
  induction l generalizing s with
  | nil => rfl
  | cons w l ih =>
    rw [List.foldl_cons, ih]
    rw [touch_eq]
    rfl

theorem mem_dirty_foldl_marks (f : Window → Window) (r : RecName) (l : List Win) (s : State) :
    r ∈ (l.foldl (fun t w => (t.modWin w f).touch (.win w)) s).cba.dirty ↔ r ∈ s.cba.dirty ∨ ∃ w ∈ l, r = .win w := by
  induction l generalizing s with
  | nil => simp
  | cons w l ih => simp [ih, or_assoc]

/-- What the acceptance of START leaves (R26, R128). -/
theorem beginLoad_eq (s : State) : s.beginLoad = { s with
    cc := { s.cc with
      state := .loading, cycle := 0, groupPos := 0, freezeReq := false, interval := false, watchdog := false }
    windows := s.beginLoad.windows
    cba := { s.cba with
      load := some { count := 0, words := [], config := none, ending := none }, dirty := s.beginLoad.cba.dirty } } := by
  unfold State.beginLoad
  rw [touch_eq, foldl_marks_eq]

theorem mem_dirty_beginLoad (s : State) (r : RecName) :
    r ∈ s.beginLoad.cba.dirty ↔ r ∈ s.cba.dirty ∨ (∃ w, r = .win w) ∨ r = .global := by
  unfold State.beginLoad
  rw [mem_dirty_touch, mem_dirty_foldl_marks]
  simp [mem_allWindows, or_assoc]

/-- START at its taking, with the state it is taken in written out. -/
theorem endsIn_start (s : State) (code : BitVec 8) : EndsIn (s.beginLoad.setResult code .done 0)
    { s with
      cc := { s.cc with
        state := .loading, cycle := 0, groupPos := 0, freezeReq := false, interval := false, watchdog := false }
      cba := { s.cba with
        load := some { count := 0, words := [], config := none, ending := none }, result := resultRecord s code .done 0 }
      windows := s.beginLoad.windows } := by
  have begun := beginLoad_eq s
  have kept (r : RecName) (h : r ∈ s.cba.dirty) : r ∈ s.beginLoad.cba.dirty := (mem_dirty_beginLoad s r).2 (.inl h)
  rw [setResult_done]
  generalize s.beginLoad = b at begun kept
  rw [begun]
  exact ⟨rfl, kept⟩

/-- Settles O41. -/
theorem startBeginsTheLoad : Obligations.StartBeginsTheLoad := by
  intro s x rest h stopped
  have accepted : Command.start.accepted s.cc.state = true := by simp [Command.accepted, stopped]
  have seq : (({ s with pp := wordIssued s.pp x rest } : State).runCommand x.data .start).cba.result.seq =
      s.cba.result.seq + 1 := by
    rw [State.runCommand, setResult_done]
    simp [resultRecord]
  obtain ⟨t, next, result, ends⟩ := command_ends_result (c := .start) h accepted seq (endsIn_refl _)
  rw [State.runCommand] at ends
  have started := endsIn_start ({ s with pp := wordIssued s.pp x rest } : State) (cmdCode x.data)
  have marked (r : RecName) := (mem_dirty_beginLoad ({ s with pp := wordIssued s.pp x rest } : State) r).2
  have win (w : Win) := win_beginLoad ({ s with pp := wordIssued s.pp x rest } : State) w
  generalize ({ s with pp := wordIssued s.pp x rest } : State).beginLoad = b at ends started marked win
  have windows : t.windows = b.windows := (endsIn_windows ends).trans (by rw [setResult_done])
  have dirty {r : RecName} (h : (∃ w, r = .win w) ∨ r = .global) : r ∈ t.cba.dirty :=
    mem_dirty_of_endsIn ends (by rw [setResult_done]; exact marked r (.inr h))
  refine ⟨t, next, windows ▸ endsIn_trans ends started, dirty (.inr rfl), result, fun w => dirty (.inl ⟨w, rfl⟩),
    fun w => ?_⟩
  rw [win_congr windows, win]
  rfl

/-! ## STOP -/

theorem foldl_modWin_eq (f : Window → Window) (l : List Win) (s : State) :
    l.foldl (fun t w => t.modWin w f) s = { s with windows := (l.foldl (fun t w => t.modWin w f) s).windows } := by
  induction l generalizing s with
  | nil => rfl
  | cons w l ih =>
    rw [List.foldl_cons, ih]
    rfl

theorem withdrawRead_cba (s : State) : s.withdrawRead.cba = { s.cba with request := s.withdrawRead.cba.request } := by
  unfold State.withdrawRead
  split
  · rfl
  · split <;> rfl

theorem withdrawRead_request {s : State} (notK : s.mp.grant.holder ≠ some .k) :
    s.withdrawRead.cba.request = none ∨ s.withdrawRead.cba.request = some .writeback := by
  unfold State.withdrawRead
  rw [if_neg notK]
  split
  next request => exact .inr request
  · exact .inl rfl

/-- What the acceptance of STOP leaves, before the retry of a field access (R35, R36). -/
theorem stopped_eq (s : State) : stopped s = { s with
    cc := { s.cc with
      state := .draining, lowSeen := false, freezeReq := false, interval := false, watchdog := false
      drainSet := s.drainWork }
    ce := { jobs := [], running := false, request := false }
    nu := { s.nu with reservations := [] }
    cba := { s.cba with request := s.withdrawRead.cba.request, load := none, loadQueue := [], fetch := none }
    windows := (stopped s).windows } := by
  unfold stopped
  rw [foldl_modWin_eq, withdrawRead_cba]

/-- Whether a read of requester K is granted. -/
def readGranted : Grant → Bool
  | .single g => decide (g.work = .loadRead ∨ g.work = .fetchRead)
  | _ => false

theorem drainWork_eq (s : State) : s.drainWork =
    (if s.pp.current.isSome then [.p] else []) ++ (if s.fp.inFlight.isSome then [.f] else []) ++
      if s.mp.grant.holder = some .c then [.pair] else if readGranted s.mp.grant then [.read] else [] := by
  unfold State.drainWork
  congr 1
  cases s.mp.grant with
  | free => rfl
  | single g => cases work : g.work <;> simp [Grant.holder, SingleWork.holder, readGranted, work]
  | pairRead g => by_cases ours : g.work.holder = .c <;> simp [Grant.holder, readGranted, ours]
  | pairWrite g d => by_cases ours : g.work.holder = .c <;> simp [Grant.holder, readGranted, ours]

theorem readGranted_iff (s : State) : readGranted s.mp.grant = true ↔
    ∃ g, s.mp.grant = .single g ∧ (g.work = .loadRead ∨ g.work = .fetchRead) := by
  cases s.mp.grant <;> simp [readGranted]

theorem holder_of_readGranted {g : Grant} (h : readGranted g = true) : g.holder ≠ some .c := by
  cases g with
  | single g =>
    simp only [readGranted, decide_eq_true_eq] at h
    rcases h with h | h <;> simp [Grant.holder, SingleWork.holder, h]
  | _ => exact nomatch h

/-- What STOP waits for beside the Notice Queue (R35, R36). -/
theorem mem_drainWork (s : State) : s.drainWork.Nodup ∧
    (.p ∈ s.drainWork ↔ s.pp.current ≠ none) ∧ (.f ∈ s.drainWork ↔ s.fp.inFlight ≠ none) ∧
    (.pair ∈ s.drainWork ↔ s.mp.grant.holder = some .c) ∧
    (.read ∈ s.drainWork ↔ ∃ g, s.mp.grant = .single g ∧ (g.work = .loadRead ∨ g.work = .fetchRead)) := by
  rw [drainWork_eq, ← readGranted_iff]
  have apart := holder_of_readGranted (g := s.mp.grant)
  by_cases pair : s.mp.grant.holder = some .c
  · have noRead : readGranted s.mp.grant = false := by
      rw [← Bool.not_eq_true]
      exact fun read => apart read pair
    cases s.pp.current <;> cases s.fp.inFlight <;> simp [pair, noRead]
  · cases readGranted s.mp.grant <;> cases s.pp.current <;> cases s.fp.inFlight <;> simp [pair]

theorem decoded_of_classify_window {s : State} {q : Port} {write : Bool} {a : Addr} {w : Win}
    (h : s.classify q write a = .window w) : a.toNat < s.memSize ∧ s.inCB a = false := by
  constructor
  · by_contra beyond
    exact classify_ne_window (.inl (Nat.not_lt.1 beyond)) write w h
  · by_contra inCB
    exact classify_ne_window (.inr (.inl (by simpa using inCB))) write w h

theorem classify_of_stalls {s : State} {q : Port} {write : Bool} {a : Addr} (running : s.cc.state ≠ .resetting)
    (h : s.stalls q write a = true) : ∃ w, s.classify q write a = .window w := by
  by_contra none
  rw [stalls_of_ne_window running fun w k => none ⟨w, k⟩] at h
  exact nomatch h

/-- With every window IDLE an access of image memory passes through (R36, R89). -/
theorem classify_unused {s u : State} {a : Addr} (unused : ∀ w, (u.win w).inUse = none) (lines : u.lines = s.lines)
    (draining : u.cc.state = .draining) (inMemory : a.toNat < s.memSize) (outside : s.inCB a = false) (q : Port)
    (write : Bool) : u.classify q write a = .pass := by
  have size : u.memSize = s.memSize := by rw [State.memSize, State.memSize, lines]
  have cb : u.inCB a = s.inCB a := by rw [State.inCB, State.inCB, State.cbBase, State.cbBase, lines]
  refine classify_nowhere ⟨size ▸ inMemory, cb.trans outside, ?_⟩ (fun v => ?_) (fun v => ?_) write
  · rw [draining]
    rfl
  · simp [State.inView, unused]
  · simp [State.inBank, unused]

/-- The F port after the acceptance of STOP: an access held at a window is retried, and passes through (R36, R100). -/
def stoppedPort (s : State) : FPort :=
  match s.fp.held, s.fp.inFlight with
  | some a, none =>
    if s.stalls .f a.write a.addr then
      { held := none, inFlight := some {
          win := none, bankWrite := false, dir := if a.write then .write else .read, addr := a.addr, be := a.be
          data := a.data } }
    else s.fp
  | _, _ => s.fp

theorem reachF_passes {u : State} {a : Access} (running : u.cc.state ≠ .resetting)
    (passes : u.classify .f a.write a.addr = .pass) (free : u.fp.inFlight = none) : u.reachF a =
      { u with fp := { held := none, inFlight := some {
        win := none, bankWrite := false, dir := if a.write then .write else .read, addr := a.addr, be := a.be
        data := a.data } } } := by
  have open_ : u.stalls .f a.write a.addr = false := stalls_of_ne_window running fun v => by rw [passes]; nofun
  rw [State.reachF, open_]
  simp only [Bool.false_eq_true, if_false, free]
  exact issueF_passes (s := { u with fp := { held := none, inFlight := none } }) rfl
    (.inl ((classify_congr rfl rfl (fun _ => rfl) ..).trans passes))

theorem retryF_unused {s u : State} (port : u.fp = s.fp) (running : s.cc.state ≠ .resetting)
    (unused : ∀ w, (u.win w).inUse = none) (lines : u.lines = s.lines) (draining : u.cc.state = .draining) :
    retryF s u = { u with fp := stoppedPort s } := by
  have kept : u = { u with fp := s.fp } := by rw [← port]
  have running' : u.cc.state ≠ .resetting := by rw [draining]; nofun
  unfold retryF stoppedPort
  rw [port]
  cases held : s.fp.held with
  | none => exact kept
  | some a =>
    cases free : s.fp.inFlight with
    | some b => exact kept
    | none =>
      dsimp only
      cases stalls : s.stalls .f a.write a.addr with
      | false => exact kept
      | true =>
        obtain ⟨w, window⟩ := classify_of_stalls running stalls
        obtain ⟨inMemory, outside⟩ := decoded_of_classify_window window
        have passes := classify_unused unused lines draining inMemory outside .f a.write
        have open_ : u.stalls .f a.write a.addr = false := stalls_of_ne_window running' fun v => by rw [passes]; nofun
        rw [open_]
        exact reachF_passes running' passes (port ▸ free)

theorem stop_frame {s : State} (running : s.cc.state ≠ .resetting) : s.stop = { stopped s with fp := stoppedPort s } := by
  have eq := stopped_eq s
  have win := win_stopped s
  rw [stop_eq]
  generalize stopped s = u at eq win
  refine retryF_unused (by rw [eq]) running (fun w => ?_) (by rw [eq]) (by rw [eq])
  rw [win]
  exact inUse_of_idle rfl

theorem finish_request {s t : State} (noRead : t.readWaits = false) :
    (finish s t).cba.request = t.cba.request ∨ (finish s t).cba.request = some .writeback := by
  have joined : (joinDirty s t).readWaits = false := noRead
  unfold finish presentK
  split
  · exact .inl rfl
  · rw [joined]
    simp only [Bool.false_and, Bool.false_eq_true, if_false]
    split
    · exact .inr rfl
    · exact .inl rfl

/-- What STOP leaves at its taking (R35, R36). -/
theorem stop_written_out {s : State} (running : s.cc.state ≠ .resetting) : s.stop = { s with
    cc := { s.cc with
      state := .draining, lowSeen := false, freezeReq := false, interval := false, watchdog := false
      drainSet := s.drainWork }
    ce := { jobs := [], running := false, request := false }
    nu := { s.nu with reservations := [] }
    cba := { s.cba with request := s.withdrawRead.cba.request, load := none, loadQueue := [], fetch := none }
    windows := s.stop.windows
    fp := stoppedPort s } := by
  have eq := stopped_eq s
  rw [stop_frame running]
  generalize stopped s = u at eq
  rw [eq]

theorem win_stop {s : State} (running : s.cc.state ≠ .resetting) (w : Win) : s.stop.win w = (s.win w).stopped := by
  have frame := stop_frame running
  have win := win_stopped s w
  generalize stopped s = u at frame win
  rw [frame, ← win]
  rfl

theorem stoppedPort_wordIssued (s : State) (x : PWrite) (rest : List PWrite) :
    stoppedPort { s with pp := wordIssued s.pp x rest } = stoppedPort s := by
  have stalls (a : Access) : ({ s with pp := wordIssued s.pp x rest } : State).stalls .f a.write a.addr =
      s.stalls .f a.write a.addr := stalls_congr rfl rfl (fun _ => rfl) ..
  simp only [stoppedPort, stalls]

/-- Settles O42. -/
theorem stopDrains : Obligations.StopDrains := by
  intro s x rest h states
  have accepted : Command.stop.accepted s.cc.state = true := by
    rw [← live_iff_armed] at states
    simpa [Command.accepted] using states
  have running : s.cc.state ≠ .resetting := h.issue.running
  obtain ⟨distinct, p, f, pair, read⟩ := mem_drainWork { s with pp := wordIssued s.pp x rest }
  have effect := commandRow_of_accepted h accepted
  rw [State.runCommand, setResult_done] at effect
  have port := stoppedPort_wordIssued s x rest
  have win := win_stop (s := { s with pp := wordIssued s.pp x rest }) running
  have full := stop_written_out (s := { s with pp := wordIssued s.pp x rest }) running
  have withdrawn := withdrawRead_request (s := { s with pp := wordIssued s.pp x rest })
  generalize ({ s with pp := wordIssued s.pp x rest } : State).stop = u at effect win full
  have ends := endsIn_finish s (s.commandRow (.known .stop))
  have noRead : (s.commandRow (.known .stop)).readWaits = false := by
    rw [effect, full]
    rfl
  have request := finish_request (s := s) noRead
  have next := act_finish (fun s => s.commandRow (.known .stop)) h.issue.rst
  generalize finish s (s.commandRow (.known .stop)) = t at ends request next
  have windows : t.windows = u.windows := (endsIn_windows ends).trans (by rw [effect])
  refine ⟨t, next, fun w => ?_, ⟨_, distinct, p.2 nofun, f, pair, read, ?_⟩, fun notK => ?_⟩
  · rw [win_congr windows, win]
    rfl
  · rw [port] at full
    rw [effect] at ends
    refine endsIn_trans ends ⟨?_, fun r dirty => ?_⟩
    · rw [windows, full]
      rfl
    · rw [full]
      exact dirty
  · have none : (s.commandRow (.known .stop)).cba.request = none ∨ (s.commandRow (.known .stop)).cba.request = some .writeback := by
      rw [effect, full]
      exact withdrawn notK
    rcases request with same | same
    · rcases none with none | none <;> simp [same, none]
    · simp [same]

end Sys2Proof.Laws
end

section
/-! Commands taken window by window (chapter 11.2): HOLD, RELEASE, COMMIT, SWITCH and CANCEL. -/

namespace Sys2Proof.Laws

open Sys2Proof Sys2Proof.Machine Sys2Proof.Safety

/-! ## The named windows in turn -/

theorem winBit_getLsbD (v w : Win) : (winBit v).getLsbD w.val = decide (w = v) := by
  have below := w.isLt
  simp only [winBit, BitVec.getLsbD_shiftLeft, below, decide_true, Bool.true_and, BitVec.getLsbD_one, Fin.ext_iff]
  by_cases same : w.val = v.val
  · simp [same]
  · simp only [same, decide_false, Bool.and_eq_false_imp, Bool.not_eq_true', decide_eq_false_iff_not]
    omega

/-- The states that the taking of a per-window command goes through (R153): `Q done` holds when the windows of `done` have
been gone through, `why` being the reason to refuse each window. -/
structure TakesInTurn (test : State → Win → Reason) (effect : State → Win → State) (mask : BitVec 16) (why : Win → Reason)
    (Q : List Win → State → Prop) : Prop where
  test    : ∀ done t w, Q done t → w ∉ done → test t w = why w
  skips   : ∀ done t w, Q done t → w ∉ done → mask.getLsbD w.val = false → Q (done ++ [w]) t
  refuses : ∀ done t w, Q done t → w ∉ done → mask.getLsbD w.val = true → why w ≠ .none →
    Q (done ++ [w]) (t.refuse w (why w))
  effects : ∀ done t w, Q done t → w ∉ done → mask.getLsbD w.val = true → why w = .none → Q (done ++ [w]) (effect t w)

section
variable {test : State → Win → Reason} {effect : State → Win → State} {mask : BitVec 16} {why : Win → Reason}
  {Q : List Win → State → Prop} (h : TakesInTurn test effect mask why Q)
include h

theorem takeWindow_in_turn {done : List Win} {acc : Taking} {w : Win} (fresh : w ∉ done) (before : Q done acc.s)
    (refused : ∀ v : Win, acc.refused.getLsbD v.val = (decide (v ∈ done) && mask.getLsbD v.val && why v != .none)) :
    Q (done ++ [w]) (takeWindow test effect mask acc w).s ∧
      ∀ v : Win, (takeWindow test effect mask acc w).refused.getLsbD v.val =
        (decide (v ∈ done ++ [w]) && mask.getLsbD v.val && why v != .none) := by
  unfold takeWindow
  cases named : mask.getLsbD w.val with
  | false =>
    simp only [Bool.false_eq_true, if_false]
    refine ⟨h.skips _ _ _ before fresh named, fun v => ?_⟩
    rw [refused]
    by_cases own : v = w
    · rw [own, named]
      simp
    · simp [own]
  | true =>
    rw [h.test _ _ _ before fresh]
    by_cases accepted : why w = .none
    · simp only [accepted, if_true]
      refine ⟨h.effects _ _ _ before fresh named accepted, fun v => ?_⟩
      rw [refused]
      by_cases own : v = w
      · simp [own, accepted]
      · simp [own]
    · simp only [accepted, if_true, if_false]
      refine ⟨h.refuses _ _ _ before fresh named accepted, fun v => ?_⟩
      rw [BitVec.getLsbD_or, winBit_getLsbD, refused]
      by_cases own : v = w
      · rw [own, named]
        simp [fresh, accepted]
      · simp [own]

theorem takeWindows_in_turn {s : State} (start : Q [] s) :
    Q allWindows (takeWindows test effect mask s).s ∧
      ∀ w : Win, (takeWindows test effect mask s).refused.getLsbD w.val = (mask.getLsbD w.val && why w != .none) := by
  have each (l done : List Win) (nodup : (done ++ l).Nodup) (acc : Taking) (before : Q done acc.s)
      (refused : ∀ v : Win, acc.refused.getLsbD v.val = (decide (v ∈ done) && mask.getLsbD v.val && why v != .none)) :
      Q (done ++ l) (l.foldl (takeWindow test effect mask) acc).s ∧
        ∀ v : Win, (l.foldl (takeWindow test effect mask) acc).refused.getLsbD v.val =
          (decide (v ∈ done ++ l) && mask.getLsbD v.val && why v != .none) := by
    induction l generalizing done acc with
    | nil => simpa using ⟨before, refused⟩
    | cons w l ih =>
      rw [List.append_cons] at nodup ⊢
      have fresh : w ∉ done := by
        have := (List.nodup_append.1 (List.nodup_append.1 nodup).1).2.2
        exact fun mem => this w mem w (by simp) rfl
      obtain ⟨next, bits⟩ := takeWindow_in_turn h fresh before refused
      exact ih _ nodup _ next bits
  obtain ⟨all, bits⟩ := each allWindows [] (by simpa using nodup_allWindows) { s := s, refused := 0 } start (by simp)
  refine ⟨all, fun w => (bits w).trans ?_⟩
  rw [List.nil_append, decide_eq_true (mem_allWindows w), Bool.true_and]

end

/-! ## The result of a per-window command -/

theorem resultOf_eq_done_iff (mask refused : BitVec 16) : resultOf mask refused = .done ↔ refused = 0 := by
  unfold resultOf
  split
  next none => simp [none]
  next some => split <;> simp_all

theorem mem_dirty_setResult {s : State} {name : RecName} (code : BitVec 8) (r : ResultCode) (refused : BitVec 16)
    (h : name ∈ s.cba.dirty ∨ (r ≠ .done ∧ name = .global)) : name ∈ (s.setResult code r refused).cba.dirty := by
  unfold State.setResult
  dsimp only
  split
  next done => exact h.resolve_right fun k => k.1 done
  · exact (mem_dirty_record ..).2 (h.imp_right And.right)

/-- What the result record shows of a per-window command, and what it records (R153, R154). -/
theorem windowedResult_of_ends {s done t : State} {x : PWrite} {why : Win → Reason} {refused : BitVec 16}
    (bits : ∀ w : Win, refused.getLsbD w.val = (named x w && why w != .none))
    (result : done.cba.result = s.cba.result) (causes : done.cba.causes = s.cba.causes)
    (dirty : ∀ w : Win, named x w = true → why w ≠ .none → RecName.win w ∈ done.cba.dirty)
    (ends : EndsIn t (done.setResult (cmdCode x.data) (resultOf (cmdMask x.data) refused) refused)) :
    WindowedResult s t x why := by
  have shown : t.cba.result = resultRecord s (cmdCode x.data) (resultOf (cmdMask x.data) refused) refused := by
    rw [endsIn_result ends, setResult_result, resultRecord, result]
  have mask : t.cba.result.refused = refused := by rw [shown]; rfl
  refine ⟨fun w => mask ▸ bits w, mask ▸ shown, ?_, fun w isNamed isRefused => ?_⟩
  · rw [mask, endsIn_causes ends, setResult_causes, causes]
    simp only [resultOf_eq_done_iff]
  · have some : resultOf (cmdMask x.data) refused ≠ .done := by
      rw [Ne, resultOf_eq_done_iff]
      rintro rfl
      have := bits w
      simp [isNamed, isRefused] at this
    exact ⟨mem_dirty_of_endsIn ends (mem_dirty_setResult _ _ _ (.inl (dirty w isNamed isRefused))),
      mem_dirty_of_endsIn ends (mem_dirty_setResult _ _ _ (.inr ⟨some, rfl⟩))⟩

/-! ## Commands that change the record of each window they accept -/

/-- A per-window command that only changes records has gone through the windows of `done` (R153). -/
structure RecordsTaken (s : State) (x : PWrite) (why : Win → Reason) (f : Window → Window) (done : List Win) (t : State) :
    Prop where
  win   : ∀ v, t.win v = if v ∈ done then afterCommand x why f v (s.win v) else s.win v
  frame : t = { s with windows := t.windows, cba := { s.cba with dirty := t.cba.dirty } }
  kept  : ∀ r ∈ s.cba.dirty, r ∈ t.cba.dirty
  dirty : ∀ w ∈ done, named x w = true → why w ≠ .none → RecName.win w ∈ t.cba.dirty

theorem recordsTaken_nil (s : State) (x : PWrite) (why : Win → Reason) (f : Window → Window) :
    RecordsTaken s x why f [] s := ⟨fun v => by simp, rfl, fun _ => id, by simp⟩

section
variable {s t : State} {x : PWrite} {why : Win → Reason} {f : Window → Window} {done : List Win} {w : Win}
  (h : RecordsTaken s x why f done t) (fresh : w ∉ done)
include h fresh

theorem recordsTaken_win : t.win w = s.win w := by rw [h.win, if_neg fresh]

theorem recordsTaken_snoc {u : State} (win : ∀ v, u.win v = if v = w then afterCommand x why f w (s.win w) else t.win v)
    (frame : u = { t with windows := u.windows, cba := { t.cba with dirty := u.cba.dirty } })
    (kept : ∀ r ∈ t.cba.dirty, r ∈ u.cba.dirty)
    (dirty : named x w = true → why w ≠ .none → RecName.win w ∈ u.cba.dirty) :
    RecordsTaken s x why f (done ++ [w]) u where
  win v := by
    rw [win, h.win]
    by_cases own : v = w
    · simp [own]
    · simp [own]
  frame := by
    rw [h.frame] at frame
    exact frame
  kept r hr := kept r (h.kept r hr)
  dirty v hv isNamed isRefused := by
    rcases List.mem_append.1 hv with old | new
    · exact kept _ (h.dirty v old isNamed isRefused)
    · obtain rfl := List.mem_singleton.1 new
      exact dirty isNamed isRefused

theorem recordsTaken_skips (notNamed : named x w = false) : RecordsTaken s x why f (done ++ [w]) t := by
  refine recordsTaken_snoc h fresh (fun v => ?_) rfl (fun _ => id) (by simp [notNamed])
  split
  next own => rw [own, recordsTaken_win h fresh]; simp [afterCommand, notNamed]
  · rfl

theorem recordsTaken_refuses (isNamed : named x w = true) (isRefused : why w ≠ .none) :
    RecordsTaken s x why f (done ++ [w]) (t.refuse w (why w)) := by
  refine recordsTaken_snoc h fresh (fun v => ?_) ?_ (fun r hr => (mem_dirty_touch ..).2 (.inl hr))
    (fun _ _ => (mem_dirty_touch ..).2 (.inr rfl))
  · rw [State.refuse, win_touch, win_modWin, recordsTaken_win h fresh]
    simp [afterCommand, isNamed, isRefused]
  · rw [State.refuse, touch_eq]
    rfl

theorem recordsTaken_effects (isNamed : named x w = true) (accepted : why w = .none) :
    RecordsTaken s x why f (done ++ [w]) (t.modWin w f) := by
  refine recordsTaken_snoc h fresh (fun v => ?_) rfl (fun _ => id) (fun _ isRefused => absurd accepted isRefused)
  rw [win_modWin, recordsTaken_win h fresh]
  simp [afterCommand, isNamed, accepted]

end

/-- The end of a per-window command, from the state its windows leave (R153), and what the command does after them. -/
theorem perWindow_ends_then {s : State} {x : PWrite} {rest : List PWrite} {c : Command} {test : State → Win → Reason}
    {effect : State → Win → State} {why : Win → Reason} {Q : List Win → State → Prop} {post : State → State}
    (h : CommandAtIssue s x rest c)
    (accepted : c.accepted s.cc.state = true)
    (takes : TakesInTurn test effect (cmdMask x.data) why Q) (start : Q [] { s with pp := wordIssued s.pp x rest })
    (run : ({ s with pp := wordIssued s.pp x rest } : State).runCommand x.data c =
      post (({ s with pp := wordIssued s.pp x rest } : State).perWindow test effect x.data))
    (after : ∀ u code r refused, post (u.setResult code r refused) = (post u).setResult code r refused)
    (leaves : ∀ u, Q allWindows u → (post u).cba.result = s.cba.result ∧ (post u).cba.causes = s.cba.causes ∧
      ∀ w : Win, named x w = true → why w ≠ .none → RecName.win w ∈ (post u).cba.dirty) :
    ∃ t u, exec (rowOf c) s = .next t ∧ Q allWindows u ∧ WindowedResult s t x why ∧
      EndsIn t { post u with cba := { (post u).cba with result := t.cba.result, causes := t.cba.causes } } := by
  obtain ⟨taken, bits⟩ := takeWindows_in_turn takes start
  obtain ⟨result, causes, dirty⟩ := leaves _ taken
  obtain ⟨t, next, ends⟩ := command_ends h accepted (endsIn_refl _)
  rw [run, State.perWindow, after] at ends
  refine ⟨t, _, next, taken, windowedResult_of_ends bits result causes dirty ends, endsIn_trans ends ?_⟩
  have shown := endsIn_result ends
  have recorded := endsIn_causes ends
  rw [shown, recorded]
  refine ⟨?_, fun r hr => mem_dirty_setResult _ _ _ (.inl hr)⟩
  unfold State.setResult
  dsimp only
  split
  · rfl
  · rw [record_eq]

theorem perWindow_ends {s : State} {x : PWrite} {rest : List PWrite} {c : Command} {test : State → Win → Reason}
    {effect : State → Win → State} {why : Win → Reason} {Q : List Win → State → Prop} (h : CommandAtIssue s x rest c)
    (accepted : c.accepted s.cc.state = true)
    (takes : TakesInTurn test effect (cmdMask x.data) why Q) (start : Q [] { s with pp := wordIssued s.pp x rest })
    (run : ({ s with pp := wordIssued s.pp x rest } : State).runCommand x.data c =
      ({ s with pp := wordIssued s.pp x rest } : State).perWindow test effect x.data)
    (leaves : ∀ u, Q allWindows u → u.cba.result = s.cba.result ∧ u.cba.causes = s.cba.causes ∧
      ∀ w : Win, named x w = true → why w ≠ .none → RecName.win w ∈ u.cba.dirty) :
    ∃ t u, exec (rowOf c) s = .next t ∧ Q allWindows u ∧ WindowedResult s t x why ∧
      EndsIn t { u with cba := { u.cba with result := t.cba.result, causes := t.cba.causes } } :=
  perWindow_ends_then (post := id) h accepted takes start run (fun _ _ _ _ => rfl) leaves

/-- The end of a per-window command that only changes records. -/
theorem records_end {s : State} {x : PWrite} {rest : List PWrite} {c : Command} {test : State → Win → Reason}
    {f : Window → Window} {why : Win → Reason} (h : CommandAtIssue s x rest c) (accepted : c.accepted s.cc.state = true)
    (run : ({ s with pp := wordIssued s.pp x rest } : State).runCommand x.data c =
      ({ s with pp := wordIssued s.pp x rest } : State).perWindow test (fun s w => s.modWin w f) x.data)
    (tests : ∀ t w, t.cba.loadQueue = s.cba.loadQueue → t.win w = s.win w → test t w = why w) :
    ∃ t, exec (rowOf c) s = .next t ∧ WindowedResult s t x why ∧ (∀ w, t.win w = afterCommand x why f w (s.win w)) ∧
      EndsIn t
        { s with
          pp := wordIssued s.pp x rest
          windows := t.windows
          cba := { s.cba with result := t.cba.result, causes := t.cba.causes } } := by
  have takes : TakesInTurn test (fun s w => s.modWin w f) (cmdMask x.data) why
      (RecordsTaken { s with pp := wordIssued s.pp x rest } x why f) := by
    refine ⟨fun done t w taken fresh => ?_, fun done t w taken fresh => recordsTaken_skips taken fresh,
      fun done t w taken fresh => recordsTaken_refuses taken fresh,
      fun done t w taken fresh => recordsTaken_effects taken fresh⟩
    exact tests t w (by rw [taken.frame]) ((recordsTaken_win taken fresh).trans rfl)
  obtain ⟨t, u, next, taken, windowed, ends⟩ := perWindow_ends h accepted takes (recordsTaken_nil ..) run
    fun u taken => ⟨by rw [taken.frame], by rw [taken.frame], fun w => taken.dirty w (mem_allWindows w)⟩
  have windows : t.windows = u.windows := (endsIn_windows ends).trans rfl
  refine ⟨t, next, windowed, fun w => ?_, endsIn_trans ends ⟨?_, fun r hr => taken.kept r hr⟩⟩
  · rw [win_congr windows, taken.win, if_pos (mem_allWindows w)]
    rfl
  · have frame := taken.frame
    rw [windows]
    generalize t.cba.result = result, t.cba.causes = causes
    rw [frame]

/-! ## HOLD, RELEASE and COMMIT -/

theorem inputTest_congr {s t : State} {w : Win} (h : t.win w = s.win w) : inputTest t w = inputTest s w := by
  rw [inputTest, inputTest, h]

theorem commitTest_congr {s t : State} {w : Win} (h : t.win w = s.win w) : commitTest t w = commitTest s w := by
  rw [commitTest, commitTest, h]

theorem accepted_of_armed {c : Command} {state : CState} (armed : Armed state) (windowed : c.windowed = true) :
    c.accepted state = true := by
  rw [← live_iff_armed] at armed
  cases c <;> simp_all [Command.accepted, Command.windowed]

/-- Settles O45. -/
theorem holdReleaseAndCommit : Obligations.HoldReleaseAndCommit := by
  intro s x rest armed notInput notOpen done
  have input (w : Win) : inputTest s w = notInput w := by
    simp only [inputTest, notInput]
    cases (s.win w).inUse with
    | none => rfl
    | some d => cases kind : d.kind <;> simp [kind]
  have output (w : Win) : commitTest s w = notOpen w := by
    simp only [commitTest, notOpen]
    cases (s.win w).inUse with
    | none => rfl
    | some d => cases kind : d.kind <;> simp [kind]
  exact ⟨fun h => records_end h (accepted_of_armed armed rfl) rfl fun t w _ win => (inputTest_congr win).trans (input w),
    fun h => records_end h (accepted_of_armed armed rfl) rfl fun t w _ win => (inputTest_congr win).trans (input w),
    fun h => records_end h (accepted_of_armed armed rfl) rfl fun t w _ win => (commitTest_congr win).trans (output w)⟩

/-! ## SWITCH and CANCEL -/

theorem otherSlot_eq (x : Window) : x.slot x.active.other = if x.active = .a then x.slotB else x.slotA := by
  cases active : x.active <;> simp [Window.slot, SlotName.other]

/-- A per-window command that refuses no window is done (R153). -/
theorem windowedResult_done {s t : State} {x : PWrite} {why : Win → Reason} (h : WindowedResult s t x why)
    (accepts : ∀ w, why w = .none) :
    t.cba.result = resultRecord s (cmdCode x.data) .done 0 ∧ t.cba.causes = s.cba.causes := by
  have none : t.cba.result.refused = 0 := by
    refine BitVec.eq_of_getLsbD_eq fun i below => ?_
    have bit := h.mask ⟨i, below⟩
    rw [accepts] at bit
    simpa using bit
  have record := h.record
  have causes := h.causes
  rw [none] at record causes
  exact ⟨record, causes⟩

/-- Settles O46. -/
theorem switchAndCancel : Obligations.SwitchAndCancel := by
  intro s x rest armed why
  have test (t : State) (w : Win) (queue : t.cba.loadQueue = s.cba.loadQueue) (win : t.win w = s.win w) :
      switchTest t w = why w := by
    simp only [switchTest, why, queue, win, otherSlot_eq, Option.isNone_iff_eq_none]
  refine ⟨fun h => records_end h (accepted_of_armed armed rfl) rfl test, fun h => ?_⟩
  obtain ⟨t, next, windowed, win, ends⟩ := records_end (why := fun _ => .none) (f := fun y => { y with switchPending := false })
    h (accepted_of_armed armed rfl) rfl (test := cancelTest) fun _ _ _ _ => rfl
  obtain ⟨record, causes⟩ := windowedResult_done windowed fun _ => rfl
  rw [record, causes] at ends
  exact ⟨t, next, fun w => (win w).trans (by simp [afterCommand]), ends⟩

end Sys2Proof.Laws
end

section
/-! REARM and LOAD, window by window (chapters 4.4, 4.6 and 9.2). -/

namespace Sys2Proof.Laws

open Sys2Proof Sys2Proof.Machine Sys2Proof.Safety

/-! ## REARM -/

theorem withoutJobs_withoutJobs (ce : CopyEngine) (gone : Win → Bool) (w : Win) :
    withoutJobs (withoutJobs ce gone) (fun v => v == w) = withoutJobs ce fun v => gone v || v == w := by
  simpa using withoutJobs_append ce gone w [] (by simp)

theorem hasJob_withoutJobs {s t : State} {gone : Win → Bool} {w : Win} (ce : t.ce = withoutJobs s.ce gone)
    (stays : gone w = false) : t.hasJob w = s.hasJob w := by
  rw [Bool.eq_iff_iff, hasJob_iff, hasJob_iff, ce]
  simp only [withoutJobs, List.mem_filter]
  refine exists_congr fun j => ⟨fun h => ⟨h.1.1, h.2⟩, fun h => ⟨⟨h.1, ?_⟩, h.2⟩⟩
  rw [h.2, stays]
  rfl

theorem jobsLeave_append (l m : List Win) (waitSet : List WaitMember) :
    jobsLeave (l ++ m) waitSet = jobsLeave m (jobsLeave l waitSet) := List.foldl_append

theorem endJob_eq (s : State) (w : Win) : s.endJob w = { s with
    windows := (s.endJob w).windows
    ce := withoutJobs s.ce fun v => v == w
    cba := { s.cba with dirty := (s.endJob w).cba.dirty } } := by
  have frame := (framed_endJob s w).of_causes (by simp)
  rw [endJob_ce, (endJob_keeps s w).2.2.2.2.1] at frame
  exact frame

/-- The end of a job, as the statements say it (R87). -/
theorem jobEnded_endJob (s : State) (w : Win) : JobEnded s (s.endJob w) w where
  kept := (dirties_endJob (p := fun _ => True) s trivial).kept
  dirty job := by
    unfold State.endJob
    rw [if_pos job]
    simp
  windows := win_endJob_jobsLeave s w
  rest := endJob_eq s w

/-- The record of a window that REARM primes (R11, R55, R76). -/
def rearmed (y : Window) : Window :=
  { y with
    state := if y.desc.any (fun d => d.kind == .input) then .filling else .composing
    fill := if y.desc.any (fun d => d.kind == .input) then (y.desc.map Descriptor.expect).getD 0 else 0
    role := false, valid := false, held := false, safe := false, miss := 0, carry := [] }

theorem primed_eq_rearmed {y : Window} {d : Descriptor} (desc : y.desc = some d) : y.primed d = rearmed y := by
  unfold Window.primed rearmed
  rw [desc]
  cases kind : d.kind <;> simp [kind]

/-- The windows that REARM primes. -/
def primes (x : PWrite) (why : Win → Reason) (w : Win) : Bool := named x w && why w == .none

/-- REARM has gone through the windows of `done` (R55, R76, R153). -/
structure Rearmed (s : State) (x : PWrite) (why : Win → Reason) (done : List Win) (t : State) : Prop where
  win    : ∀ v, t.win v = { (if v ∈ done then afterCommand x why rearmed v (s.win v) else s.win v) with
    waitSet := jobsLeave (done.filter fun v => primes x why v && s.hasJob v) (s.win v).waitSet }
  frame  : t = { s with
    windows := t.windows
    ce := withoutJobs s.ce fun v => decide (v ∈ done) && primes x why v
    cba := { s.cba with dirty := t.cba.dirty } }
  kept   : ∀ r ∈ s.cba.dirty, r ∈ t.cba.dirty
  dirty  : ∀ w ∈ done, named x w = true → RecName.win w ∈ t.cba.dirty

theorem rearmed_nil (s : State) (x : PWrite) (why : Win → Reason) : Rearmed s x why [] s where
  win v := by simp [jobsLeave]
  frame := by simp [withoutJobs_none]
  kept _ := id
  dirty := by simp

section
variable {s t : State} {x : PWrite} {why : Win → Reason} {done : List Win} {w : Win}
  (h : Rearmed s x why done t) (fresh : w ∉ done)
include h

include fresh

theorem Rearmed.inUse : (t.win w).inUse = (s.win w).inUse := by
  rw [h.win, if_neg fresh]
  exact inUse_congr rfl rfl rfl Iff.rfl

theorem Rearmed.hasJob : t.hasJob w = s.hasJob w :=
  hasJob_withoutJobs (gone := fun v => decide (v ∈ done) && primes x why v) (by rw [h.frame]) (by simp [fresh])

theorem rearmed_snoc {u : State}
    (win : ∀ v, u.win v =
      { (if v = w then { afterCommand x why rearmed w (s.win w) with waitSet := (t.win v).waitSet } else t.win v) with
        waitSet := jobsLeave (if primes x why w && s.hasJob w then [w] else []) (t.win v).waitSet })
    (frame : u = { t with
      windows := u.windows
      ce := if primes x why w then withoutJobs t.ce (fun v => v == w) else t.ce
      cba := { t.cba with dirty := u.cba.dirty } })
    (kept : ∀ r ∈ t.cba.dirty, r ∈ u.cba.dirty) (dirty : named x w = true → RecName.win w ∈ u.cba.dirty) :
    Rearmed s x why (done ++ [w]) u where
  win v := by
    have leave : (done ++ [w]).filter (fun v => primes x why v && s.hasJob v) =
        done.filter (fun v => primes x why v && s.hasJob v) ++ if primes x why w && s.hasJob w then [w] else [] := by
      rw [List.filter_append, List.filter_singleton, Bool.cond_eq_ite]
    rw [win, leave, jobsLeave_append, h.win]
    by_cases own : v = w
    · subst own
      simp
    · simp [own]
  frame := by
    have gone : (if primes x why w then withoutJobs t.ce (fun v => v == w) else t.ce) =
        withoutJobs s.ce fun v => decide (v ∈ done ++ [w]) && primes x why v := by
      have ce : t.ce = withoutJobs s.ce fun v => decide (v ∈ done) && primes x why v := by rw [h.frame]
      rw [ce]
      split
      next primed =>
        rw [withoutJobs_withoutJobs]
        congr 1
        funext v
        by_cases own : v = w
        · simp [own, primed]
        · simp [own]
      next kept =>
        congr 1
        funext v
        by_cases own : v = w
        · simp [own, kept]
        · simp [own]
    rw [gone, h.frame] at frame
    exact frame
  kept r hr := kept r (h.kept r hr)
  dirty v hv isNamed := by
    rcases List.mem_append.1 hv with old | new
    · exact kept _ (h.dirty v old isNamed)
    · obtain rfl := List.mem_singleton.1 new
      exact dirty isNamed

theorem rearmed_skips (notNamed : named x w = false) : Rearmed s x why (done ++ [w]) t := by
  have kept : primes x why w = false := by simp [primes, notNamed]
  refine rearmed_snoc h fresh (fun v => ?_) (by simp [kept]) (fun _ => id) (by simp [notNamed])
  by_cases own : v = w
  · rw [own, h.win, if_neg fresh]
    simp [kept, afterCommand, notNamed, jobsLeave]
  · simp [own, kept, jobsLeave]

theorem rearmed_refuses (isNamed : named x w = true) (isRefused : why w ≠ .none) :
    Rearmed s x why (done ++ [w]) (t.refuse w (why w)) := by
  have kept : primes x why w = false := by simp [primes, isRefused]
  refine rearmed_snoc h fresh (fun v => ?_) ?_ (fun r hr => (mem_dirty_touch ..).2 (.inl hr))
    (fun _ => (mem_dirty_touch ..).2 (.inr rfl))
  · rw [State.refuse, win_touch, win_modWin]
    by_cases own : v = w
    · rw [own, h.win, if_neg fresh]
      simp [kept, afterCommand, isNamed, isRefused, jobsLeave]
    · simp [own, kept, jobsLeave]
  · rw [State.refuse, touch_eq, kept]
    rfl

theorem rearmed_effects {d : Descriptor} (use : (s.win w).inUse = some d) (isNamed : named x w = true)
    (accepted : why w = .none) : Rearmed s x why (done ++ [w]) (rearmEffect t w) := by
  have primed : primes x why w = true := by simp [primes, isNamed, accepted]
  have effect : rearmEffect t w = t.prime w d := by simp [rearmEffect, (h.inUse fresh).trans use]
  have desc : (s.win w).desc = some d := (inUse_eq_some.1 use).2
  have ended := jobEnded_endJob t w
  rw [effect]
  refine rearmed_snoc h fresh (fun v => ?_) ?_ (fun r hr => (mem_dirty_touch ..).2 (.inl (ended.kept r hr)))
    (fun _ => (mem_dirty_touch ..).2 (.inr rfl))
  · rw [State.prime, win_touch, win_modWin, ended.windows, ended.windows, h.hasJob fresh, primed, Bool.true_and]
    by_cases own : v = w
    · subst own
      rw [if_pos rfl, if_pos rfl, h.win, if_neg fresh]
      simp only [afterCommand, isNamed, accepted, if_true, ← primed_eq_rearmed desc]
      rfl
    · rw [if_neg own, if_neg own]
  · have rest := ended.rest
    rw [State.prime, touch_eq, primed, if_pos rfl]
    generalize t.endJob w = e at rest
    rw [rest]
    rfl

end

/-- A write into the bank that REARM would prime away is in flight, no processor access being one (R55, R76). -/
theorem bankWriteInFlight_iff {s : State} {w : Win} {p : PAccess} (current : s.pp.current = some p) (none : p.win = none) :
    s.bankWriteInFlight w = true ↔
      (∃ a, s.fp.inFlight = some a ∧ a.win = some w ∧ a.bankWrite = true) ∨ s.mp.grant.copyDest = some w := by
  unfold State.bankWriteInFlight
  rw [current]
  cases s.fp.inFlight <;> simp [none]

theorem rearmTest_eq {t : State} {w : Win} {r : Reason} {writes : Prop} (inFlight : t.bankWriteInFlight w = true ↔ writes)
    (idle : (t.win w).inUse = none → r = .idle)
    (busy : (t.win w).inUse ≠ none → (t.win w).swapPending = true ∨ writes → r = .busy)
    (free : (t.win w).inUse ≠ none → (t.win w).swapPending = false → ¬ writes → r = .none) : rearmTest t w = r := by
  unfold rearmTest
  rw [← inFlight] at busy free
  cases use : (t.win w).inUse with
  | none => exact (idle use).symm
  | some d =>
    have inUse : (t.win w).inUse ≠ none := by rw [use]; nofun
    dsimp only
    by_cases blocked : ((t.win w).swapPending || t.bankWriteInFlight w) = true
    · rw [if_pos blocked, busy inUse (by simpa using blocked)]
    · rw [if_neg blocked]
      simp only [Bool.or_eq_true, not_or, Bool.not_eq_true] at blocked
      exact (free inUse blocked.1 (by simp [blocked.2])).symm

/-- Settles O47. -/
theorem rearmPrimes : Obligations.RearmPrimes := by
  intro s x rest armed h writes why reasons primed
  have use {w : Win} (accepted : why w = .none) : ∃ d, (s.win w).inUse = some d := by
    refine Option.ne_none_iff_exists'.1 fun idle => ?_
    have := (reasons w).1 idle
    simp [accepted] at this
  have takes : TakesInTurn rearmTest rearmEffect (cmdMask x.data) why
      (Rearmed { s with pp := wordIssued s.pp x rest } x why) := by
    refine ⟨fun done t w taken fresh => ?_, fun done t w taken fresh => rearmed_skips taken fresh,
      fun done t w taken fresh => rearmed_refuses taken fresh, fun done t w taken fresh isNamed accepted => ?_⟩
    · have swap : (t.win w).swapPending = (s.win w).swapPending := by
        rw [taken.win, if_neg fresh]
        rfl
      have inUse : (t.win w).inUse = (s.win w).inUse := taken.inUse fresh
      have inFlight : t.bankWriteInFlight w = true ↔ writes w := by
        rw [bankWriteInFlight_iff (s := t) (by rw [taken.frame]; rfl) rfl, taken.frame]
      obtain ⟨idle, busy, free⟩ := reasons w
      exact rearmTest_eq inFlight (inUse ▸ idle) (inUse ▸ swap ▸ busy) (inUse ▸ swap ▸ free)
    · obtain ⟨d, use⟩ := use accepted
      exact rearmed_effects taken fresh use isNamed accepted
  obtain ⟨t, u, next, taken, windowed, ends⟩ := perWindow_ends h (accepted_of_armed armed rfl) takes (rearmed_nil ..) rfl
    fun u taken => ⟨by rw [taken.frame], by rw [taken.frame], fun w isNamed _ => taken.dirty w (mem_allWindows w) isNamed⟩
  have windows : t.windows = u.windows := (endsIn_windows ends).trans rfl
  refine ⟨t, next, windowed, fun w isPrimed => ?_, fun w => ?_, endsIn_trans ends ⟨?_, fun r hr => taken.kept r hr⟩⟩
  · have isNamed : named x w = true := (Bool.and_eq_true_iff.1 isPrimed).1
    exact mem_dirty_of_endsIn ends (taken.dirty w (mem_allWindows w) isNamed)
  · rw [win_congr windows, taken.win, if_pos (mem_allWindows w)]
    rfl
  · have frame := taken.frame
    rw [windows]
    have gone : (fun v => decide (v ∈ allWindows) && primes x why v) = primed := by
      funext v
      simp [mem_allWindows, primes, primed]
    rw [gone] at frame
    generalize t.cba.result = result, t.cba.causes = causes
    rw [frame]

/-! ## LOAD -/

/-- LOAD has gone through the windows of `done`: their records are as RecordsTaken says, and a fetch is queued for each
that is not refused (R132, R153). -/
structure LoadsTaken (s : State) (x : PWrite) (why : Win → Reason) (done : List Win) (t : State) : Prop where
  records : RecordsTaken s x why id done { t with cba := { t.cba with loadQueue := s.cba.loadQueue } }
  queue   : t.cba.loadQueue = s.cba.loadQueue ++ done.filter (primes x why)

section
variable {s t : State} {x : PWrite} {why : Win → Reason} {done : List Win} {w : Win}
  (h : LoadsTaken s x why done t) (fresh : w ∉ done)
include h fresh

theorem loadsTaken_skips (notNamed : named x w = false) : LoadsTaken s x why (done ++ [w]) t :=
  ⟨recordsTaken_skips h.records fresh notNamed, by simp [h.queue, primes, notNamed]⟩

theorem loadsTaken_refuses (isNamed : named x w = true) (isRefused : why w ≠ .none) :
    LoadsTaken s x why (done ++ [w]) (t.refuse w (why w)) := by
  refine ⟨?_, ?_⟩
  · have refused := recordsTaken_refuses h.records fresh isNamed isRefused
    have same : ({ t with cba := { t.cba with loadQueue := s.cba.loadQueue } } : State).refuse w (why w) =
        { t.refuse w (why w) with cba := { (t.refuse w (why w)).cba with loadQueue := s.cba.loadQueue } } := by
      unfold State.refuse State.touch
      by_cases marked : RecName.win w ∈ t.cba.dirty
      · simp only [modWin_cba, marked, if_true]
        rfl
      · simp only [modWin_cba, marked, if_false]
        rfl
    rwa [same] at refused
  · simp [h.queue, primes, isRefused]

theorem loadsTaken_effects (isNamed : named x w = true) (accepted : why w = .none) :
    LoadsTaken s x why (done ++ [w]) (loadEffect t w) := by
  have taken := recordsTaken_effects h.records fresh isNamed accepted
  rw [State.modWin, id, setWin_win] at taken
  exact ⟨taken, by simp [loadEffect, h.queue, primes, isNamed, accepted]⟩

omit fresh in
theorem loadsTaken_frame : t = { s with
    windows := t.windows
    cba := { s.cba with dirty := t.cba.dirty, loadQueue := s.cba.loadQueue ++ done.filter (primes x why) } } := by
  rw [← h.queue]
  exact congrArg (fun v : State => { v with cba := { v.cba with loadQueue := t.cba.loadQueue } }) h.records.frame

theorem mem_loadQueue_taken : w ∈ t.cba.loadQueue ↔ w ∈ s.cba.loadQueue := by
  simp [h.queue, fresh]

end

/-- The window whose fetch starts. -/
def fetchStarts (s : State) : Option Win := if s.cba.fetch = none then s.cba.loadQueue.head? else none

theorem startFetch_of_starts {s : State} {w : Win} (h : fetchStarts s = some w) : s.startFetch =
    ({ s with cba := { s.cba with fetch := some { win := w, slot := (s.win w).active.other, words := [] } } } : State).modWin w
      fun x => x.setSlot x.active.other none := by
  unfold fetchStarts at h
  split at h
  next free =>
    cases queue : s.cba.loadQueue with
    | nil => simp [queue] at h
    | cons v l =>
      have own : v = w := by simpa [queue] using h
      simp only [State.startFetch, free, queue, own]
  · exact nomatch h

theorem startFetch_of_none {s : State} (h : fetchStarts s = none) : s.startFetch = s := by
  unfold State.startFetch
  split
  next w l free queue => simp [fetchStarts, free, queue] at h
  · rfl

theorem other_eq (n : SlotName) : n.other = if n = .a then .b else .a := by cases n <;> rfl

/-- What the start of a fetch leaves (R133). -/
theorem startFetch_eq (s : State) : s.startFetch = { s with
    windows := s.startFetch.windows
    cba := { s.cba with fetch := match fetchStarts s with
      | some w => some { win := w, slot := if (s.win w).active = .a then .b else .a, words := [] }
      | none => s.cba.fetch } } := by
  cases starts : fetchStarts s with
  | none => rw [startFetch_of_none starts]
  | some w =>
    rw [startFetch_of_starts starts, other_eq]
    rfl

theorem win_startFetch (s : State) (v : Win) : s.startFetch.win v =
    if fetchStarts s = some v then
      (if (s.win v).active = .a then { s.win v with slotB := none } else { s.win v with slotA := none })
    else s.win v := by
  cases starts : fetchStarts s with
  | none => simp [startFetch_of_none starts]
  | some w =>
    rw [startFetch_of_starts starts, win_modWin]
    by_cases own : v = w
    · subst own
      cases active : (s.win v).active <;> simp [active, SlotName.other, Window.setSlot]
    · simp [own, Ne.symm own]

theorem startFetch_setResult (s : State) (code : BitVec 8) (r : ResultCode) (refused : BitVec 16) :
    (s.setResult code r refused).startFetch = s.startFetch.setResult code r refused := by
  have starts : fetchStarts (s.setResult code r refused) = fetchStarts s := by simp [fetchStarts]
  cases h : fetchStarts s with
  | none => rw [startFetch_of_none h, startFetch_of_none (starts.trans h)]
  | some w =>
    rw [startFetch_of_starts h, startFetch_of_starts (starts.trans h)]
    unfold State.setResult State.record State.touch
    by_cases done : r = .done
    · simp only [done, if_true]
      rfl
    · by_cases marked : RecName.global ∈ s.cba.dirty
      · simp only [done, marked, modWin_cba, if_true, if_false]
        rfl
      · simp only [done, marked, modWin_cba, if_false]
        rfl

/-- Settles O48. -/
theorem loadQueuesFetches : Obligations.LoadQueuesFetches := by
  intro s x rest armed h why queue starts
  have takes : TakesInTurn loadTest loadEffect (cmdMask x.data) why
      (LoadsTaken { s with pp := wordIssued s.pp x rest } x why) := by
    refine ⟨fun done t w taken fresh => ?_, fun done t w taken fresh => loadsTaken_skips taken fresh,
      fun done t w taken fresh => loadsTaken_refuses taken fresh, fun done t w taken fresh => loadsTaken_effects taken fresh⟩
    have win : t.win w = s.win w := by
      have same := recordsTaken_win taken.records fresh
      exact same
    have queued : w ∈ t.cba.loadQueue ↔ w ∈ s.cba.loadQueue := by
      have same := mem_loadQueue_taken taken fresh
      exact same
    unfold loadTest
    simp only [win, queued, why]
    by_cases inQueue : w ∈ s.cba.loadQueue
    · simp [inQueue]
    · simp [inQueue]
  have start : LoadsTaken { s with pp := wordIssued s.pp x rest } x why [] { s with pp := wordIssued s.pp x rest } :=
    ⟨recordsTaken_nil .., by simp⟩
  have marked (u : State) : u.startFetch.cba.dirty = u.cba.dirty := by rw [startFetch_eq]
  obtain ⟨t, u, next, taken, windowed, ends⟩ := perWindow_ends_then (post := State.startFetch) h
    (accepted_of_armed armed rfl) takes start rfl startFetch_setResult fun u taken =>
      ⟨by rw [startFetch_eq, loadsTaken_frame taken], by rw [startFetch_eq, loadsTaken_frame taken], fun w isNamed isRefused =>
        marked u ▸ taken.records.dirty w (mem_allWindows w) isNamed isRefused⟩
  have frame := loadsTaken_frame taken
  have windows : t.windows = u.startFetch.windows := (endsIn_windows ends).trans rfl
  have started : fetchStarts u = starts := by
    rw [frame]
    rfl
  have win (w : Win) : u.win w = afterCommand x why id w (s.win w) :=
    (taken.records.win w).trans (if_pos (mem_allWindows w))
  refine ⟨t, next, windowed, fun w => ?_, endsIn_trans ends ⟨?_, fun r hr => ?_⟩⟩
  · rw [win_congr windows, win_startFetch, started, win]
  · have active (w : Win) : (u.win w).active = (s.win w).active := by
      rw [win, afterCommand]
      split
      · split <;> rfl
      · rfl
    have fetched := startFetch_eq u
    rw [started] at fetched
    rw [windows]
    generalize t.cba.result = result, t.cba.causes = causes
    generalize u.startFetch = v at fetched
    cases which : starts with
    | none =>
      rw [which] at fetched
      rw [fetched, frame]
      rfl
    | some w =>
      rw [which] at fetched
      dsimp only at fetched
      rw [active] at fetched
      rw [fetched, frame]
      rfl
  · have old := taken.records.kept r hr
    exact (marked u).symm ▸ old

end Sys2Proof.Laws
end

section
/-! The Memory Port and its arbiter (chapter 10): what is granted, and read-clear. -/

namespace Sys2Proof.Laws

open Sys2Proof Sys2Proof.Machine Sys2Proof.Safety

/-! ## The winner -/

theorem winner_of_busy {s : State} (h : s.mp.grant ≠ .free) : s.winner = none := if_neg h

theorem winner_of_free {s : State} (h : s.mp.grant = .free) : s.winner = s.arbOrder.find? s.waits := if_pos h

theorem arbOrder_fixed {s : State} (h : s.cba.config.arbMode = .fixed) :
    s.arbOrder = fixedOrder (s.ce.jobs.any Job.urgent) := by
  rw [State.arbOrder, h]
  rfl

theorem arbOrder_rotating {s : State} (h : s.cba.config.arbMode = .rotating) : s.arbOrder = rotatingOrder s.mp.pointer := by
  rw [State.arbOrder, h]

/-! ## Grants -/

theorem grantTo_eq (s : State) (q : Requester) (g : Grant) : s.grantTo q g =
    { s with mp := { s.mp with
      grant := g, pointer := if s.cba.config.arbMode = .rotating then q else s.mp.pointer } } := by
  unfold State.grantTo
  cases s.cba.config.arbMode <;> rfl

theorem arbitrate_none {s : State} (h : s.winner = none) (answer : Resp) : s.arbitrate answer = s := by
  rw [State.arbitrate, h]

theorem arbitrate_f {s : State} (h : s.winner = some .f) (answer : Resp) : s.arbitrate answer = s.grantF := by
  rw [State.arbitrate, h]

theorem arbitrate_k {s : State} (h : s.winner = some .k) (answer : Resp) : s.arbitrate answer = s.grantK := by
  rw [State.arbitrate, h]

theorem arbitrate_p {s : State} {c : PAccess} {i : PItem} {items : List PItem} (h : s.winner = some .p)
    (current : s.pp.current = some c) (plan : c.items = i :: items) (answer : Resp) :
    s.arbitrate answer = s.grantItem answer i := by
  rw [State.arbitrate, h]
  simp only [State.grantP, current, plan]

theorem arbitrate_carry {s : State} {j : Job} (h : s.winner = some .c) (job : s.job = some j) (kind : j.kind = .carry)
    (answer : Resp) : s.arbitrate answer = s.grantCarry j.dest := by
  rw [State.arbitrate, h]
  simp only [State.grantC, job, kind]

theorem arbitrate_loop {s : State} {j : Job} {src : Win} {k : Nat} (h : s.winner = some .c) (job : s.job = some j)
    (kind : j.kind = .loop src k) (answer : Resp) : s.arbitrate answer = s.grantLoop j.dest src k := by
  rw [State.arbitrate, h]
  simp only [State.grantC, job, kind]

theorem mpGrant_ends {s u : State} {answer : Resp} (rst : s.lines.rst = false) (effect : s.arbitrate answer = u) :
    ∃ t, exec (.mpGrant answer) s = .next t ∧ EndsIn t u :=
  act_ends_of_eq (f := fun s => s.arbitrate answer) rst effect

theorem popItem_eq {s : State} {c : PAccess} {i : PItem} {items : List PItem} (current : s.pp.current = some c)
    (plan : c.items = i :: items) : s.popItem = { s with pp := { s.pp with current := some { c with items := items } } } := by
  simp only [State.popItem, current, plan]
  rfl

theorem loopSource_eq_none {s : State} {w : Win} (h : ∀ e, (s.win w).inUse = some e → e.kind = .input) :
    s.loopSource w = none := by
  rw [Option.eq_none_iff_forall_ne_some]
  intro e source
  obtain ⟨use, output⟩ := (loopSource_eq_some_iff s w e).1 source
  exact nomatch (h e use).symm.trans output

/-- Who holds a grant, and into which window a granted copy pair writes (R141, R142). -/
theorem grant_fields (g : Grant) : (g = .free → g.holder = none ∧ g.copyDest = none) ∧
    (∀ x, g = .single x →
      (x.work = .pPlain → g.holder = some .p ∧ g.copyDest = none) ∧
      (x.work = .fAccess → g.holder = some .f ∧ g.copyDest = none) ∧
      (x.work = .loadRead ∨ x.work = .fetchRead ∨ (∃ r i, x.work = .writebackWord r i) →
        g.holder = some .k ∧ g.copyDest = none) ∧
      (∀ w, x.work = .loopFill w → g.holder = some .c ∧ g.copyDest = some w)) ∧
    (∀ p d, g = .pairRead p ∨ g = .pairWrite p d →
      (∀ w op be y, p.work = .merge w op be y → g.holder = some .p ∧ g.copyDest = none) ∧
      (∀ w k, p.work = .demand w k → g.holder = some .p ∧ g.copyDest = none) ∧
      (∀ w k, p.work = .carry w k → g.holder = some .c ∧ g.copyDest = some w) ∧
      (∀ w, p.work = .loop w → g.holder = some .c ∧ g.copyDest = some w)) := by
  refine ⟨fun free => free ▸ ⟨rfl, rfl⟩, fun x single => ?_, fun p d pair => ?_⟩
  · subst single
    refine ⟨fun work => ?_, fun work => ?_, fun work => ?_, fun w work => ?_⟩
    · simp [Grant.holder, SingleWork.holder, Grant.copyDest, SingleWork.copyDest, work]
    · simp [Grant.holder, SingleWork.holder, Grant.copyDest, SingleWork.copyDest, work]
    · rcases work with work | work | ⟨r, i, work⟩ <;>
        simp [Grant.holder, SingleWork.holder, Grant.copyDest, SingleWork.copyDest, work]
    · simp [Grant.holder, SingleWork.holder, Grant.copyDest, SingleWork.copyDest, work]
  · have fields : g.holder = some p.work.holder ∧ g.copyDest = p.work.copyDest := by
      rcases pair with pair | pair <;> rw [pair] <;> exact ⟨rfl, rfl⟩
    rw [fields.1, fields.2]
    exact ⟨fun w op be y work => by rw [work]; exact ⟨rfl, rfl⟩, fun w k work => by rw [work]; exact ⟨rfl, rfl⟩,
      fun w k work => by rw [work]; exact ⟨rfl, rfl⟩, fun w work => by rw [work]; exact ⟨rfl, rfl⟩⟩

theorem winner_order {s : State} (free : s.mp.grant = .free) :
    (s.cba.config.arbMode = .fixed → s.ce.jobs.any Job.urgent = false → s.winner = [.f, .p, .k, .c].find? s.waits) ∧
    (s.cba.config.arbMode = .fixed → s.ce.jobs.any Job.urgent = true → s.winner = [.f, .c, .p, .k].find? s.waits) ∧
    (s.cba.config.arbMode = .rotating → s.mp.pointer = .f → s.winner = [.p, .k, .c, .f].find? s.waits) ∧
    (s.cba.config.arbMode = .rotating → s.mp.pointer = .p → s.winner = [.k, .c, .f, .p].find? s.waits) ∧
    (s.cba.config.arbMode = .rotating → s.mp.pointer = .k → s.winner = [.c, .f, .p, .k].find? s.waits) ∧
    (s.cba.config.arbMode = .rotating → s.mp.pointer = .c → s.winner = [.f, .p, .k, .c].find? s.waits) := by
  rw [winner_of_free free]
  refine ⟨fun mode urgent => ?_, fun mode urgent => ?_, fun mode pointer => ?_, fun mode pointer => ?_,
    fun mode pointer => ?_, fun mode pointer => ?_⟩
  · rw [arbOrder_fixed mode, urgent]; rfl
  · rw [arbOrder_fixed mode, urgent]; rfl
  all_goals rw [arbOrder_rotating mode, pointer]; rfl

/-- Settles O49. -/
theorem grantGoesToTheWinner : Obligations.GrantGoesToTheWinner := by
  intro s answer rst pointer granted single ends
  have of {u : State} (effect : s.arbitrate answer = u) : ends u := mpGrant_ends rst effect
  refine ⟨grant_fields, ⟨rfl, rfl, rfl, rfl⟩, winner_of_busy, winner_order, fun none => of (arbitrate_none none answer),
    fun a winner flying => of ((arbitrate_f winner answer).trans ?_), fun c i items winner current plan => ?_,
    fun l winner request load => of ((arbitrate_k winner answer).trans ?_),
    fun f winner request fetch => of ((arbitrate_k winner answer).trans ?_),
    fun b winner request writeback => of ((arbitrate_k winner answer).trans ?_),
    fun j d k marks winner job kind use carry notLive => of ((arbitrate_carry winner job kind answer).trans ?_),
    fun j winner job kind unmarked => of ((arbitrate_carry winner job kind answer).trans ?_),
    fun j src k d e winner job kind use filling source output more notLive =>
      of ((arbitrate_loop winner job kind answer).trans ?_),
    fun j src k winner job kind notFilling => of ((arbitrate_loop winner job kind answer).trans ?_),
    fun j src k d e winner job kind use filling source output last => of ((arbitrate_loop winner job kind answer).trans ?_),
    fun j src k d winner job kind use filling noSource => of ((arbitrate_loop winner job kind answer).trans ?_)⟩
  · simp only [State.grantF, flying, grantTo_eq]
    rfl
  · have granting := arbitrate_p winner current plan answer
    cases i with
    | plain dir a be d clears =>
      cases clears with
      | none => exact of (granting.trans (grantTo_eq ..))
      | some r =>
        refine of (granting.trans ?_)
        simp only [State.grantItem, foretoldFor, grantTo_eq]
        cases answer <;> rfl
    | merge w op be d target => exact of (granting.trans (grantTo_eq ..))
    | demand w k src dst =>
      dsimp only
      split
      next fault => exact of (granting.trans ((if_pos fault).trans (popItem_eq current plan)))
      next open_ => exact of (granting.trans ((if_neg open_).trans (grantTo_eq ..)))
  · simp only [State.grantK, request, load, grantTo_eq]
    rfl
  · simp only [State.grantK, request, fetch, grantTo_eq]
    cases slot : f.slot
    · rfl
    · rfl
  · simp only [State.grantK, request, writeback, grantTo_eq]
    rfl
  · simp only [State.grantCarry, use, carry, grantTo_eq, fieldAt_of_not_live notLive, procAt_of_not_live notLive]
    rfl
  · unfold State.grantCarry
    rw [unmarked]
    cases (s.win j.dest).inUse <;> rfl
  · simp only [State.grantLoop, use, filling, (loopSource_eq_some_iff s src e).2 ⟨source, output⟩, Nat.not_le.2 more,
      grantTo_eq, fieldAt_of_not_live notLive, ← fSubstituted_iff, if_false, ne_eq, not_true_eq_false]
    have read : e.fieldAt (s.win src).role k =
        wordAt (if e.live k = true ∨ (s.win src).role = true then e.bank0 else e.bank1) k := by
      simp only [fieldAt_eq, live_iff]
    rw [read]
    split <;> rfl
  · unfold State.grantLoop
    split
    · rfl
    · exact if_pos notFilling
  · simp only [State.grantLoop, use, filling, (loopSource_eq_some_iff s src e).2 ⟨source, output⟩, last]
    rfl
  · simp only [State.grantLoop, use, filling, loopSource_eq_none noSource]
    rfl

/-! ## Read-clear -/

/-- An event that changes no record and makes none dirty leaves the dirty set as it was (R155). -/
theorem finish_dirty_same {s u : State} (dirty : u.cba.dirty = s.cba.dirty)
    (words : ∀ r i, u.recordWord r i = s.recordWord r i) : (finish s u).cba.dirty = s.cba.dirty := by
  have none (r : RecName) : joinsDirty s u r = false := by
    have shown : shownDiffers s u r = false := by simp [shownDiffers, words]
    cases mem : s.cba.dirty.contains r <;> simp [joinsDirty, shown, dirty]
  rw [finish_dirty, List.filter_eq_nil_iff.2 (by simp [none]), List.append_nil]

/-- A read-clear of the published flags of a record (R158). -/
theorem clearPublished_eq (s : State) (r : RecName) : s.clearPublished r = { s with
    windows := (s.clearPublished r).windows
    cba := { s.cba with
      causes := if r = .global then s.cba.causes &&& ~~~s.cba.published else s.cba.causes
      published := if r = .global then 0 else s.cba.published
      dirty := (s.clearPublished r).cba.dirty } } := by
  cases r with
  | global =>
    simp only [State.clearPublished]
    rw [touch_eq]
    rfl
  | result => rfl
  | win w =>
    simp only [State.clearPublished]
    rw [touch_eq]
    rfl

theorem mem_dirty_clearPublished {s : State} {r : RecName} (h : r ≠ .result) : r ∈ (s.clearPublished r).cba.dirty := by
  cases r with
  | global => exact (mem_dirty_touch ..).2 (.inr rfl)
  | result => exact absurd rfl h
  | win w => exact (mem_dirty_touch ..).2 (.inr rfl)

theorem kept_dirty_clearPublished {s : State} {r x : RecName} (h : x ∈ s.cba.dirty) :
    x ∈ (s.clearPublished r).cba.dirty := by
  cases r with
  | global => exact (mem_dirty_touch ..).2 (.inl h)
  | result => exact h
  | win w => exact (mem_dirty_touch ..).2 (.inl h)

/-- The grant of a read-clear read, with the answer memory will give it (R158; log 9). -/
def readClearGranted (s : State) (a : Addr) (be : Lanes) (answer : Resp) : State :=
  { s with mp := { s.mp with
      grant := .single { work := .pPlain, dir := .read, addr := a, be := be, data := 0, foretold := some answer }
      pointer := if s.cba.config.arbMode = .rotating then .p else s.mp.pointer } }

theorem readClear_eq {s : State} {c : PAccess} {a : Addr} {be : Lanes} {r : RecName} {items : List PItem}
    (winner : s.winner = some .p) (current : s.pp.current = some c)
    (plan : c.items = .plain .read a be 0 (some r) :: items) (answer : Resp) :
    s.readClear answer = s.arbitrate answer ∧ s.arbitrate answer = match answer with
      | .ok => (readClearGranted s a be .ok).clearPublished r
      | .err => readClearGranted s a be .err := by
  have next : s.readClearNext.isSome = true := by simp only [State.readClearNext, current, plan, Option.isSome_some]
  refine ⟨if_pos ⟨winner, next⟩, ?_⟩
  rw [arbitrate_p winner current plan]
  simp only [State.grantItem, grantTo_eq, foretoldFor]
  cases answer <;> rfl

/-- Settles O50. -/
theorem readClearClearsThePublishedFlags : Obligations.ReadClearClearsThePublishedFlags := by
  intro s c a be r items answer rst winner current plan
  obtain ⟨row, effect⟩ := readClear_eq winner current plan answer
  refine ⟨act_congr (f := fun s => s.readClear answer) (g := fun s => s.arbitrate answer) row, _,
    act_finish (fun s => s.readClear answer) rst, ?_⟩
  rw [row, effect]
  have ends := endsIn_finish s (s.arbitrate answer)
  rw [effect] at ends
  cases answer with
  | ok =>
    dsimp only at ends ⊢
    refine ⟨fun w => ?_, endsIn_trans ends ⟨?_, fun x h => ?_⟩, fun _ shown => ?_, nofun⟩
    · rw [endsIn_win ends, win_clearPublished]
      simp only [true_and]
      rfl
    · rw [endsIn_windows ends, clearPublished_eq]
      cases r <;> rfl
    · have old : x ∈ s.cba.dirty := by
        split at h <;> exact h
      exact kept_dirty_clearPublished old
    · exact mem_dirty_of_endsIn ends (mem_dirty_clearPublished shown)
  | err =>
    dsimp only at ends ⊢
    refine ⟨fun w => ?_, endsIn_trans ends ⟨?_, fun x h => ?_⟩, nofun, fun _ => ?_⟩
    · rw [endsIn_win ends, if_neg (by simp)]
      rfl
    · rw [endsIn_windows ends]
      rfl
    · split at h <;> exact h
    · refine finish_dirty_same rfl fun r i => ?_
      cases r <;> rfl

end Sys2Proof.Laws
end

section
/-! Transactions of the two masters and of the Merge Unit complete (chapters 7, 8.2 and 10.2). -/

namespace Sys2Proof.Laws

open Sys2Proof Sys2Proof.Machine Sys2Proof.Safety

/-! ## Marks, written out -/

/-- The dirty set with a record marked (R155). -/
def marked (l : List RecName) (r : RecName) : List RecName := if r ∈ l then l else l ++ [r]

theorem touch_marks (s : State) (r : RecName) :
    s.touch r = { s with cba := { s.cba with dirty := marked s.cba.dirty r } } := by
  unfold State.touch marked
  split <;> rfl

theorem latchError_marks (s : State) (q : ErrSource) (d : Dir) (a : Addr) : s.latchError q d a =
    { s with
      mp := { s.mp with latch :=
        if s.mp.latch.valid then { s.mp.latch with multiple := true }
        else { valid := true, addr := a, source := some q, dir := d, multiple := false } }
      cba := { s.cba with causes := s.cba.causes ||| Cause.mask .memerr, dirty := marked s.cba.dirty .global } } := by
  unfold State.latchError State.record
  rw [touch_marks]

/-! ## Accesses that end -/

/-- Changing every window's record, written out. -/
theorem eq_mapped {s t : State} {f : Window → Window} (frame : t = { s with windows := t.windows })
    (win : ∀ v, t.win v = f (s.win v)) : t = { s with windows := s.windows.map f } := by
  have windows : t.windows = s.windows.map f := by
    refine Vector.ext fun i below => ?_
    rw [Vector.getElem_map]
    exact win ⟨i, below⟩
  rw [← windows]
  exact frame

theorem leaveWait_eq (s : State) (m : WaitMember) : s.leaveWait m =
    { s with windows := s.windows.map fun x => { x with waitSet := x.waitSet.erase m } } :=
  eq_mapped (foldl_modWin_eq _ allWindows s) (win_foldl_modWin _ s)

theorem endP_eq (s : State) : s.endP = { s with
    windows := s.windows.map fun x => { x with waitSet := x.waitSet.erase .p }
    pp := { s.pp with current := none }
    cc := { s.cc with drainSet := s.cc.drainSet.erase .p } } := by
  unfold State.endP
  rw [leaveWait_eq]
  rfl

theorem endF_eq (s : State) : s.endF = { s with
    windows := s.windows.map fun x => { x with waitSet := x.waitSet.erase .f }
    fp := { s.fp with inFlight := none }
    cc := { s.cc with drainSet := s.cc.drainSet.erase .f } } := by
  unfold State.endF
  rw [leaveWait_eq]
  rfl

theorem endP_latchAnswer (r : Resp) (s : State) (q : ErrSource) (d : Dir) (a : Addr) :
    (State.latchAnswer r s q d a).endP = State.latchAnswer r s.endP q d a := by
  cases r with
  | ok => rfl
  | err =>
    simp only [State.latchAnswer]
    rw [latchError_marks, endP_eq, endP_eq, latchError_marks]

/-! ## The masters -/

theorem completeP_eq (s : State) (r : Resp) (g : Single) : s.completeP r g = { s with
    mem := if g.dir = .write then (State.memAnswered r s g.addr g.be g.data).mem else s.mem
    free := if g.dir = .write then (State.memAnswered r s g.addr g.be g.data).free else s.free
    pp := { s.pp with readSlot := if g.dir = .read then none else s.pp.readSlot }
    lines := { s.lines with pBus :=
      if g.dir = .write then s.lines.pBus else if r = .ok then .data (s.mem.readWord g.addr.toNat) else .readError } } := by
  unfold State.completeP
  cases dir : g.dir with
  | read => cases r <;> rfl
  | write =>
    simp only [reduceCtorEq, if_true, if_false]
    exact memAnswered_eq r s g.addr g.be g.data

theorem completeF_eq (s : State) (r : Resp) (g : Single) : s.completeF r g = { s with
    mem := if g.dir = .write then (State.memAnswered r s g.addr g.be g.data).mem else s.mem
    free := if g.dir = .write then (State.memAnswered r s g.addr g.be g.data).free else s.free
    lines := { s.lines with fBus :=
      match g.dir, r with
      | .read, .ok => .data (s.mem.readWord g.addr.toNat)
      | .read, .err => .readError
      | .write, .ok => .writeOk
      | .write, .err => .writeError } } := by
  unfold State.completeF
  cases dir : g.dir with
  | read => cases r <;> rfl
  | write =>
    have written := memAnswered_eq r s g.addr g.be g.data
    cases r with
    | ok => exact congrArg (fun u : State => u.answerF .writeOk) written
    | err => exact congrArg (fun u : State => u.answerF .writeError) written

/-- A write is answered alike whatever the rest of the state. -/
theorem memAnswered_congr {s u : State} (size : u.memSize = s.memSize) (mem : u.mem = s.mem) (free : u.free = s.free) (r : Resp)
    (a : Addr) (be : Lanes) (d : Word) : (State.memAnswered r u a be d).mem = (State.memAnswered r s a be d).mem ∧
      (State.memAnswered r u a be d).free = (State.memAnswered r s a be d).free := by
  cases r with
  | ok => simp only [State.memAnswered, State.memWrite, apply_ite State.mem, apply_ite State.free, size, mem, free, and_self]
  | err =>
    simp only [State.memAnswered, State.memFail, State.memWrite, apply_ite State.mem, size, mem, free, and_self]

/-- A transaction that ends with its answer, in a state known up to its windows (R147). -/
theorem endsIn_answered {t u v : State} {r : Resp} {q : ErrSource} {d : Dir} {a : Addr}
    (ends : EndsIn t (State.latchAnswer r u q d a)) (frame : u.windows = t.windows → u = v) :
    EndsIn t (State.latchAnswer r v q d a) := by
  have windows : (State.latchAnswer r u q d a).windows = u.windows := by simp only [latchAnswer_keeps]
  rw [← frame (windows.symm.trans (endsIn_windows ends).symm)]
  exact ends

/-- The state a plain access of the master P leaves (R105, R109, R111). -/
def plainEnded (s : State) (r : Resp) (g : Single) : State := ((s.setGrant .free).completeP r g).endP

theorem win_plainEnded (s : State) (r : Resp) (g : Single) (w : Win) :
    (plainEnded s r g).win w = { s.win w with waitSet := (s.win w).waitSet.erase .p } := by
  rw [plainEnded, win_endP, completeP_eq]
  rfl

/-- The state an access of the master F leaves (R104, R105). -/
def fieldEnded (s : State) (r : Resp) (g : Single) : State := ((s.setGrant .free).completeF r g).endF

theorem win_fieldEnded (s : State) (r : Resp) (g : Single) (w : Win) :
    (fieldEnded s r g).win w = { s.win w with waitSet := (s.win w).waitSet.erase .f } := by
  rw [fieldEnded, win_endF, completeF_eq]
  rfl

theorem pAccessComplete_eq {s : State} {g : Single} (grant : s.mp.grant = .single g) (work : g.work = .pPlain) (r : Resp) :
    s.pAccessComplete r = if g.foretold = none ∨ g.foretold = some r
      then State.latchAnswer r (plainEnded s r g) .p g.dir g.addr else s := by
  simp only [State.pAccessComplete, grant, work, true_and]
  rfl

theorem fAccessComplete_eq {s : State} {g : Single} (grant : s.mp.grant = .single g) (work : g.work = .fAccess) (r : Resp) :
    s.fAccessComplete r = State.latchAnswer r (fieldEnded s r g) .f g.dir g.addr := by
  simp only [State.fAccessComplete, grant, work, if_true]
  rfl

/-- Settles O51. -/
theorem accessesComplete : Obligations.AccessesComplete := by
  refine ⟨fun s r g rst grant work foretold => ?_, fun s r g rst grant work some_ other => ?_,
    fun s r g rst grant work => ?_⟩
  · obtain ⟨t, next, ends⟩ := act_ends_of_eq (f := fun s => s.pAccessComplete r) rst
      ((pAccessComplete_eq grant work r).trans (if_pos foretold))
    refine ⟨t, next, fun w => ?_, ?_⟩
    · rw [endsIn_win ends, win_latchAnswer, win_plainEnded]
    · refine endsIn_answered ends fun windows => ?_
      rw [← windows, plainEnded, completeP_eq, endP_eq]
      obtain ⟨mem, free⟩ := memAnswered_congr (s := s) (u := s.setGrant .free) rfl rfl rfl r g.addr g.be g.data
      rw [mem, free]
      rfl
  · exact act_ends_of_eq (f := fun s => s.pAccessComplete r) rst
      ((pAccessComplete_eq grant work r).trans (if_neg (not_or.2 ⟨some_, other⟩)))
  · obtain ⟨t, next, ends⟩ := act_ends_of_eq (f := fun s => s.fAccessComplete r) rst (fAccessComplete_eq grant work r)
    refine ⟨t, next, fun w => ?_, ?_⟩
    · rw [endsIn_win ends, win_latchAnswer, win_fieldEnded]
    · refine endsIn_answered ends fun windows => ?_
      rw [← windows, fieldEnded, completeF_eq, endF_eq]
      obtain ⟨mem, free⟩ := memAnswered_congr (s := s) (u := s.setGrant .free) rfl rfl rfl r g.addr g.be g.data
      rw [mem, free]
      rfl

/-! ## Locked pairs -/

/-- The state in which the write half of a pair is answered, before an error is latched (R141, R147). -/
def pairWritten (s : State) (r : Resp) (p : Pair) (d : Word) : State :=
  (State.memAnswered r s p.dst p.work.writeLanes d).setGrant .free

theorem pairWritten_eq (s : State) (r : Resp) (p : Pair) (d : Word) : pairWritten s r p d = { s with
    mp := { s.mp with grant := .free }
    mem := (State.memAnswered r s p.dst p.work.writeLanes d).mem
    free := (State.memAnswered r s p.dst p.work.writeLanes d).free } := by
  unfold pairWritten
  rw [memAnswered_eq]
  rfl

theorem finishPair_eq (s : State) (r : Resp) (q : ErrSource) (p : Pair) (d : Word) :
    s.finishPair r q p d = State.latchAnswer r (pairWritten s r p d) q .write p.dst := rfl

theorem failPair_eq (s : State) (q : ErrSource) (p : Pair) :
    s.failPair q p = ({ s with mp := { s.mp with grant := .free } } : State).latchError q .read p.src := rfl

/-- A drop without a cause flag of its own (R157). -/
theorem dropEvent_eq {e : WEvent} (cause : e.cause = none) (s : State) (w : Win) : s.dropEvent w e = { s with
    windows := (s.dropEvent w e).windows
    cba := { s.cba with dirty := (s.dropEvent w e).cba.dirty } } := by
  unfold State.dropEvent
  rw [event_eq, cause, drop_eq]
  rfl

theorem mem_dirty_dropEvent {e : WEvent} (s : State) (w : Win) (r : RecName) (h : r ∈ s.cba.dirty ∨ r = .win w) :
    r ∈ (s.dropEvent w e).cba.dirty := by
  refine (mem_dirty_event ..).2 ?_
  rw [mem_dirty_drop]
  exact .inl h

theorem readHalf_eq {s : State} {p : Pair} (grant : s.mp.grant = .pairRead p) :
    s.readHalf = { s with mp := { s.mp with grant := .pairWrite p (p.work.writeData (s.mem.readWord p.src.toNat)) } } := by
  simp only [State.readHalf, grant]
  rfl

/-- Settles O52. -/
theorem mergePairsAreLocked : Obligations.MergePairsAreLocked := by
  refine ⟨fun s p rst grant => ?_, fun s p w op be x rst work => ⟨fun d r grant => ?_, fun grant => ?_⟩⟩
  · refine act_ends_of_eq (f := State.readHalf) rst ((readHalf_eq grant).trans ?_)
    dsimp only
    cases p.work with
    | merge w op be x => cases op <;> rfl
    | demand => rfl
    | carry => rfl
    | loop => rfl
  · have effect : s.mergePairComplete r = State.latchAnswer r (pairWritten s r p d).endP .mu .write p.dst := by
      simp only [State.mergePairComplete, grant, work, finishPair_eq, endP_latchAnswer]
    obtain ⟨t, next, ends⟩ := act_ends_of_eq (f := fun s => s.mergePairComplete r) rst effect
    refine ⟨t, next, fun v => ?_, endsIn_answered ends fun windows => ?_⟩
    · rw [endsIn_win ends, win_latchAnswer, win_endP, pairWritten_eq]
      rfl
    · rw [← windows, endP_eq, pairWritten_eq, work]
      rfl
  · have effect : s.mergePairComplete .err = ((s.failPair .mu p).dropEvent w .mergeFault).endP := by
      simp only [State.mergePairComplete, grant, work]
    obtain ⟨t, next, ends⟩ := act_ends_of_eq (f := fun s => s.mergePairComplete .err) rst effect
    have dirty (r : RecName) (h : r ∈ (s.failPair .mu p).cba.dirty ∨ r = .win w) : r ∈ t.cba.dirty := by
      refine mem_dirty_of_endsIn ends ?_
      rw [endP_eq]
      exact mem_dirty_dropEvent _ _ _ h
    refine ⟨t, next, dirty _ (.inr rfl), fun v => ?_, endsIn_trans ends ⟨?_, fun r h => ?_⟩⟩
    · rw [endsIn_win ends, win_endP, win_dropEvent, failPair_eq, satInc8_eq]
      by_cases same : v = w
      · subst same
        simp only [if_true, ne_eq, not_true_eq_false, if_false, win_latchError]
        rfl
      · simp only [same, if_false, ne_eq, not_false_eq_true, if_true, win_latchError]
        rfl
    · rw [endsIn_windows ends, endP_eq, dropEvent_eq rfl, failPair_eq, latchError_marks, latchError_marks]
    · rw [endP_eq]
      refine mem_dirty_dropEvent _ _ _ (.inl ?_)
      rw [latchError_marks] at h
      rw [failPair_eq, latchError_marks]
      exact h

end Sys2Proof.Laws
end

section
/-! Demand copies and copy jobs: what their starts and completions end in (chapters 5 and 8.2). -/

namespace Sys2Proof.Laws

open Sys2Proof Sys2Proof.Machine Sys2Proof.Safety

/-! ## Ended jobs and faults -/

theorem jobEnded_leaveDrain {s u : State} {w : Win} (h : JobEnded s u w) (m : DrainMember) :
    JobEnded (s.leaveDrain m) (u.leaveDrain m) w where
  kept := h.kept
  dirty := h.dirty
  windows := h.windows
  rest := congrArg (fun u : State => u.leaveDrain m) h.rest

theorem jobEnded_of_touch {s u : State} {w : Win} {r : RecName} (h : JobEnded (s.touch r) u w) : JobEnded s u w where
  kept x hx := h.kept x ((mem_dirty_touch ..).2 (.inl hx))
  dirty job := h.dirty (by rw [touch_eq]; exact job)
  windows v := by
    have window := h.windows v
    rw [touch_eq] at window
    exact window
  rest := by
    have rest := h.rest
    rw [touch_eq] at rest
    exact rest

theorem faulted_leaveDrain {s u : State} {w : Win} (h : Faulted s u w) (m : DrainMember) :
    Faulted (s.leaveDrain m) (u.leaveDrain m) w where
  kept := h.kept
  dirty := h.dirty
  window := h.window
  others := h.others
  rest := congrArg (fun u : State => u.leaveDrain m) h.rest

theorem faulted_with_pp {s u : State} {w : Win} (h : Faulted s u w) (pp : PPort) :
    Faulted { s with pp := pp } { u with pp := pp } w where
  kept := h.kept
  dirty := h.dirty
  window := h.window
  others := h.others
  rest := congrArg (fun u : State => { u with pp := pp }) h.rest

/-- The record of an output window put in FAULT (R74). -/
def Window.faulted (x : Window) : Window := { x with state := .fault, carry := [] }

theorem win_abandonSwap_eq (s : State) (w v : Win) : (s.abandonSwap w).win v =
    if v = w ∧ (s.win w).swapPending = true
    then { s.win w with swapPending := false, waitSet := [], coalesced := false } else s.win v := by
  unfold State.abandonSwap
  split
  next pending => simp [pending]
  next none => simp [none]

theorem abandonSwap_nu (s : State) (w : Win) : (s.abandonSwap w).nu = { s.nu with
    reservations := if (s.win w).swapPending then s.nu.reservations.filter fun v => v != w else s.nu.reservations } := by
  unfold State.abandonSwap
  split <;> simp

theorem framed_faultOutput (s : State) (w : Win) : Framed s (s.faultOutput w) := by simp [framed_iff]

/-- An output window in use enters FAULT (R19, R74). -/
theorem faulted_faultOutput {s : State} {w : Win}
    (state : (s.win w).state = .composing ∨ (s.win w).state = .committed ∨ (s.win w).state = .tripped) :
    Faulted s (s.faultOutput w) w := by
  let faulted := (s.modWin w fun x => Window.faulted x).touch (.win w)
  have effect : s.faultOutput w = (faulted.endJob w).abandonSwap w := if_pos (by simpa using state)
  have win (v : Win) : faulted.win v = if v = w then Window.faulted (s.win w) else s.win v := by simp [faulted]
  have ce : faulted.ce = s.ce := by simp [faulted]
  have nu : faulted.nu = s.nu := by simp [faulted]
  have job : faulted.hasJob w = s.hasJob w := by simp only [State.hasJob, ce]
  have ended := jobEnded_endJob faulted w
  have nuKept : (faulted.endJob w).nu = s.nu := by simp [nu]
  have window := ended.windows w
  rw [win, if_pos rfl, job] at window
  have abandoned := dirties_abandonSwap (p := fun _ => True) (faulted.endJob w) (w := w) trivial
  refine ⟨(dirties_faultOutput (p := fun _ => True) s trivial).kept, ?_, ?_, fun v other => ?_, ?_⟩
  · rw [effect]
    exact abandoned.kept _ (ended.kept _ ((mem_dirty_touch ..).2 (.inr rfl)))
  · rw [effect, win_abandonSwap_eq, window]
    cases pending : (s.win w).swapPending <;> simp [Window.faulted, pending]
  · rw [effect, win_abandonSwap_eq, if_neg (fun h => other h.1), ended.windows, win, if_neg other, job]
  · have frame := (framed_faultOutput s w).of_causes (by simp)
    have ceEnded : (s.faultOutput w).ce = withoutJobs s.ce fun v => v == w := by
      rw [effect, (abandonSwap_keeps _ _).2.2.2.2.1, endJob_ce, ce]
    have nuEnded : (s.faultOutput w).nu = { s.nu with
        reservations := if (s.win w).swapPending then s.nu.reservations.filter fun v => v != w else s.nu.reservations } := by
      rw [effect, abandonSwap_nu, nuKept, window]
      rfl
    rw [ceEnded, nuEnded] at frame
    exact frame

theorem faultOutput_of_other {s : State} {w : Win} (state : (s.win w).state = .idle ∨ (s.win w).state = .fault) :
    s.faultOutput w = s := by
  refine if_neg ?_
  obtain h | h := state <;> simp [h]

theorem hasJob_of_faulted {s u : State} {w : Win} (h : Faulted s u w) : u.hasJob w = false := by
  rw [h.rest]
  simp [State.hasJob, withoutJobs]

theorem endJob_of_no_job {s : State} {w : Win} (h : s.hasJob w = false) : s.endJob w = s := by
  unfold State.endJob
  rw [h]
  rfl

/-! ## Demand copies -/

theorem latchAnswer_modWin (r : Resp) (s : State) (q : ErrSource) (d : Dir) (a : Addr) (w : Win) (f : Window → Window) :
    (State.latchAnswer r s q d a).modWin w f = State.latchAnswer r (s.modWin w f) q d a := by
  cases r with
  | ok => rfl
  | err =>
    simp only [State.latchAnswer]
    rw [latchError_marks, latchError_marks]
    rfl

theorem latchAnswer_popItem (r : Resp) (s : State) (q : ErrSource) (d : Dir) (a : Addr) :
    (State.latchAnswer r s q d a).popItem = State.latchAnswer r s.popItem q d a := by
  cases r with
  | ok => rfl
  | err =>
    simp only [State.latchAnswer]
    rw [latchError_marks, latchError_marks]
    unfold State.popItem
    cases s.pp.current <;> rfl

theorem latchAnswer_leaveDrain (r : Resp) (s : State) (q : ErrSource) (d : Dir) (a : Addr) (m : DrainMember) :
    (State.latchAnswer r s q d a).leaveDrain m = State.latchAnswer r (s.leaveDrain m) q d a := by
  cases r with
  | ok => rfl
  | err =>
    simp only [State.latchAnswer]
    rw [latchError_marks, latchError_marks]
    rfl

theorem touch_popItem (s : State) (r : RecName) : (s.touch r).popItem = s.popItem.touch r := by
  rw [touch_marks, touch_marks]
  unfold State.popItem
  cases s.pp.current <;> rfl

/-- The access goes on with the rest of its plan (R116). -/
theorem popItem_of_plan {s : State} {c : PAccess} {i : PItem} {items : List PItem} (current : s.pp.current = some c)
    (plan : c.items = i :: items) : s.popItem = { s with pp := { s.pp with current := some { c with items := items } } } := by
  unfold State.popItem
  rw [current]
  dsimp only
  rw [plan]
  rfl

/-- Settles O53. -/
theorem demandCopyCompletes : Obligations.DemandCopyCompletes := by
  intro s p w k c i items rst work current plan goesOn
  refine ⟨fun d r grant => ?_, fun grant => ?_⟩
  · have effect : s.demandCopyComplete r =
        (State.latchAnswer r (((pairWritten s r p d).eraseMark w k).popItem) .mu .write p.dst).touch (.win w) := by
      simp only [State.demandCopyComplete, grant, work, finishPair_eq, State.clearMark, State.eraseMark, touch_popItem,
        latchAnswer_modWin, latchAnswer_popItem]
    have copied : ((pairWritten s r p d).eraseMark w k).popItem =
        { s.setWin w { s.win w with carry := (s.win w).carry.erase k } with
          mp := { s.mp with grant := .free }
          mem := (State.memAnswered r s p.dst 0xF d).mem
          free := (State.memAnswered r s p.dst 0xF d).free
          pp := goesOn } := by
      rw [pairWritten_eq, work]
      exact popItem_of_plan current plan
    obtain ⟨t, next, ends⟩ := act_ends_of_eq (f := fun s => s.demandCopyComplete r) rst effect
    rw [copied] at ends
    exact ⟨t, next, mem_dirty_of_endsIn ends ((mem_dirty_touch ..).2 (.inr rfl)), endsIn_trans ends (endsIn_touch ..)⟩
  · intro failed
    have effect : s.demandCopyComplete .err = retryStalled s ((s.failPair .mu p).faultOutput w).popItem := by
      simp only [State.demandCopyComplete, grant, work]
    have failedPops : failed = { s.failPair .mu p with pp := goesOn } := by
      rw [failPair_eq, latchError_marks]
      exact latchError_marks ..
    have pops (u : State) (pp : u.pp = s.pp) : u.popItem = { u with pp := goesOn } := by
      have popped := popItem_of_plan (s := u) (pp ▸ current) plan
      rw [pp] at popped
      exact popped
    have window : (s.failPair .mu p).win w = s.win w := by simp [State.failPair]
    obtain ⟨t, next, ends⟩ := act_ends_of_eq (f := fun s => s.demandCopyComplete .err) rst effect
    have pp : ((s.failPair .mu p).faultOutput w).pp = s.pp := by simp [State.failPair]
    rw [pops _ pp] at ends
    refine ⟨t, _, next, ends, fun state => ?_, fun state => ?_⟩
    · rw [failedPops]
      exact faulted_with_pp (faulted_faultOutput (by rw [window]; exact state)) goesOn
    · rw [failedPops, faultOutput_of_other (by rw [window]; exact state)]

/-! ## The tests of a job -/

theorem requestC_eq {s : State} (state : s.cc.state ≠ .resetting) :
    s.requestC = { s with ce := { s.ce with request := true } } := if_neg state

theorem requestC_of_resetting {s : State} (state : s.cc.state = .resetting) : s.requestC = s := if_pos state

theorem carryNext_ends {s : State} {w : Win} (none : (s.win w).carry = []) : s.carryNext w = s.endJob w := if_pos none

theorem carryNext_asks {s : State} {w : Win} (some_ : (s.win w).carry ≠ []) : s.carryNext w = s.requestC := if_neg some_

/-- The next offset of a loop job (R84, test 3), in the words of the statements. -/
theorem skipLive_eq (d : Descriptor) (k : Nat) :
    d.skipLive k = if d.liveOff ≤ k ∧ k < d.liveOff + d.liveLen then d.liveOff + d.liveLen else k := by
  simp only [Descriptor.skipLive, live_iff]

section
variable {s : State} {w src : Win} {k : Nat}

/-- Test 1: the destination is no longer FILLING (R84). -/
theorem loopNext_not_filling (state : (s.win w).state ≠ .filling) : s.loopNext w src k = s.endJob w := by
  unfold State.loopNext
  cases (s.win w).inUse with
  | none => rfl
  | some d => exact if_pos state

variable {d e : Descriptor} (use : (s.win w).inUse = some d) (state : (s.win w).state = .filling)
include use state

/-- Test 2: the source is no output window in use (R84). -/
theorem loopNext_no_source (source : ∀ e, (s.win src).inUse = some e → e.kind = .input) :
    s.loopNext w src k = s.endLoopNosrc w := by
  simp only [State.loopNext, use, state, loopSource_eq_none source, ne_eq, not_true_eq_false, if_false]

/-- Test 3: a next offset, or the end of the job (R84). -/
theorem loopNext_of_source (source : (s.win src).inUse = some e) (output : e.kind = .output) :
    s.loopNext w src k = if min d.len e.len ≤ d.skipLive k then s.endJob w else (s.setNext src (d.skipLive k)).requestC := by
  simp only [State.loopNext, use, state, (loopSource_eq_some_iff s src e).2 ⟨source, output⟩, ne_eq, not_true_eq_false,
    if_false]

end

theorem job_of_head {s : State} {j : Job} {js : List Job} (running : s.ce.running = true) (jobs : s.ce.jobs = j :: js) :
    s.job = some j := (job_eq_some_iff s j).2 ⟨running, js, jobs⟩

theorem jobNext_carry {s : State} {j : Job} (job : s.job = some j) (kind : j.kind = .carry) :
    s.jobNext = s.carryNext j.dest := by simp only [State.jobNext, job, kind]

theorem jobNext_loop {s : State} {j : Job} {src : Win} {k : Nat} (job : s.job = some j) (kind : j.kind = .loop src k) :
    s.jobNext = s.loopNext j.dest src k := by simp only [State.jobNext, job, kind]

theorem setNext_eq {s : State} {j : Job} {js : List Job} (jobs : s.ce.jobs = j :: js) (src : Win) (k : Nat) :
    s.setNext src k = { s with ce := { s.ce with jobs := { j with kind := .loop src k } :: js } } := by
  unfold State.setNext
  rw [jobs]

/-- Settles O54. -/
theorem copyJobStarts : Obligations.CopyJobStarts := by
  refine ⟨jobEnded_endJob, fun s j js rst idle jobs free state => ?_, fun s blocked => ?_⟩
  · intro started asks
    have job : started.job = some j := job_of_head rfl jobs
    have start : s.startJob = started.jobNext := if_neg (by simp [idle, jobs, free, state])
    have of {u : State} (effect : started.jobNext = u) : ∃ t, exec .copyJobStart s = .next t ∧ EndsIn t u :=
      act_ends_of_eq (f := State.startJob) rst (start.trans effect)
    have ended (effect : started.jobNext = started.endJob j.dest) :
        ∃ t, exec .copyJobStart s = .next t ∧ ∃ u, JobEnded started u j.dest ∧ EndsIn t u := by
      obtain ⟨t, next, ends⟩ := of effect
      exact ⟨t, next, _, jobEnded_endJob .., ends⟩
    refine ⟨fun kind => ⟨fun marked => of ?_, fun unmarked => ended ?_⟩,
      fun src k kind => ⟨fun notFilling => ended ?_, fun d use filling => ?_⟩⟩
    · refine (jobNext_carry job kind).trans ((carryNext_asks (s := started) marked).trans
        ((requestC_eq (s := started) state).trans ?_))
      exact congrArg (fun jobs : List Job => ({ s with ce := ⟨jobs, true, true⟩ } : State)) jobs
    · exact (jobNext_carry job kind).trans (carryNext_ends unmarked)
    · exact (jobNext_loop job kind).trans (loopNext_not_filling notFilling)
    · intro at_
      refine ⟨fun noSource => ?_, fun e source output => ⟨fun more => of ?_, fun last => ended ?_⟩⟩
      · obtain ⟨t, next, ends⟩ := of ((jobNext_loop job kind).trans (loopNext_no_source use filling noSource))
        exact ⟨t, next, _, jobEnded_endJob .., ends⟩
      · refine (jobNext_loop job kind).trans ((loopNext_of_source (s := started) use filling source output).trans ?_)
        rw [skipLive_eq, if_neg (Nat.not_le.2 more), setNext_eq (s := started) jobs]
        exact requestC_eq state
      · refine (jobNext_loop job kind).trans ((loopNext_of_source (s := started) use filling source output).trans ?_)
        rw [skipLive_eq, if_pos last]
  · by_cases rst : s.lines.rst = true
    · exact ⟨s, act_held State.startJob rst, endsIn_refl s⟩
    · exact act_ends_of_eq (f := State.startJob) (by simpa using rst) (if_pos blocked)

/-! ## Carry pairs -/

theorem failPair_leaveDrain (s : State) (q : ErrSource) (p : Pair) (m : DrainMember) : (s.failPair q p).leaveDrain m =
    State.latchError { s with
      mp := { s.mp with grant := .free }
      cc := { s.cc with drainSet := s.cc.drainSet.erase m } } q .read p.src :=
  latchAnswer_leaveDrain .err (s.setGrant .free) q .read p.src m

theorem job_congr {s u : State} (ce : u.ce = s.ce) : u.job = s.job := by
  unfold State.job
  rw [ce]

theorem running_of_job {s : State} {j : Job} (job : s.job = some j) : s.ce.running = true := ((job_eq_some_iff s j).1 job).1

/-- The carry marks of a window, when a pair has been copied and its transaction has ended (R81, R147). -/
def carryCopied (s : State) (r : Resp) (p : Pair) (d : Word) (w : Win) (k : Nat) : State :=
  (s.finishPair r .ce p d).eraseMark w k

theorem carryCopied_eq (s : State) (r : Resp) (p : Pair) (d : Word) (w : Win) (k : Nat) : carryCopied s r p d w k =
    State.latchAnswer r ((pairWritten s r p d).eraseMark w k) .ce .write p.dst := by
  rw [carryCopied, finishPair_eq, State.eraseMark, latchAnswer_modWin]
  rfl

section
variable {s : State} {r : Resp} {p : Pair} {d : Word} {w : Win} {k : Nat}

theorem carryCopied_ce : (carryCopied s r p d w k).ce = s.ce := by
  rw [carryCopied_eq, pairWritten_eq]
  simp [State.eraseMark]

theorem carryCopied_state : (carryCopied s r p d w k).cc.state = s.cc.state := by
  rw [carryCopied_eq, pairWritten_eq]
  simp [State.eraseMark]

theorem carryCopied_carry : ((carryCopied s r p d w k).win w).carry = (s.win w).carry.erase k := by
  rw [carryCopied_eq, pairWritten_eq, win_latchAnswer]
  simp [State.eraseMark]

theorem carryPairComplete_eq (grant : s.mp.grant = .pairWrite p d) (work : p.work = .carry w k) :
    s.carryPairComplete r = (if s.ce.running then (carryCopied s r p d w k).jobNext else carryCopied s r p d w k).leaveDrain
      .pair := by
  have running : (s.finishPair r .ce p d).ce = s.ce := carryCopied_ce (w := w) (k := k)
  simp only [State.carryPairComplete, grant, work, State.carryDone, running]
  rfl

theorem carryPairComplete_failed (grant : s.mp.grant = .pairRead p) (work : p.work = .carry w k) :
    s.carryPairComplete .err = retryStalled s (((s.failPair .ce p).carryFailed w).leaveDrain .pair) := by
  simp only [State.carryPairComplete, grant, work]

end

/-- Settles O55. -/
theorem carryPairCompletes : Obligations.CarryPairCompletes := by
  intro s p w k rst work left
  refine ⟨fun d r grant => ?_, fun grant => ?_⟩
  · intro done
    have effect := carryPairComplete_eq (r := r) grant work
    have finished : (carryCopied s r p d w k).leaveDrain .pair = done := by
      rw [carryCopied_eq, latchAnswer_leaveDrain, pairWritten_eq, work]
      rfl
    have ce := carryCopied_ce (s := s) (r := r) (p := p) (d := d) (w := w) (k := k)
    have state := carryCopied_state (s := s) (r := r) (p := p) (d := d) (w := w) (k := k)
    have carry := carryCopied_carry (s := s) (r := r) (p := p) (d := d) (w := w) (k := k)
    generalize carryCopied s r p d w k = copied at effect finished ce state carry
    have of {u : State} (end_ : (if s.ce.running then copied.jobNext else copied).leaveDrain .pair = u) :
        ∃ t, exec (.carryPairComplete r) s = .next t ∧ EndsIn t u :=
      act_ends_of_eq (f := fun s => s.carryPairComplete r) rst (effect.trans end_)
    refine ⟨fun stopped => of ?_, fun j job kind dest => ?_⟩
    · rw [stopped]
      exact finished
    · have tests : (if s.ce.running then copied.jobNext else copied) = copied.carryNext w := by
        rw [running_of_job job, if_pos rfl, jobNext_carry ((job_congr ce).trans job) kind, dest]
      rw [tests] at of
      refine ⟨fun marked open_ => of ?_, fun marked resetting => of ?_, fun unmarked => ?_⟩
      · rw [carryNext_asks (by rwa [carry]), requestC_eq (by rwa [state]), ← finished, ← ce]
        rfl
      · rw [carryNext_asks (by rwa [carry]), requestC_of_resetting (by rwa [state]), finished]
      · obtain ⟨t, next, ends⟩ := of (congrArg (fun u : State => u.leaveDrain .pair) (carryNext_ends (carry.trans unmarked)))
        refine ⟨t, _, next, ?_, ends⟩
        rw [← finished]
        exact jobEnded_leaveDrain (jobEnded_endJob copied w) .pair
  · intro failed
    obtain ⟨t, next, ends⟩ := act_ends_of_eq (f := fun s => s.carryPairComplete .err) rst (carryPairComplete_failed grant work)
    have failedLeaves : (s.failPair .ce p).leaveDrain .pair = failed := failPair_leaveDrain ..
    have window : (s.failPair .ce p).win w = s.win w := by simp [State.failPair]
    have ce : (s.failPair .ce p).ce = s.ce := by simp [State.failPair]
    refine ⟨t, _, next, ends, fun running state => ?_, fun stopped => ?_⟩
    · have faulted := faulted_faultOutput (s := s.failPair .ce p) (w := w) (by rw [window]; exact state)
      rw [State.carryFailed, ce, if_pos running, endJob_of_no_job (hasJob_of_faulted faulted), ← failedLeaves]
      exact faulted_leaveDrain faulted .pair
    · rw [State.carryFailed, ce, stopped]
      exact failedLeaves

end Sys2Proof.Laws
end

section
/-! The words of a loop job (chapter 5). -/

namespace Sys2Proof.Laws

open Sys2Proof Sys2Proof.Machine Sys2Proof.Safety

/-! ## Jobs that advance -/

theorem loopAdvance_eq {s : State} {j : Job} {src : Win} {k : Nat} (job : s.job = some j) (kind : j.kind = .loop src k) :
    s.loopAdvance = s.setNext src (k + 1) := by simp only [State.loopAdvance, job, kind]

theorem event_leaveDrain (s : State) (w : Win) (e : WEvent) (m : DrainMember) :
    (s.event w e).leaveDrain m = (s.leaveDrain m).event w e := by
  unfold State.event State.recordCauseOf State.record
  cases e.cause with
  | none => simp only [touch_marks]; rfl
  | some c => simp only [touch_marks]; rfl

section
variable {s : State} {w src : Win} {j : Job} {js : List Job}

variable (jobs : s.ce.jobs = j :: js) (dest : j.dest = w)
include jobs

theorem job_setNext (running : s.ce.running = true) (k : Nat) :
    (s.setNext src k).job = some { j with kind := .loop src k } := by
  rw [setNext_eq jobs]
  exact job_of_head running rfl

include dest

/-- The next offset of a job that ends no longer matters (R77, R87). -/
theorem jobEnded_of_setNext {u : State} {k : Nat} (h : JobEnded (s.setNext src k) u w) : JobEnded s u w := by
  rw [setNext_eq jobs] at h
  have has : s.hasJob w = true := (hasJob_iff s w).2 ⟨j, by simp [jobs], dest⟩
  have hasNext : ({ s with ce := { s.ce with jobs := { j with kind := .loop src k } :: js } } : State).hasJob w = true :=
    (hasJob_iff _ w).2 ⟨{ j with kind := .loop src k }, List.mem_cons_self, dest⟩
  refine ⟨h.kept, fun _ => h.dirty hasNext, fun v => ?_, ?_⟩
  · have windows := h.windows v
    rw [hasNext] at windows
    rw [has]
    exact windows
  · have left : withoutJobs { s.ce with jobs := { j with kind := .loop src k } :: js } (fun v => v == w) =
        withoutJobs s.ce fun v => v == w := by
      simp [withoutJobs, jobs, dest]
    have rest := h.rest
    rw [left] at rest
    exact rest

end

/-! ## A word moved -/

/-- The state in which the write of a loop word has been answered (R85, R147). -/
def loopMoved (s : State) (r : Resp) (a : Addr) (d : Word) : State :=
  State.latchAnswer r ((State.memAnswered r s a 0xF d).setGrant .free) .ce .write a

section
variable {s : State} {r : Resp} {a : Addr} {d : Word}

theorem loopMoved_ce : (loopMoved s r a d).ce = s.ce := by simp [loopMoved]

theorem loopMoved_state : (loopMoved s r a d).cc.state = s.cc.state := by simp [loopMoved]

theorem win_loopMoved (v : Win) : (loopMoved s r a d).win v = s.win v := by
  rw [loopMoved, win_latchAnswer, memAnswered_eq]
  rfl

theorem loopMoved_leaves (w : Win) (y : Window) : ((loopMoved s r a d).setWin w y).leaveDrain .pair =
    State.latchAnswer r
      { s.setWin w y with
        mp := { s.mp with grant := .free }
        mem := (State.memAnswered r s a 0xF d).mem
        free := (State.memAnswered r s a 0xF d).free
        cc := { s.cc with drainSet := s.cc.drainSet.erase .pair } } .ce .write a := by
  have set := latchAnswer_modWin r ((State.memAnswered r s a 0xF d).setGrant .free) .ce .write a w fun _ => y
  rw [memAnswered_eq] at set
  rw [loopMoved, memAnswered_eq]
  refine (congrArg (fun u : State => u.leaveDrain .pair) set).trans ?_
  exact latchAnswer_leaveDrain ..

theorem loopPairComplete_eq {w : Win} (moved : (∃ p, s.mp.grant = .pairWrite p d ∧ p.work = .loop w ∧ p.dst = a) ∨
      (∃ g, s.mp.grant = .single g ∧ g.work = .loopFill w ∧ g.addr = a ∧ g.be = 0xF#4 ∧ g.data = d)) :
    s.loopPairComplete r = ((loopMoved s r a d).loopDone w).leaveDrain .pair := by
  obtain ⟨p, grant, work, rfl⟩ | ⟨g, grant, work, rfl, be, rfl⟩ := moved
  · simp only [State.loopPairComplete, grant, work, finishPair_eq, pairWritten, PairWork.writeLanes]
    rfl
  · simp only [State.loopPairComplete, grant, work, be]
    rfl

end

/-! ## A word counted -/

section
variable {s : State} {w src : Win} {j : Job} {js : List Job} {k : Nat} {b : Descriptor}
variable (running : s.ce.running = true) (jobs : s.ce.jobs = j :: js) (kind : j.kind = .loop src k) (dest : j.dest = w)
include running jobs kind dest

/-- A word that is not counted, its destination no longer FILLING: the job ends (R84, test 1). -/
theorem loopDone_not_filling (state : (s.win w).state ≠ .filling) : s.loopDone w = s.endJob w := by
  have job := job_of_head running jobs
  unfold State.loopDone
  rw [if_pos running, if_neg state, jobNext_loop job kind, dest, loopNext_not_filling state]

/-- A word is counted, and the job makes its tests at the next offset (R57, R84, R85). -/
theorem loopDone_filling (state : (s.win w).state = .filling) : s.loopDone w =
    (((s.setWin w (s.win w).counted).touch (.win w)).setNext src (k + 1)).loopNext w src (k + 1) := by
  let counted := (s.setWin w (s.win w).counted).touch (.win w)
  have ce : counted.ce = s.ce := by simp [counted]
  have job : counted.job = some j := job_of_head (ce ▸ running) (ce ▸ jobs)
  have nextJob := job_setNext (s := counted) (src := src) (ce ▸ jobs) (ce ▸ running) (k + 1)
  calc s.loopDone w = counted.loopAdvance.jobNext := by
        unfold State.loopDone
        rw [if_pos running, if_pos state]
        rfl
    _ = (counted.setNext src (k + 1)).jobNext := by rw [loopAdvance_eq job kind]
    _ = (counted.setNext src (k + 1)).loopNext w src (k + 1) := by rw [jobNext_loop nextJob rfl, dest]

omit running kind
/-- The end of the job by its tests after a word (R84; log 40). -/
theorem jobEnded_counted (y : Window) :
    JobEnded (s.setWin w y) ((((s.setWin w y).touch (.win w)).setNext src k).endJob w) w := by
  have touched : ((s.setWin w y).touch (.win w)).ce = s.ce := by simp
  exact jobEnded_of_touch (jobEnded_of_setNext (touched ▸ jobs) dest (jobEnded_endJob ..))

end

theorem counted_terminal {x : Window} (fill : x.fill = 0) : x.counted = { x with state := .filled } := if_pos fill

theorem counted_other {x : Window} (fill : x.fill ≠ 0) : x.counted = { x with fill := x.fill - 1 } := if_neg fill

theorem requestC_written_out (s : State) :
    s.requestC = { s with ce := { s.ce with request := s.ce.request || s.cc.state != .resetting } } := by
  unfold State.requestC
  split
  next resetting => simp [resetting]
  next open_ => simp [open_]

/-- A job that advances past a word counted, and asks for the next (R77, R84). -/
theorem advanced_requestC {s : State} {j : Job} {js : List Job} (running : s.ce.running = true) (jobs : s.ce.jobs = j :: js)
    (w src : Win) (y : Window) (k next : Nat) :
    ((((s.setWin w y).touch (.win w)).setNext src k).setNext src next).requestC =
      { s.setWin w y with
        ce := ⟨{ j with kind := .loop src next } :: js, true, s.ce.request || s.cc.state != .resetting⟩
        cba := ((s.setWin w y).touch (.win w)).cba } := by
  have touched : ((s.setWin w y).touch (.win w)).ce.jobs = j :: js := by simpa using jobs
  rw [setNext_eq touched, setNext_eq (js := js) rfl, requestC_written_out, touch_eq, ← running]
  rfl

/-! ## The read half of a loop pair fails -/

theorem failPair_setWin_leaves (s : State) (p : Pair) (w : Win) (y : Window) :
    ((s.failPair .ce p).setWin w y).leaveDrain .pair = State.latchError { s.setWin w y with
      mp := { s.mp with grant := .free }
      cc := { s.cc with drainSet := s.cc.drainSet.erase .pair } } .ce .read p.src :=
  (congrArg (fun u : State => u.leaveDrain .pair)
    (latchAnswer_modWin .err (s.setGrant .free) .ce .read p.src w fun _ => y)).trans (latchAnswer_leaveDrain .err ..)

/-- Settles O56. -/
theorem loopWordCompletes : Obligations.LoopWordCompletes := by
  intro s w rst left x
  refine ⟨fun r a d moved => ?_, fun p grant work => ?_⟩
  · intro written ends
    have effect := loopPairComplete_eq (r := r) moved
    have leaves (y : Window) : ((loopMoved s r a d).setWin w y).leaveDrain .pair = written y := loopMoved_leaves w y
    have ce := loopMoved_ce (s := s) (r := r) (a := a) (d := d)
    have state := loopMoved_state (s := s) (r := r) (a := a) (d := d)
    have win := win_loopMoved (s := s) (r := r) (a := a) (d := d)
    generalize loopMoved s r a d = m at effect leaves ce state win
    have of {u : State} (end_ : (m.loopDone w).leaveDrain .pair = u) : ends u :=
      act_ends_of_eq (f := fun s => s.loopPairComplete r) rst (effect.trans end_)
    have unchanged : m.leaveDrain .pair = written x := by
      rw [← leaves x, show x = m.win w from (win w).symm, setWin_win]
    refine ⟨fun stopped => of ?_, fun j js src k b running jobs kind dest use => ?_⟩
    · rw [State.loopDone, ce, stopped]
      exact unchanged
    · intro next
      have nextEq : next = b.skipLive (k + 1) := (skipLive_eq ..).symm
      rw [← ce] at running jobs
      have ended (y : Window) := jobEnded_leaveDrain (jobEnded_counted (k := k + 1) (src := src) jobs dest y) .pair
      simp only [leaves] at ended
      refine ⟨fun notFilling => ?_, fun filling terminal => ?_, fun filling more => ?_⟩
      · refine ⟨_, ?_, of rfl⟩
        rw [loopDone_not_filling running jobs kind dest (by rwa [win]), ← unchanged]
        exact jobEnded_leaveDrain (jobEnded_endJob m w) .pair
      · refine ⟨_, ?_, of rfl⟩
        rw [loopDone_filling running jobs kind dest (by rwa [win]), win, counted_terminal terminal]
        rw [loopNext_not_filling (by simp)]
        exact ended _
      · let y : Window := { x with fill := x.fill - 1 }
        let counted := ((m.setWin w y).touch (.win w)).setNext src (k + 1)
        have done : m.loopDone w = counted.loopNext w src (k + 1) := by
          rw [loopDone_filling running jobs kind dest (by rwa [win]), win, counted_other more]
        have window (v : Win) : counted.win v = if v = w then y else s.win v := by
          rw [win_setNext, win_touch, win_setWin, win]
        have useCounted : (counted.win w).inUse = some b := by
          rw [window, if_pos rfl]
          exact use
        have fillingCounted : (counted.win w).state = .filling := by
          rw [window, if_pos rfl]
          exact filling
        have sourceCounted : (counted.win src).inUse = (s.win src).inUse := by
          rw [window]
          split
          next own => rw [own]; rfl
          next => rfl
        refine ⟨fun noSource => ⟨_, ended _, of ?_⟩, fun e source output =>
          ⟨fun last => ⟨_, ended _, of ?_⟩, fun another => ?_⟩⟩
        · rw [done, loopNext_no_source useCounted fillingCounted (by rwa [sourceCounted]), ← event_leaveDrain]
          rfl
        · rw [done, loopNext_of_source useCounted fillingCounted (sourceCounted.trans source) output, ← nextEq, if_pos last]
        · have asks := loopNext_of_source (k := k + 1) useCounted fillingCounted (sourceCounted.trans source) output
          rw [← nextEq, if_neg (Nat.not_le.2 another), advanced_requestC running jobs] at asks
          refine act_ends_of_endsIn (f := fun s => s.loopPairComplete r) rst ?_
          rw [effect, done, asks, ← leaves, ← ce, ← state]
          exact ⟨by rw [touch_eq]; rfl, fun r h => (mem_dirty_touch ..).2 (.inl h)⟩
  · intro failed
    have effect : s.loopPairComplete .err = ((s.failPair .ce p).loopFailed w).leaveDrain .pair := by
      simp only [State.loopPairComplete, grant, work]
    have leaves (y : Window) : ((s.failPair .ce p).setWin w y).leaveDrain .pair = failed y := failPair_setWin_leaves s p w y
    have win : (s.failPair .ce p).win w = x := by simp [State.failPair, x]
    have ce : (s.failPair .ce p).ce = s.ce := by simp [State.failPair]
    generalize s.failPair .ce p = m at effect leaves win ce
    have of {u : State} (end_ : (m.loopFailed w).leaveDrain .pair = u) :
        ∃ t, exec (.loopPairComplete .err) s = .next t ∧ EndsIn t u :=
      act_ends_of_eq (f := fun s => s.loopPairComplete .err) rst (effect.trans end_)
    refine ⟨fun stopped => of ?_, fun running filling => ?_⟩
    · rw [State.loopFailed, ce, stopped, ← leaves x, ← win, setWin_win]
      rfl
    · obtain ⟨t, next, end_⟩ := of rfl
      refine ⟨t, _, next, ?_, end_⟩
      rw [State.loopFailed, ce, if_pos running, if_pos (by rwa [win]), State.faultInput, ← leaves]
      refine jobEnded_leaveDrain (jobEnded_of_touch (r := .win w) ?_) .pair
      rw [← win]
      exact jobEnded_endJob ..

end Sys2Proof.Laws
end

section
/-! The performance of a pending swap (chapters 1 and 5). -/

namespace Sys2Proof.Laws

open Sys2Proof Sys2Proof.Machine Sys2Proof.Safety

/-- Whether a window just performed is a loop window without a job (R56). -/
def loops (s : State) (w : Win) (d : Descriptor) : Bool := decide (d.kind = .input) && d.loop && !s.hasJob w

section
variable {s : State} {w : Win} {d : Descriptor} (use : (s.win w).inUse = some d)
include use

theorem enqueueLoop_of_no_loop (h : loops s w d = false) : s.enqueueLoop w = s := by
  have refused : ¬ (d.kind = .input ∧ d.loop = true ∧ (s.win w).state = .filling ∧ (!s.hasJob w) = true) := by
    rintro ⟨input, loop, -, free⟩
    simp [loops, input, loop, free] at h
  simp only [State.enqueueLoop, use]
  exact if_neg refused

variable (filling : d.kind = .input → (s.win w).state = .filling)
include filling

theorem win_enqueueLoop_loops (v : Win) : (s.enqueueLoop w).win v =
    if v = w then
      { s.win w with events := if loops s w d && !(s.loopSource d.loopSrc).isSome then (s.win w).events ||| WEvent.mask .loopNosrc
                               else (s.win w).events }
    else s.win v := by
  cases asks : loops s w d with
  | false =>
    rw [enqueueLoop_of_no_loop use asks]
    by_cases own : v = w
    · simp [own]
    · simp [own]
  | true =>
    obtain ⟨⟨input, loop⟩, free⟩ : (d.kind = .input ∧ d.loop = true) ∧ s.hasJob w = false := by simpa [loops] using asks
    rw [win_enqueueLoop_eq use input free]
    cases s.loopSource d.loopSrc <;> simp [filling input, loop]

theorem enqueueLoop_ce_loops : (s.enqueueLoop w).ce = { s.ce with
    jobs := if loops s w d && (s.loopSource d.loopSrc).isSome then
      s.ce.jobs ++ [{ kind := .loop d.loopSrc 0, dest := w, urgent := false }] else s.ce.jobs } := by
  cases asks : loops s w d with
  | false => rw [enqueueLoop_of_no_loop use asks]; rfl
  | true =>
    obtain ⟨⟨input, loop⟩, free⟩ : (d.kind = .input ∧ d.loop = true) ∧ s.hasJob w = false := by simpa [loops] using asks
    have keeps := enqueueLoop_keeps s w
    have jobs := enqueueLoop_jobs use input free
    generalize (s.enqueueLoop w).ce = ce at keeps jobs
    cases ce
    cases source : s.loopSource d.loopSrc <;> simp_all

end

section
variable {s : State} {w : Win} {d : Descriptor} (use : (s.win w).inUse = some d)
include use

theorem inUse_performSwap (v : Win) : ((s.performSwap w).win v).inUse = (s.win v).inUse := by
  rw [win_performSwap_eq use]
  split
  next own =>
    obtain ⟨notIdle, -⟩ := inUse_eq_some.mp use
    subst own
    refine inUse_congr (by simp) (by simp) (by simp) ?_
    cases kind : d.kind <;> simp [Window.swapped, kind, notIdle]
  · rfl

theorem filling_performSwap (input : d.kind = .input) : ((s.performSwap w).win w).state = .filling := by
  rw [win_performSwap_eq use, if_pos rfl]
  simp [Window.swapped, input]

theorem loops_performSwap : loops (s.performSwap w) w d = loops s w d := by
  have ce := performSwap_ce use
  cases kind : d.kind with
  | input =>
    have job : (s.performSwap w).hasJob w = s.hasJob w := by simp [State.hasJob, ce, kind]
    rw [loops, job, loops]
  | output => simp [loops, kind]

/-- A loop window's own job, and no carry job, joins the queue, or the other way round (R16, R56). -/
theorem performed_jobs : ((s.performSwap w).enqueueLoop w).ce = { s.ce with
    jobs := if d.kind = .output ∧ ¬ s.hasJob w then s.ce.jobs ++ [{ kind := .carry, dest := w, urgent := false }]
      else if loops s w d && (s.loopSource d.loopSrc).isSome then
        s.ce.jobs ++ [{ kind := .loop d.loopSrc 0, dest := w, urgent := false }]
      else s.ce.jobs } := by
  rw [enqueueLoop_ce_loops ((inUse_performSwap use w).trans use) (filling_performSwap use), loops_performSwap use,
    loopSource_congr (inUse_performSwap use _), performSwap_ce use]
  cases kind : d.kind with
  | input => simp
  | output => cases s.hasJob w <;> simp [loops, kind]

end

theorem noticeOf_reserved (s : State) (w : Win) (d : Descriptor) :
    (s.nu.queue ++ if w ∈ s.nu.reservations then [noticeOf w d] else []) =
      if decide (w ∈ s.nu.reservations) = true then s.nu.queue ++ [{ win := w, base := d.pview, len := noticeLen d }]
      else s.nu.queue := by
  by_cases reserved : w ∈ s.nu.reservations <;> simp [reserved, noticeOf_eq]

/-- Settles O57. -/
theorem swapIsPerformed : Obligations.SwapIsPerformed := by
  refine ⟨fun s w d rst state pending waits use => ?_, fun s w waiting => ?_⟩
  · intro x reserved loop source u
    have ready : s.swapPerform w = retryStalled s ((s.performSwap w).enqueueLoop w) := by
      refine if_pos ?_
      simp [State.swapReady, pending, waits, use, state]
    obtain ⟨t, next, ends⟩ := act_ends_of_eq (f := fun s => s.swapPerform w) rst ready
    have windows : ((s.performSwap w).enqueueLoop w).windows = u.windows := by
      refine windows_ext fun v => ?_
      rw [win_enqueueLoop_loops ((inUse_performSwap use w).trans use) (filling_performSwap use), loops_performSwap use,
        loopSource_congr (inUse_performSwap use _), win_performSwap_eq use, win_performSwap_eq use, if_pos rfl]
      refine Eq.trans ?_ (win_setWin ..).symm
      split
      · unfold Window.swapped
        cases kind : d.kind with
        | input => simp [x, loop, source, loops, kind, fenceFilled, reserved, waits]
        | output => simp [x, loop, source, loops, kind, fenceFilled, reserved, waits, carryMarks_eq]
      · rfl
    have jobs : ((s.performSwap w).enqueueLoop w).ce = u.ce := performed_jobs use
    have notices : ((s.performSwap w).enqueueLoop w).nu = u.nu := by
      rw [(enqueueLoop_keeps _ w).2.2.2.2.1, performSwap_nu use, noticeOf_reserved]
    have frame := ((framed_performSwap s w).trans (framed_enqueueLoop _ w)).of_causes
      ((enqueueLoop_causes ..).trans (performSwap_causes s w))
    rw [windows, jobs, notices] at frame
    exact ⟨t, _, next, mem_dirty_enqueueLoop w (mem_dirty_performSwap use), frame, ends⟩
  · by_cases rst : s.lines.rst = true
    · exact ⟨s, act_held (fun s => s.swapPerform w) rst, endsIn_refl s⟩
    · refine act_ends_of_eq (f := fun s => s.swapPerform w) (by simpa using rst) (if_neg ?_)
      obtain none | some_ | resetting := waiting
      · simp [State.swapReady, none]
      · simp [State.swapReady, some_]
      · simp [State.swapReady, resetting]

end Sys2Proof.Laws
end

section
/-! Records of the Control Block as they are read (section 12.2), and the START load (chapter 9). -/

namespace Sys2Proof.Laws

open Sys2Proof Sys2Proof.Machine Sys2Proof.Safety

/-! ## The configuration record -/

theorem field_toNat (x : Word) (lo n : Nat) : (x.extractLsb' lo n).toNat = x.toNat / 2 ^ lo % 2 ^ n := by
  rw [BitVec.extractLsb'_toNat, Nat.shiftRight_eq_div_pow]

theorem field_zero_toNat (x : Word) (n : Nat) : (x.extractLsb' 0 n).toNat = x.toNat % 2 ^ n := by
  rw [field_toNat, Nat.pow_zero, Nat.div_one]

theorem freezeModeOf_eq_none (c : BitVec 2) : freezeModeOf c = none ↔ c.toNat = 3 := by
  revert c
  decide

theorem arbModeOf_eq_none (c : BitVec 2) : arbModeOf c = none ↔ 2 ≤ c.toNat := by
  revert c
  decide

theorem freezeModeOf_eq_some (c : BitVec 2) (m : FreezeMode) : freezeModeOf c = some m →
    (c.toNat = 0 ∧ m = .ignore) ∨ (c.toNat = 1 ∧ m = .all) ∨ (c.toNat = 2 ∧ m = .inputs) := by
  revert c
  cases m <;> decide

theorem arbModeOf_eq_some (c : BitVec 2) (m : ArbMode) : arbModeOf c = some m →
    (c.toNat = 0 ∧ m = .fixed) ∨ (c.toNat = 1 ∧ m = .rotating) := by
  revert c
  cases m <;> decide

theorem decodeConfig_eq_none (ws : List Word) : decodeConfig ws = none ↔
    freezeModeOf ((wordOf ws 1).extractLsb' 0 2) = none ∨ arbModeOf ((wordOf ws 2).extractLsb' 0 2) = none := by
  unfold decodeConfig
  cases freezeModeOf ((wordOf ws 1).extractLsb' 0 2) <;> cases arbModeOf ((wordOf ws 2).extractLsb' 0 2) <;> simp

/-- A configuration record that names its modes (R129). -/
theorem decodeConfig_eq_some {ws : List Word} {c : ConfigRecord} (h : decodeConfig ws = some c) :
    freezeModeOf ((wordOf ws 1).extractLsb' 0 2) = some c.freezeMode ∧
    arbModeOf ((wordOf ws 2).extractLsb' 0 2) = some c.arbMode ∧
    c.groupLen = (wordOf ws 0).extractLsb' 0 8 ∧ c.cycTimeout = (wordOf ws 3).extractLsb' 0 24 ∧
    c.minInt = (wordOf ws 4).extractLsb' 0 16 ∧ c.noticeTimeout = (wordOf ws 5).extractLsb' 0 16 ∧
    c.irqMask = (wordOf ws 6).extractLsb' 0 15 := by
  unfold decodeConfig at h
  cases freeze : freezeModeOf ((wordOf ws 1).extractLsb' 0 2) with
  | none => simp [freeze] at h
  | some f =>
    cases arb : arbModeOf ((wordOf ws 2).extractLsb' 0 2) with
    | none => simp [freeze, arb] at h
    | some m =>
      rw [freeze, arb] at h
      obtain rfl := Option.some.inj h
      exact ⟨rfl, rfl, rfl, rfl, rfl, rfl, rfl⟩

/-- The configuration record's fields (section 12.2). -/
theorem decodeConfig_fields (x0 x1 x2 x3 x4 x5 x6 x7 : Word) :
    (decodeConfig [x0, x1, x2, x3, x4, x5, x6, x7] = none ↔ x1.toNat % 4 = 3 ∨ 2 ≤ x2.toNat % 4) ∧
    ∀ c, decodeConfig [x0, x1, x2, x3, x4, x5, x6, x7] = some c →
      c.groupLen.toNat = x0.toNat % 256 ∧
      ((x1.toNat % 4 = 0 ∧ c.freezeMode = .ignore) ∨ (x1.toNat % 4 = 1 ∧ c.freezeMode = .all) ∨
        (x1.toNat % 4 = 2 ∧ c.freezeMode = .inputs)) ∧
      ((x2.toNat % 4 = 0 ∧ c.arbMode = .fixed) ∨ (x2.toNat % 4 = 1 ∧ c.arbMode = .rotating)) ∧
      c.cycTimeout.toNat = x3.toNat % 2 ^ 24 ∧ c.minInt.toNat = x4.toNat % 2 ^ 16 ∧
      c.noticeTimeout.toNat = x5.toNat % 2 ^ 16 ∧ c.irqMask.toNat = x6.toNat % 2 ^ 15 := by
  refine ⟨?_, fun c h => ?_⟩
  · rw [decodeConfig_eq_none, freezeModeOf_eq_none, arbModeOf_eq_none, field_zero_toNat, field_zero_toNat]
    rfl
  · obtain ⟨freeze, arb, group, cyc, int, notice, mask⟩ := decodeConfig_eq_some h
    have freeze := freezeModeOf_eq_some _ _ freeze
    have arb := arbModeOf_eq_some _ _ arb
    rw [field_zero_toNat] at freeze arb
    rw [group, cyc, int, notice, mask]
    simp only [field_zero_toNat]
    exact ⟨rfl, freeze, arb, rfl, rfl, rfl, rfl⟩

/-! ## Descriptors -/

/-- A descriptor's fields (section 12.2, R161). -/
theorem decodeDescriptor_fields (x0 x1 x2 x3 x4 x5 x6 x7 : Word) :
    let d := decodeDescriptor [x0, x1, x2, x3, x4, x5, x6, x7]
    d.enable = x0.getLsbD 0 ∧ (d.kind = .output ↔ x0.getLsbD 1 = true) ∧ d.cached = x0.getLsbD 2 ∧
    (d.policy = .safe ↔ x0.getLsbD 3 = true) ∧ d.transparent = x0.getLsbD 4 ∧ d.loop = x0.getLsbD 5 ∧
    d.loopSrc.val = x0.toNat / 2 ^ 8 % 16 ∧ d.missLimit.toNat = x0.toNat / 2 ^ 12 % 16 ∧
    d.expect.toNat = x0.toNat / 2 ^ 16 % 1024 ∧ d.len = x1.toNat % 512 ∧ d.liveOff = x1.toNat / 2 ^ 10 % 512 ∧
    d.liveLen = x1.toNat / 2 ^ 20 % 512 ∧ d.pview.toNat = x2.toNat % 2 ^ 24 ∧ d.fview.toNat = x3.toNat % 2 ^ 24 ∧
    d.bank0.toNat = x4.toNat % 2 ^ 24 ∧ d.bank1.toNat = x5.toNat % 2 ^ 24 ∧ d.safepat = x6 := by
  have kind (b : Bool) : (if b then Kind.output else .input) = .output ↔ b = true := by cases b <;> decide
  have policy (b : Bool) : (if b then Policy.safe else .keepLast) = .safe ↔ b = true := by cases b <;> decide
  exact ⟨rfl, kind _, rfl, policy _, rfl, rfl, field_toNat x0 8 4, field_toNat x0 12 4, field_toNat x0 16 10,
    field_zero_toNat x1 9, field_toNat x1 10 9, field_toNat x1 20 9, field_zero_toNat x2 24, field_zero_toNat x3 24,
    field_zero_toNat x4 24, field_zero_toNat x5 24, rfl⟩

/-! ## Reads of requester K -/

/-- K has no request of its own until the next one is presented (R142, R156). -/
def requestless (s : State) : State := { s with cba := { s.cba with request := none } }

theorem endsIn_requestless (s : State) : EndsIn (requestless s) s := ⟨rfl, fun _ h => h⟩

theorem event_requestless (s : State) (w : Win) (e : WEvent) : (requestless s).event w e = requestless (s.event w e) := by
  unfold State.event State.recordCauseOf State.record requestless
  cases e.cause with
  | none => simp only [touch_marks]; rfl
  | some c => simp only [touch_marks]; rfl

/-- The state in which a read of K has been answered (R141, R147, R156). -/
def kAnswered (s : State) (r : Resp) (g : Single) : State := State.latchAnswer r
  { s with
    mp := { s.mp with grant := .free }
    cba := { s.cba with turn := .writeback }
    cc := { s.cc with drainSet := s.cc.drainSet.erase .read } } .k .read g.addr

theorem kReadDone_eq (s : State) (r : Resp) (g : Single) : s.kReadDone r g = requestless (kAnswered s r g) := by
  cases r with
  | ok => rfl
  | err =>
    simp only [State.kReadDone, kAnswered, State.latchAnswer]
    rw [latchError_marks, latchError_marks]
    rfl

theorem validate_congr {s t : State} (lines : t.lines = s.lines) (windows : t.windows = s.windows) (w : Win)
    (d : Descriptor) : t.validate w d = s.validate w d := by
  unfold State.validate
  rw [selfOk_congr (s := s) (t := t) (by rw [lines]) (by rw [lines])]
  simp only [win_congr windows]

theorem kAnswered_keeps (s : State) (r : Resp) (g : Single) :
    (kAnswered s r g).lines = s.lines ∧ (kAnswered s r g).windows = s.windows ∧
    (kAnswered s r g).cc.state = s.cc.state ∧ (kAnswered s r g).cba.load = s.cba.load ∧
    (kAnswered s r g).cba.fetch = s.cba.fetch ∧ (kAnswered s r g).cba.loadQueue = s.cba.loadQueue := by
  simp [kAnswered]

/-! ## Reads of the START load -/

section
variable {s : State} {l : StartLoad} {g : Single} {x : Word}

theorem loadReadComplete_eq (grant : s.mp.grant = .single g) (work : g.work = .loadRead) (r : Resp) :
    s.loadReadComplete r = (requestless (kAnswered s r g)).loadAnswered r (s.mem.readWord g.addr.toNat) := by
  simp only [State.loadReadComplete, grant, work, if_true, kReadDone_eq]
  rfl

theorem loadAnswered_discards (h : s.cba.load = none ∨ s.cc.state = .resetting) (r : Resp) : s.loadAnswered r x = s := by
  unfold State.loadAnswered
  obtain none | resetting := h
  · rw [none]
  · cases s.cba.load with
    | none => rfl
    | some l => exact if_pos resetting

variable (load : s.cba.load = some l) (state : s.cc.state ≠ .resetting)
include load state

theorem loadAnswered_err : s.loadAnswered .err x = s.setLoad (some { l with ending := some false }) := by
  simp only [State.loadAnswered, load, state, if_false]

theorem loadAnswered_ok : s.loadAnswered .ok x = s.loadWord l x := by
  simp only [State.loadAnswered, load, state, if_false]

end

theorem loadWord_part {l : StartLoad} {x : Word} (part : (l.words ++ [x]).length ≠ 8) (s : State) :
    s.loadWord l x = s.setLoad (some { l with count := l.count + 1, words := l.words ++ [x] }) := if_neg part

theorem loadWord_whole {l : StartLoad} {x : Word} (whole : (l.words ++ [x]).length = 8) (s : State) :
    s.loadWord l x = s.loadRecord l (l.count + 1) (l.words ++ [x]) := if_pos whole

/-- A descriptor in full, and valid (R5, R6). -/
theorem fillSlot_valid {s : State} {w : Win} {ws : List Word} (valid : s.validate w (decodeDescriptor ws) = true)
    (store : Descriptor → Window → Window) :
    s.fillSlot w store ws = (s.setWin w (store (decodeDescriptor ws) (s.win w))).touch (.win w) := if_pos valid

theorem fillSlot_invalid {s : State} {w : Win} {ws : List Word} (invalid : s.validate w (decodeDescriptor ws) = false)
    (store : Descriptor → Window → Window) : s.fillSlot w store ws = s.event w .loadFail := if_neg (by simp [invalid])

theorem loadSlotOf_eq (i : Nat) (d : Descriptor) (x : Window) : loadSlotOf (loadSlot i).2 d x =
    if i < 16 then { x with
      slotA := some d
      held := if d.kind = .output then false else x.held
      fill := if d.kind = .output then 0 else x.fill
      safe := if d.kind = .input then false else x.safe }
    else { x with slotB := some d } := by
  unfold loadSlot loadSlotOf
  by_cases first : i < 16
  · cases kind : d.kind <;> simp [first, kind]
  · simp [first]

/-- What the completion of a load's read ends in (R128 to R131). -/
theorem loadRead_ends {s : State} {g : Single} {r : Resp} (rst : s.lines.rst = false) (grant : s.mp.grant = .single g)
    (work : g.work = .loadRead) {u v : State}
    (effect : (requestless (kAnswered s r g)).loadAnswered r (s.mem.readWord g.addr.toNat) = v) (ends : EndsIn v u) :
    ∃ t, exec (.loadReadComplete r) s = .next t ∧ (∀ q ∈ v.cba.dirty, q ∈ t.cba.dirty) ∧ EndsIn t u := by
  obtain ⟨t, next, end_⟩ := act_ends_of_eq (f := fun s => s.loadReadComplete r) rst
    ((loadReadComplete_eq grant work r).trans effect)
  exact ⟨t, next, fun q h => mem_dirty_of_endsIn end_ h, endsIn_trans end_ ends⟩

theorem loadRecord_config {s : State} {l : StartLoad} {n : Nat} {ws : List Word} {c : ConfigRecord} (config : n = 8)
    (decoded : decodeConfig ws = some c) :
    s.loadRecord l n ws = s.setLoad (some { l with count := n, words := [], config := some c }) := by
  simp only [State.loadRecord, if_pos config, decoded]

theorem loadRecord_refused {s : State} {l : StartLoad} {n : Nat} {ws : List Word} (config : n = 8)
    (refused : decodeConfig ws = none) :
    s.loadRecord l n ws = s.setLoad (some { l with count := n, words := [], ending := some false }) := by
  simp only [State.loadRecord, if_pos config, refused]

/-- The load after the record that ends with read `n` (R128, R131). -/
def afterRecord (l : StartLoad) (n : Nat) : StartLoad :=
  { l with count := n, words := [], ending := if n = 264 then some true else none }

theorem loadRecord_descriptor {s : State} {l : StartLoad} {n : Nat} {ws : List Word} (descriptor : n ≠ 8) :
    s.loadRecord l n ws = (s.setLoad (some (afterRecord l n))).fillSlot (Fin.ofNat 16 (n / 8 - 2))
      (loadSlotOf (loadSlot (n / 8 - 2)).2) ws := if_neg descriptor

/-! ## The end of the START load -/

theorem endsIn_of_eq {t u : State} (same : t = { u with cba := { u.cba with dirty := t.cba.dirty } })
    (kept : ∀ r ∈ u.cba.dirty, r ∈ t.cba.dirty) : EndsIn t u := by
  have request : t.cba.request = u.cba.request := by rw [same]
  refine ⟨?_, kept⟩
  rw [request]
  exact same

theorem loadSucceeds_eq (s : State) (c : ConfigRecord) : s.loadSucceeds c =
    { s with
      cc := { s.cc with
        state := .armed, lowSeen := !s.lines.cyc, freezeReq := false, interval := false, watchdog := false }
      mp := { s.mp with pointer := .c }
      cba := { s.cba with
        config := c, load := none, causes := s.cba.causes ||| Cause.mask .loadDone
        dirty := (s.loadSucceeds c).cba.dirty }
      windows := (s.loadSucceeds c).windows } := by
  unfold State.loadSucceeds
  rw [record_eq, foldl_modWin_eq]

theorem mem_dirty_loadSucceeds (s : State) (c : ConfigRecord) (r : RecName) :
    r ∈ (s.loadSucceeds c).cba.dirty ↔ r ∈ s.cba.dirty ∨ r = .global := by
  unfold State.loadSucceeds
  rw [mem_dirty_record, foldl_modWin_eq]

/-- Settles O58. -/
theorem startLoadRuns : Obligations.StartLoadRuns := by
  refine ⟨decodeConfig_fields, fun s g r rst grant work => ?_, fun s l rst state load => ?_⟩
  · intro done loads ends fills
    obtain ⟨lines, windows, state, load, -, -⟩ := kAnswered_keeps s r g
    have of {u v : State} (effect : (requestless done).loadAnswered r (s.mem.readWord g.addr.toNat) = v) (end_ : EndsIn v u) :
        ends u := by
      obtain ⟨t, next, -, end_⟩ := loadRead_ends rst grant work effect end_
      exact ⟨t, next, end_⟩
    refine ⟨fun discards => of (loadAnswered_discards ?_ r) (endsIn_requestless _), fun l loading open_ => ?_⟩
    · exact discards.imp load.trans state.trans
    · have loading' : (requestless done).cba.load = some l := load.trans loading
      have open' : (requestless done).cc.state ≠ .resetting := fun h => open_ (state.symm.trans h)
      have answered (ok : r = .ok) : (requestless done).loadAnswered r (s.mem.readWord g.addr.toNat) =
          (requestless done).loadWord l (s.mem.readWord g.addr.toNat) := ok ▸ loadAnswered_ok loading' open'
      intro ws n i w next
      have validates (d : Descriptor) : ((requestless done).setLoad (some next)).validate w d = s.validate w d :=
        validate_congr lines windows w d
      have loaded (l : StartLoad) : EndsIn ((requestless done).setLoad (some l)) (loads done l) :=
        endsIn_requestless (loads done l)
      refine ⟨fun err => of (err ▸ loadAnswered_err loading' open') (loaded _),
        fun ok part => of ((answered ok).trans (loadWord_part part _)) (loaded _),
        fun ok whole config => ⟨fun c decoded => ?_, fun refused => ?_⟩,
        fun ok whole descriptor => ⟨fun valid => ?_, fun invalid => ?_⟩⟩
      · exact of (((answered ok).trans (loadWord_whole whole _)).trans (loadRecord_config config decoded)) (loaded _)
      · exact of (((answered ok).trans (loadWord_whole whole _)).trans (loadRecord_refused config refused)) (loaded _)
      · have effect := ((answered ok).trans (loadWord_whole whole _)).trans ((loadRecord_descriptor descriptor).trans
          (fillSlot_valid ((validates _).trans valid) _))
        rw [loadSlotOf_eq] at effect
        obtain ⟨t, row, dirty, end_⟩ := loadRead_ends rst grant work effect (endsIn_touch ..)
        refine ⟨t, row, dirty _ ((mem_dirty_touch ..).2 (.inr rfl)), endsIn_trans end_ ?_⟩
        have window : ((requestless done).setLoad (some next)).win w = s.win w := win_congr windows w
        rw [window]
        exact endsIn_requestless ((loads done next).setWin w _)
      · have effect := ((answered ok).trans (loadWord_whole whole _)).trans ((loadRecord_descriptor descriptor).trans
          (fillSlot_invalid ((validates _).trans invalid) _))
        exact of (effect.trans (event_requestless (loads done next) w .loadFail)) (endsIn_requestless _)
  · have of {u : State} (effect : s.startLoadEnd = u) : ∃ t, exec .startLoadEnd s = .next t ∧ EndsIn t u :=
      act_ends_of_eq (f := State.startLoadEnd) rst effect
    refine ⟨fun c ending config => ?_, fun ending => ?_, fun ending => of ?_⟩
    · obtain ⟨t, next, ends⟩ := of (u := s.loadSucceeds c) (by
        simp only [State.startLoadEnd, state, load, ending, config, if_true])
      refine ⟨t, next, mem_dirty_of_endsIn ends ((mem_dirty_loadSucceeds ..).2 (.inr rfl)), fun w => ?_, endsIn_trans ends ?_⟩
      · rw [endsIn_win ends, win_loadSucceeds]
        generalize s.win w = x
        unfold Window.started Window.primed
        dsimp only
        cases x.slotA with
        | none => rfl
        | some d => cases kind : d.kind <;> simp [kind]
      · rw [endsIn_windows ends]
        exact endsIn_of_eq (loadSucceeds_eq s c) fun r h => (mem_dirty_loadSucceeds ..).2 (.inl h)
    · obtain ⟨t, next, ends⟩ := of (u := s.loadFails) (by simp only [State.startLoadEnd, state, load, ending, if_true])
      exact ⟨t, next, mem_dirty_of_endsIn ends ((mem_dirty_record ..).2 (.inr rfl)), endsIn_trans ends (endsIn_record ..)⟩
    · simp only [State.startLoadEnd, state, load, ending, if_true]

end Sys2Proof.Laws
end

section
/-! Descriptor fetches (chapter 9), and notices as they are offered and leave (section 8.3). -/

namespace Sys2Proof.Laws

open Sys2Proof Sys2Proof.Machine Sys2Proof.Safety

/-! ## The end of a fetch -/

theorem endFetch_last {s : State} (tail : s.cba.loadQueue.tail = []) : s.endFetch =
    ({ s with cba := { s.cba with fetch := none, loadQueue := [] } } : State).record .loadDone := by
  simp only [State.endFetch, tail, if_true]

/-- The next fetch of the Load Queue (R133). -/
def nextFetch (v : Win) (active : SlotName) : Fetch := { win := v, slot := if active = .a then .b else .a, words := [] }

theorem endFetch_next {s : State} {v : Win} {rest : List Win} (tail : s.cba.loadQueue.tail = v :: rest) : s.endFetch =
    ({ s with cba := { s.cba with loadQueue := v :: rest, fetch := some (nextFetch v (s.win v).active) } } : State).setWin v
      (if (s.win v).active = .a then { s.win v with slotB := none } else { s.win v with slotA := none }) := by
  have starts : s.endFetch = ({ s with cba := { s.cba with fetch := none, loadQueue := v :: rest } } : State).startFetch := by
    simp only [State.endFetch, tail, reduceCtorEq, if_false]
  rw [starts, startFetch_of_starts (w := v) rfl, other_eq]
  have set : (s.win v).setSlot (s.win v).active.other none =
      if (s.win v).active = .a then { s.win v with slotB := none } else { s.win v with slotA := none } := by
    cases (s.win v).active <;> rfl
  rw [← set]
  rfl

theorem endsIn_endFetch {t u : State} (h : EndsIn t u) : EndsIn t.endFetch u.endFetch := by
  obtain ⟨same, kept⟩ := h
  generalize t.cba.dirty = dirty at same kept
  generalize t.cba.request = request at same
  have queue : t.cba.loadQueue = u.cba.loadQueue := by rw [same]
  cases tail : u.cba.loadQueue.tail with
  | nil =>
    rw [endFetch_last tail, endFetch_last (queue ▸ tail), same]
    refine ⟨?_, fun r h => (mem_dirty_record ..).2 (((mem_dirty_record ..).1 h).imp_left (kept r))⟩
    unfold State.record
    rw [touch_marks, touch_marks]
  | cons v rest =>
    rw [endFetch_next tail, endFetch_next (queue ▸ tail), same]
    exact ⟨rfl, kept⟩

theorem dirties_endFetch {p : RecName → Prop} (s : State) (h : s.cba.loadQueue.tail = [] → p .global) :
    Dirties p s s.endFetch := by
  cases tail : s.cba.loadQueue.tail with
  | nil =>
    rw [endFetch_last tail]
    exact (dirties_record _ _ (h tail)).after rfl
  | cons v rest =>
    rw [endFetch_next tail]
    exact dirties_of_eq rfl

/-! ## Reads of a fetch -/

section
variable {s : State} {f : Fetch} {g : Single} {x : Word}

theorem fetchReadComplete_eq (grant : s.mp.grant = .single g) (work : g.work = .fetchRead) (r : Resp) :
    s.fetchReadComplete r = (requestless (kAnswered s r g)).fetchAnswered r (s.mem.readWord g.addr.toNat) := by
  simp only [State.fetchReadComplete, grant, work, if_true, kReadDone_eq]
  rfl

theorem fetchAnswered_discards (h : s.cba.fetch = none ∨ s.cc.state = .resetting) (r : Resp) : s.fetchAnswered r x = s := by
  unfold State.fetchAnswered
  obtain none | resetting := h
  · rw [none]
  · cases s.cba.fetch with
    | none => rfl
    | some f => exact if_pos resetting

variable (fetch : s.cba.fetch = some f) (state : s.cc.state ≠ .resetting)
include fetch state

theorem fetchAnswered_err : s.fetchAnswered .err x = (s.event f.win .loadFail).endFetch := by
  simp only [State.fetchAnswered, fetch, state, if_false]

theorem fetchAnswered_part (part : (f.words ++ [x]).length ≠ 8) :
    s.fetchAnswered .ok x = s.setFetch (some { f with words := f.words ++ [x] }) := by
  simp only [State.fetchAnswered, fetch, state, if_false, State.fetchWord, part]

theorem fetchAnswered_whole (whole : (f.words ++ [x]).length = 8) :
    s.fetchAnswered .ok x = (s.fillSlot f.win (putSlot f.slot) (f.words ++ [x])).endFetch := by
  simp only [State.fetchAnswered, fetch, state, if_false, State.fetchWord, whole, if_true]

end

theorem putSlot_eq (n : SlotName) (d : Descriptor) (x : Window) : putSlot n d x =
    if n = .a then { x with slotA := some d } else { x with slotB := some d } := by cases n <;> rfl

/-- Settles O59. -/
theorem fetchFillsTheSlot : Obligations.FetchFillsTheSlot := by
  refine ⟨decodeDescriptor_fields, fun s g r rst grant work => ?_⟩
  intro done ends fills fetchEnds
  obtain ⟨lines, windows, state, -, fetch, queue⟩ := kAnswered_keeps s r g
  have of {u v : State} (effect : (requestless done).fetchAnswered r (s.mem.readWord g.addr.toNat) = v) (end_ : EndsIn v u) :
      ∃ t, exec (.fetchReadComplete r) s = .next t ∧ EndsIn t v ∧ EndsIn t u := by
    obtain ⟨t, next, ends⟩ := act_ends_of_eq (f := fun s => s.fetchReadComplete r) rst
      ((fetchReadComplete_eq grant work r).trans effect)
    exact ⟨t, next, ends, endsIn_trans ends end_⟩
  have ends_of {u v : State} (effect : (requestless done).fetchAnswered r (s.mem.readWord g.addr.toNat) = v)
      (end_ : EndsIn v u) : ends u := by
    obtain ⟨t, next, -, end_⟩ := of effect end_
    exact ⟨t, next, end_⟩
  have fetched {u : State} (queue : u.cba.loadQueue = s.cba.loadQueue) (active : ∀ v, (u.win v).active = (s.win v).active) :
      u.endFetch = fetchEnds u := by
    cases tail : s.cba.loadQueue.tail with
    | nil => simp only [fetchEnds, tail, endFetch_last (queue ▸ tail)]
    | cons v rest => simp only [fetchEnds, tail, endFetch_next (queue ▸ tail), nextFetch, active]
  refine ⟨fun discards => ends_of (fetchAnswered_discards ?_ r) (endsIn_requestless _), fun f fetching open_ => ?_⟩
  · exact discards.imp fetch.trans state.trans
  · intro ws
    have fetching' : (requestless done).cba.fetch = some f := fetch.trans fetching
    have open' : (requestless done).cc.state ≠ .resetting := fun h => open_ (state.symm.trans h)
    have validates (d : Descriptor) : (requestless done).validate f.win d = s.validate f.win d :=
      validate_congr lines windows f.win d
    have activeDone (v : Win) : (done.win v).active = (s.win v).active := congrArg Window.active (win_congr windows v)
    have failed : EndsIn ((requestless done).event f.win .loadFail).endFetch (fetchEnds (done.event f.win .loadFail)) := by
      rw [event_requestless, ← fetched (u := done.event f.win .loadFail)]
      · exact endsIn_endFetch (endsIn_requestless _)
      · exact (congrArg (fun u : State => u.cba.loadQueue) (event_eq ..)).trans queue
      · intro v
        rw [win_event]
        split
        next own => rw [own]; exact activeDone _
        next => exact activeDone v
    refine ⟨fun err => ends_of (err ▸ fetchAnswered_err fetching' open') failed,
      fun ok part => ends_of (ok ▸ fetchAnswered_part fetching' open' part) ?_,
      fun ok whole => ⟨fun valid => ?_, fun invalid => ends_of ?_ failed⟩⟩
    · exact endsIn_requestless (done.setFetch (some { f with words := ws }))
    · have effect := (ok ▸ fetchAnswered_whole fetching' open' whole).trans (congrArg State.endFetch
        (fillSlot_valid ((validates _).trans valid) (putSlot f.slot)))
      have window : (requestless done).win f.win = s.win f.win := win_congr windows f.win
      rw [putSlot_eq, window] at effect
      let filled := done.setWin f.win (if f.slot = .a then { s.win f.win with slotA := some (decodeDescriptor ws) }
        else { s.win f.win with slotB := some (decodeDescriptor ws) })
      have active (v : Win) : (filled.win v).active = (s.win v).active := by
        rw [win_setWin]
        split
        next own => rw [own]; split <;> rfl
        next => exact activeDone v
      have touched : EndsIn ((requestless filled).touch (.win f.win)) filled :=
        endsIn_trans (endsIn_touch ..) (endsIn_requestless filled)
      obtain ⟨t, next, end_, ends_⟩ := of effect (endsIn_endFetch touched)
      refine ⟨t, next, mem_dirty_of_endsIn end_ ?_, ?_⟩
      · exact (dirties_endFetch (p := fun _ => True) _ fun _ => trivial).kept _ ((mem_dirty_touch ..).2 (.inr rfl))
      · rw [← fetched (u := filled) queue active]
        exact ends_
    · exact (ok ▸ fetchAnswered_whole fetching' open' whole).trans (congrArg State.endFetch
        (fillSlot_invalid ((validates _).trans invalid) (putSlot f.slot)))

/-! ## Notices -/

theorem noticeLeaves_eq (s : State) (n : Notice) : s.noticeLeaves n =
    { s.setWin n.win { s.win n.win with fence := false } with
      nu := { s.nu with queue := s.nu.queue.tail, offer := none, timer := false }
      cba := { s.cba with dirty := (s.noticeLeaves n).cba.dirty } } := by
  unfold State.noticeLeaves
  rw [touch_eq]
  rfl

theorem mem_dirty_noticeLeaves (s : State) (n : Notice) : RecName.win n.win ∈ (s.noticeLeaves n).cba.dirty :=
  (mem_dirty_touch ..).2 (.inr rfl)

theorem raiseOffer_offers {s : State} {n : Notice} {rest : List Notice} (queue : s.nu.queue = n :: rest)
    (none : s.nu.offer = none) (low : s.lines.accept = false) :
    s.raiseOffer = { s with nu := { s.nu with offer := some n, timer := s.cba.config.noticeTimeout != 0 } } := by
  simp only [State.raiseOffer, queue, none, low, Bool.false_eq_true, if_false]

theorem raiseOffer_of_not {s : State} (h : s.nu.queue = [] ∨ s.nu.offer ≠ none ∨ s.lines.accept = true) :
    s.raiseOffer = s := by
  unfold State.raiseOffer
  cases queue : s.nu.queue with
  | nil => rfl
  | cons n rest =>
    cases offer : s.nu.offer with
    | some m => rfl
    | none => exact if_pos (by simpa [queue, offer] using h)

/-- Settles O60. -/
theorem noticesAreOfferedAndLeave : Obligations.NoticesAreOfferedAndLeave := by
  refine ⟨fun s n rest rst queue none => ?_, fun s accept rst h => ?_, fun s n rst offer => ?_, fun s rst none => ⟨?_, ?_⟩⟩
  · exact act_ends_of_eq (f := State.raiseOffer) (s := s.setAccept false) rst
      (raiseOffer_offers (s := s.setAccept false) queue none rfl)
  · exact act_ends_of_eq (f := State.raiseOffer) (s := s.setAccept accept) rst
      (raiseOffer_of_not (s := s.setAccept accept) h)
  · intro high leaves
    refine ⟨?_, fun running => ?_⟩
    · have accepted : high.acceptNotice = retryStalled high (high.noticeLeaves n) := by
        simp only [State.acceptNotice, high, offer]
      obtain ⟨t, next, ends⟩ := act_ends_of_eq (f := State.acceptNotice) (s := high) rst accepted
      exact ⟨t, _, next, mem_dirty_noticeLeaves high n, noticeLeaves_eq high n, ends⟩
    · have expires : s.noticeExpires = retryStalled s ((s.noticeLeaves n).record .noticeTimeout) := by
        simp only [State.noticeExpires, offer, running, if_true]
      obtain ⟨t, next, ends⟩ := act_ends_of_eq (f := State.noticeExpires) rst expires
      refine ⟨t, _, next, (mem_dirty_record ..).2 (.inl (mem_dirty_noticeLeaves s n)), (mem_dirty_record ..).2 (.inr rfl),
        ?_, ends⟩
      rw [record_eq, noticeLeaves_eq]
  · exact act_ends_of_eq (f := State.acceptNotice) (s := s.setAccept true) rst
      (by simp only [State.acceptNotice, State.setAccept, none])
  · exact act_ends_of_eq (f := State.noticeExpires) rst (by simp only [State.noticeExpires, none])

end Sys2Proof.Laws
end

section
/-! Every step keeps the laws of the queues (R77, R107, R155) and the law of the P port (R110, R111, R142; log 39). -/

namespace Sys2Proof.Laws

open Sys2Proof Sys2Proof.Machine Sys2Proof.Safety

/-! ## What an event leaves of the P port -/

/-- The P port holds what it held, but for items that have left its plan, and no transaction is granted to it that was
not, unless it has an access (R111, R142). -/
structure PortSame (s t : State) : Prop where
  rst      : t.lines.rst = s.lines.rst
  memsz    : t.lines.memsz = s.lines.memsz
  cbsel    : t.lines.cbsel = s.lines.cbsel
  pwq      : t.pp.pwq = s.pp.pwq
  readSlot : t.pp.readSlot = s.pp.readSlot
  fenced   : t.pp.fenced = s.pp.fenced
  current  : t.pp.current = none ↔ s.pp.current = none
  items    : ∀ c, t.pp.current = some c → ∃ d, s.pp.current = some d ∧ ∀ i ∈ c.items, i ∈ d.items
  granted  : t.mp.grant.holder = some .p → s.mp.grant.holder = some .p ∨ s.pp.current ≠ none

theorem PortSame.trans {s t u : State} (h : PortSame s t) (k : PortSame t u) : PortSame s u where
  rst := k.rst.trans h.rst
  memsz := k.memsz.trans h.memsz
  cbsel := k.cbsel.trans h.cbsel
  pwq := k.pwq.trans h.pwq
  readSlot := k.readSlot.trans h.readSlot
  fenced := k.fenced.trans h.fenced
  current := k.current.trans h.current
  items c hc := by
    obtain ⟨d, hd, sub⟩ := k.items c hc
    obtain ⟨e, he, sub'⟩ := h.items d hd
    exact ⟨e, he, fun i hi => sub' i (sub i hi)⟩
  granted g := (k.granted g).elim h.granted fun busy => .inr fun none => busy (h.current.2 none)

/-- The port as it was, and its grant ended or as it was. -/
theorem portSame_of_pp {s t : State} (pp : t.pp = s.pp) (lines : t.lines.rst = s.lines.rst ∧
    t.lines.memsz = s.lines.memsz ∧ t.lines.cbsel = s.lines.cbsel)
    (holder : t.mp.grant.holder = some .p → s.mp.grant.holder = some .p ∨ s.pp.current ≠ none) : PortSame s t where
  rst := lines.1
  memsz := lines.2.1
  cbsel := lines.2.2
  pwq := by rw [pp]
  readSlot := by rw [pp]
  fenced := by rw [pp]
  current := by rw [pp]
  items c hc := ⟨c, pp ▸ hc, fun _ hi => hi⟩
  granted := holder

theorem portSame_of_grant {s t : State} (pp : t.pp = s.pp) (lines : t.lines.rst = s.lines.rst ∧
    t.lines.memsz = s.lines.memsz ∧ t.lines.cbsel = s.lines.cbsel) (grant : t.mp.grant = s.mp.grant) : PortSame s t :=
  portSame_of_pp pp lines fun h => .inl (grant ▸ h)

theorem portSame_refl (s : State) : PortSame s s := portSame_of_grant rfl ⟨rfl, rfl, rfl⟩ rfl

theorem portSame_popItem (s : State) : PortSame s s.popItem := by
  unfold State.popItem
  cases current : s.pp.current with
  | none => exact portSame_refl s
  | some c =>
    refine ⟨rfl, rfl, rfl, rfl, rfl, rfl, by simp [current], fun d hd => ⟨c, current, ?_⟩, .inl⟩
    obtain rfl := Option.some.inj hd
    exact fun i hi => List.mem_of_mem_tail hi

/-- Windows in use stay in use, and FENCE of each stays (R126). -/
structure ViewsStay (s t : State) : Prop where
  stay : ∀ w, (s.win w).state ≠ .idle → (t.win w).fence = (s.win w).fence ∧ (t.win w).state ≠ .idle

theorem viewsStay_refl (s : State) : ViewsStay s s := ⟨fun _ use => ⟨rfl, use⟩⟩

theorem ViewsStay.trans {s t u : State} (h : ViewsStay s t) (k : ViewsStay t u) : ViewsStay s u := ⟨fun w use => by
  obtain ⟨fence, use'⟩ := h.stay w use
  obtain ⟨fence', use''⟩ := k.stay w use'
  exact ⟨fence'.trans fence, use''⟩⟩

theorem viewsStay_of_state {s t : State} (h : ∀ w, (t.win w).fence = (s.win w).fence ∧ (t.win w).state = (s.win w).state) :
    ViewsStay s t := ⟨fun w use => ⟨(h w).1, (h w).2 ▸ use⟩⟩

/-- What an event may do to the P port. -/
inductive PortEvent (s : State) : State → Prop
  /-- nothing, and to the views in use neither -/
  | quiet {t} (same : PortSame s t) (views : Laws s → ViewsStay s t) : PortEvent s t
  /-- it retries a stalled access (R100) -/
  | retried {t} (same : PortSame s t) : PortEvent s (retryStalled s t)
  | issued : PortEvent s s.issueP
  | written (a be d) : PortEvent s (s.takeWrite a be d)
  | read (a be) : PortEvent s (s.takeRead a be)
  /-- the access that holds the grant ends (R111) -/
  | ended {t} (pwq : t.pp.pwq.length ≤ s.pp.pwq.length) (current : t.pp.current = none) (free : t.mp.grant = .free)
      (fenced : PortLaw s → t.pp.fenced = none) : PortEvent s t

/-! ## Transactions -/

/-- A transaction goes on to its write half, or ends. -/
def GrantPasses (s t : State) : Prop := t.mp.grant = .free ∨ t.mp.grant.holder = s.mp.grant.holder

theorem GrantPasses.holder {s t : State} (h : GrantPasses s t) (g : t.mp.grant.holder = some .p) :
    s.mp.grant.holder = some .p ∨ s.pp.current ≠ none := by
  obtain free | same := h
  · rw [free] at g
    exact nomatch g
  · exact .inl (same ▸ g)

theorem passes_fAccessComplete (s : State) (r : Resp) : GrantPasses s (s.fAccessComplete r) := by
  unfold State.fAccessComplete GrantPasses
  split
  · split
    · exact .inl (by simp)
    · exact .inr rfl
  · exact .inr rfl

theorem passes_loopPairComplete (s : State) (r : Resp) : GrantPasses s (s.loopPairComplete r) := by
  unfold State.loopPairComplete GrantPasses
  split
  · split
    · exact .inl (by simp [State.failPair])
    · exact .inr rfl
  · split
    · exact .inl (by simp [State.finishPair])
    · exact .inr rfl
  · split
    · exact .inl (by simp)
    · exact .inr rfl
  · exact .inr rfl

theorem passes_kReadDone (s : State) (r : Resp) (g : Single) : (s.kReadDone r g).mp.grant = .free := by
  simp [State.kReadDone]

theorem passes_loadReadComplete (s : State) (r : Resp) : GrantPasses s (s.loadReadComplete r) := by
  unfold State.loadReadComplete GrantPasses
  split
  · split
    · exact .inl (by simp [passes_kReadDone])
    · exact .inr rfl
  · exact .inr rfl

theorem passes_fetchReadComplete (s : State) (r : Resp) : GrantPasses s (s.fetchReadComplete r) := by
  unfold State.fetchReadComplete GrantPasses
  split
  · split
    · exact .inl (by simp [passes_kReadDone])
    · exact .inr rfl
  · exact .inr rfl

theorem passes_writebackWordComplete (s : State) (r : Resp) : GrantPasses s (s.writebackWordComplete r) := by
  unfold State.writebackWordComplete GrantPasses
  split
  · split
    · exact .inl (by simp)
    · exact .inr rfl
  · exact .inr rfl

theorem passes_readHalf (s : State) : GrantPasses s s.readHalf := by
  unfold State.readHalf GrantPasses
  split
  next p grant => exact .inr (by rw [grant]; rfl)
  next => exact .inr rfl

/-! ## Grants -/

theorem portSame_grantTo {s : State} {q : Requester} {g : Grant} (h : g.holder = some .p → s.pp.current ≠ none) :
    PortSame s (s.grantTo q g) := portSame_of_pp rfl ⟨rfl, rfl, rfl⟩ fun k => .inr (h k)

theorem portSame_grantF (s : State) : PortSame s s.grantF := by
  unfold State.grantF
  split
  · exact portSame_refl s
  · exact portSame_grantTo nofun

theorem portSame_grantK (s : State) : PortSame s s.grantK := by
  unfold State.grantK
  split
  · exact portSame_refl s
  · split
    · exact portSame_refl s
    · exact portSame_grantTo nofun
  · split
    · exact portSame_refl s
    · exact portSame_grantTo nofun
  · split
    · exact portSame_refl s
    · exact portSame_grantTo nofun

theorem portSame_clearPublished (s : State) (r : RecName) : PortSame s (s.clearPublished r) :=
  portSame_of_grant (by simp) (by simp) (by simp)

theorem portSame_grantItem {s : State} (busy : s.pp.current ≠ none) (answer : Resp) (i : PItem) :
    PortSame s (s.grantItem answer i) := by
  have granted (q : Requester) (g : Grant) : PortSame s (s.grantTo q g) := portSame_grantTo fun _ => busy
  unfold State.grantItem
  split
  · split
    · exact portSame_popItem s
    · exact granted ..
  · exact granted ..
  · unfold State.readClearAt
    split
    · exact granted ..
    · cases answer with
      | ok => exact (granted ..).trans (portSame_clearPublished ..)
      | err => exact granted ..

theorem portSame_grantP (s : State) (answer : Resp) : PortSame s (s.grantP answer) := by
  unfold State.grantP
  split
  · exact portSame_refl s
  next current =>
    split
    · exact portSame_refl s
    · exact portSame_grantItem (by rw [current]; nofun) ..

theorem portSame_endJob (s : State) (w : Win) : PortSame s (s.endJob w) :=
  portSame_of_grant (by simp) (by simp) (by simp)

theorem portSame_withdrawC (s : State) : PortSame s s.withdrawC := portSame_of_grant rfl ⟨rfl, rfl, rfl⟩ rfl

theorem portSame_grantC (s : State) : PortSame s s.grantC := by
  have granted (g : Grant) (h : g.holder = some .c) : PortSame s (s.withdrawC.grantTo .c g) :=
    (portSame_withdrawC s).trans (portSame_grantTo fun k => nomatch h.symm.trans k)
  unfold State.grantC
  split
  · exact portSame_withdrawC s
  · split
    · unfold State.grantCarry
      split
      · exact granted _ rfl
      · exact portSame_endJob ..
    · unfold State.grantLoop
      split
      · exact portSame_endJob ..
      · split
        · exact portSame_endJob ..
        · split
          · exact portSame_of_grant (by simp) (by simp) (by simp)
          · split
            · exact portSame_endJob ..
            · split
              · exact granted _ rfl
              · exact granted _ rfl

theorem portSame_arbitrate (s : State) (answer : Resp) : PortSame s (s.arbitrate answer) := by
  unfold State.arbitrate
  split
  · exact portSame_refl s
  · exact portSame_grantF s
  · exact portSame_grantP s answer
  · exact portSame_grantK s
  · exact portSame_grantC s

/-! ## Views in use -/

theorem viewsStay_modWin {s : State} {w : Win} {f : Window → Window} (fence : (f (s.win w)).fence = (s.win w).fence)
    (use : (s.win w).state ≠ .idle → (f (s.win w)).state ≠ .idle) : ViewsStay s (s.modWin w f) := ⟨fun v busy => by
  rw [win_modWin]
  split
  next own => subst own; exact ⟨fence, use busy⟩
  next => exact ⟨rfl, busy⟩⟩

theorem viewsStay_counted (s : State) (w : Win) : ViewsStay s (s.modWin w Window.counted) := by
  refine viewsStay_modWin (by simp) fun busy => ?_
  unfold Window.counted
  split
  · nofun
  · exact busy

theorem viewsStay_of_win {s t : State} (h : ∀ w, t.win w = s.win w) : ViewsStay s t :=
  viewsStay_of_state fun w => by rw [h w]; exact ⟨rfl, rfl⟩

theorem viewsStay_drops {s : State} (w : Win) (e : WEvent) : ViewsStay s (s.dropEvent w e) :=
  viewsStay_of_state fun v => by simp [-win_dropEvent]

theorem viewsStay_fInput (s : State) (w : Win) (d : Descriptor) (a : Access) : ViewsStay s (s.fInput w d a) := by
  have answered : ViewsStay s (s.answerF .writeOk) := viewsStay_of_win fun _ => rfl
  have written (u : State) (b : Bool) (g : Addr) : ViewsStay u (u.writeF w b a g) := viewsStay_of_win fun _ => by simp
  unfold State.fInput
  dsimp only
  split
  · exact viewsStay_of_win fun _ => rfl
  · split
    · exact answered.trans (viewsStay_drops ..)
    · split
      · exact written ..
      · split
        · exact ((viewsStay_counted s w).trans (viewsStay_of_win fun _ => win_touch ..)).trans (written ..)
        · exact answered.trans (viewsStay_drops ..)
        · exact answered.trans (viewsStay_drops ..)
        · exact answered.trans (viewsStay_of_state fun v => by simp [-win_drop])

theorem viewsStay_fOutput (s : State) (w : Win) (d : Descriptor) (a : Access) : ViewsStay s (s.fOutput w d a) :=
  viewsStay_of_state fun v => by simp

theorem viewsStay_issueF (s : State) (a : Access) : ViewsStay s (s.issueF a) := by
  have flies (w : Option Win) (b : Bool) (g : Addr) : ViewsStay s (s.flyF w b a g) := viewsStay_of_win fun _ => rfl
  unfold State.issueF
  split
  · exact viewsStay_of_win fun _ => by simp; rfl
  · unfold State.fWindow
    split
    · exact viewsStay_refl s
    · split
      · exact viewsStay_fInput ..
      · exact viewsStay_fOutput ..
  · split
    · exact (viewsStay_of_win (s := s) (t := s.answerF .writeOk) fun _ => rfl).trans (viewsStay_drops ..)
    · exact flies ..
  · exact flies ..

theorem viewsStay_reachF (s : State) (a : Access) : ViewsStay s (s.reachF a) := by
  unfold State.reachF
  split
  · exact viewsStay_of_win fun _ => rfl
  · exact (viewsStay_of_win (s := s) (t := { s with fp := { s.fp with held := none } }) fun _ => rfl).trans (viewsStay_issueF ..)

theorem viewsStay_retryF (s t : State) : ViewsStay t (retryF s t) := by
  unfold retryF
  split
  · split
    · exact viewsStay_reachF ..
    · exact viewsStay_refl t
  · exact viewsStay_refl t

theorem viewsStay_of_same {s t : State} (h : Same s t) : ViewsStay s t := viewsStay_of_state fun w => by
  obtain ⟨-, -, -, state, -, -, -, fence, -, -, -, -⟩ := (lawItems_eq_iff ..).1 (h.win w)
  exact ⟨fence, state⟩

theorem viewsStay_jobNext (s : State) : ViewsStay s s.jobNext := viewsStay_of_state fun v => by simp

theorem viewsStay_loopDone (s : State) (w : Win) : ViewsStay s (s.loopDone w) := by
  unfold State.loopDone
  split
  · split
    · have advanced : ViewsStay s ((s.modWin w Window.counted).touch (.win w)).loopAdvance :=
        (viewsStay_counted s w).trans (viewsStay_of_win fun _ => by simp)
      exact advanced.trans (viewsStay_jobNext _)
    · exact viewsStay_jobNext s
  · exact viewsStay_refl s

theorem viewsStay_loopFailed (s : State) (w : Win) : ViewsStay s (s.loopFailed w) := by
  have ended (u : State) : ViewsStay u (u.endJob w) := viewsStay_of_state fun v => by simp [-win_endJob]
  have faulted : ViewsStay s (s.modWin w fun x => { x with state := .fault }) := viewsStay_modWin rfl fun _ => nofun
  unfold State.loopFailed
  split
  · split
    · exact (faulted.trans (viewsStay_of_win fun _ => win_touch ..)).trans (ended _)
    · exact ended s
  · exact viewsStay_refl s

theorem viewsStay_loopPairComplete (s : State) (r : Resp) : ViewsStay s (s.loopPairComplete r) := by
  have left (u : State) : ViewsStay u (u.leaveDrain .pair) := viewsStay_of_win fun _ => rfl
  unfold State.loopPairComplete
  split
  · split
    · exact ((viewsStay_of_same (same_failPair ..)).trans (viewsStay_loopFailed ..)).trans (left _)
    · exact viewsStay_refl s
  · split
    · exact ((viewsStay_of_same (same_finishPair ..)).trans (viewsStay_loopDone ..)).trans (left _)
    · exact viewsStay_refl s
  · split
    · exact ((viewsStay_of_same (same_loopFillAnswered ..)).trans (viewsStay_loopDone ..)).trans (left _)
    · exact viewsStay_refl s
  · exact viewsStay_refl s

/-- In LOADING no window is in use (R35, R132). -/
theorem viewsStay_of_loading {s : State} (laws : Laws s) (loading : s.cc.state = .loading) (t : State) : ViewsStay s t :=
  ⟨fun w use => absurd (laws.still.idle (.inr (.inl loading)) w) use⟩

theorem viewsStay_startLoadEnd {s : State} (laws : Laws s) : ViewsStay s s.startLoadEnd := by
  by_cases loading : s.cc.state = .loading
  · exact viewsStay_of_loading laws loading _
  · have idle : s.startLoadEnd = s := if_neg loading
    rw [idle]
    exact viewsStay_refl s

/-! ## Every event -/

theorem portSame_startLoadEnd (s : State) : PortSame s s.startLoadEnd :=
  portSame_of_grant (by simp) (by simp) (by simp)

theorem portEvent_of_same {s t : State} (same : Same s t) (port : PortSame s t) : PortEvent s t :=
  .quiet port fun _ => viewsStay_of_same same

theorem portEvent_refl (s : State) : PortEvent s s := .quiet (portSame_refl s) fun _ => viewsStay_refl s

theorem portEvent_reachF (s : State) (a : Access) : PortEvent s (s.reachF a) :=
  .quiet (portSame_of_grant (by simp) (by simp) (by simp)) fun _ => viewsStay_reachF s a

theorem portEvent_issue (s : State) (q : IssueAt) : PortEvent s (s.issue q) := by
  unfold State.issue
  split
  · exact .issued
  · split
    · exact portEvent_reachF ..
    · exact portEvent_refl s
  · split
    · exact portEvent_reachF ..
    · exact portEvent_refl s

theorem portEvent_commandRow (s : State) (c : Spelling) : PortEvent s (s.commandRow c) := by
  unfold State.commandRow
  split
  · exact .issued
  · exact portEvent_refl s

theorem portEvent_arbitrate (s : State) (answer : Resp) : PortEvent s (s.arbitrate answer) :=
  .quiet (portSame_arbitrate ..) fun _ => viewsStay_of_state fun v => by simp

theorem portEvent_readClear (s : State) (answer : Resp) : PortEvent s (s.readClear answer) := by
  unfold State.readClear
  split
  · exact portEvent_arbitrate ..
  · exact portEvent_refl s

/-- An access that holds the grant is the current one, and none is stalled at a FENCE then (R110, R111). -/
theorem fenced_of_granted {s : State} (port : PortLaw s) (granted : s.mp.grant.holder = some .p) : s.pp.fenced = none :=
  Option.eq_none_iff_forall_ne_some.2 fun w fenced => by
    obtain ⟨-, idle, -⟩ := port.fenced w fenced
    exact port.granted granted idle

theorem endP_fenced (s : State) : s.endP.pp.fenced = s.pp.fenced := by rw [endP_eq]

theorem completeP_fenced (s : State) (r : Resp) (g : Single) : (s.completeP r g).pp.fenced = s.pp.fenced := by
  rw [completeP_eq]

theorem portEvent_pAccessComplete (s : State) (r : Resp) : PortEvent s (s.pAccessComplete r) := by
  unfold State.pAccessComplete
  split
  next g grant =>
    split
    next complete =>
      obtain ⟨work, -⟩ := complete
      refine .ended (by simp) (by simp) (by simp) fun port => ?_
      have fenced := fenced_of_granted port (by rw [grant, Grant.holder, work]; rfl)
      simpa [endP_fenced, completeP_fenced] using fenced
    next => exact portEvent_refl s
  next => exact portEvent_refl s

theorem portEvent_mergePairComplete (s : State) (r : Resp) : PortEvent s (s.mergePairComplete r) := by
  unfold State.mergePairComplete
  split
  next p grant =>
    split
    next work =>
      refine .ended (by simp) (by simp) (by simp [State.failPair]) fun port => ?_
      have fenced := fenced_of_granted port (by rw [grant, Grant.holder, work]; rfl)
      simpa [endP_fenced, State.failPair] using fenced
    next => exact portEvent_refl s
  next p x grant =>
    split
    next work =>
      refine .ended (by simp) (by simp) (by simp [State.finishPair]) fun port => ?_
      have fenced := fenced_of_granted port (by rw [grant, Grant.holder, work]; rfl)
      simpa [endP_fenced, State.finishPair] using fenced
    next => exact portEvent_refl s
  next => exact portEvent_refl s

theorem portSame_of_passes {s t : State} (pp : t.pp = s.pp) (lines : t.lines.rst = s.lines.rst ∧
    t.lines.memsz = s.lines.memsz ∧ t.lines.cbsel = s.lines.cbsel) (passes : GrantPasses s t) : PortSame s t :=
  portSame_of_pp pp lines passes.holder

theorem portSame_failPair (s : State) (q : ErrSource) (p : Pair) : PortSame s (s.failPair q p) :=
  portSame_of_passes (by simp) (by simp) (.inl (by simp [State.failPair]))

theorem portSame_finishPair (s : State) (r : Resp) (q : ErrSource) (p : Pair) (x : Word) :
    PortSame s (s.finishPair r q p x) := portSame_of_passes (by simp) (by simp) (.inl (by simp [State.finishPair]))

theorem portSame_faultOutput (s : State) (w : Win) : PortSame s (s.faultOutput w) :=
  portSame_of_grant (by simp) (by simp) (by simp)

theorem portSame_record (s : State) (c : Cause) : PortSame s (s.record c) :=
  portSame_of_grant (by simp) (by simp) (by simp)

theorem portSame_clearMark (s : State) (w : Win) (k : Nat) : PortSame s (s.clearMark w k) :=
  portSame_of_grant (by simp) (by simp) (by simp)

theorem portSame_carryFailed (s : State) (w : Win) : PortSame s (s.carryFailed w) :=
  portSame_of_grant (by simp) (by simp) (by simp)

theorem portSame_carryDone (s : State) (w : Win) (k : Nat) : PortSame s (s.carryDone w k) :=
  portSame_of_grant (by simp) (by simp) (by simp)

theorem portEvent_demandCopyComplete (s : State) (r : Resp) : PortEvent s (s.demandCopyComplete r) := by
  unfold State.demandCopyComplete
  split
  · split
    · exact .retried (((portSame_failPair ..).trans (portSame_faultOutput ..)).trans (portSame_popItem _))
    · exact portEvent_refl s
  · split
    · refine .quiet (((portSame_finishPair ..).trans (portSame_clearMark ..)).trans (portSame_popItem _))
        fun _ => viewsStay_of_state fun v => ?_
      rw [win_popItem, win_clearMark, win_finishPair, win_finishPair]
      split
      next own => rw [own]; exact ⟨rfl, rfl⟩
      next => exact ⟨rfl, rfl⟩
    · exact portEvent_refl s
  · exact portEvent_refl s

theorem portEvent_carryPairComplete (s : State) (r : Resp) : PortEvent s (s.carryPairComplete r) := by
  have left (u : State) : PortSame u (u.leaveDrain .pair) := portSame_of_grant rfl ⟨rfl, rfl, rfl⟩ rfl
  unfold State.carryPairComplete
  split
  · split
    · exact .retried (((portSame_failPair ..).trans (portSame_carryFailed ..)).trans (left _))
    · exact portEvent_refl s
  · split
    · exact .quiet (((portSame_finishPair ..).trans (portSame_carryDone ..)).trans (left _))
        fun _ => viewsStay_of_state fun v => by simp
    · exact portEvent_refl s
  · exact portEvent_refl s

theorem portEvent_swapPerform (s : State) (w : Win) : PortEvent s (s.swapPerform w) := by
  unfold State.swapPerform
  split
  · exact .retried (portSame_of_grant (by simp) (by simp) (by simp))
  · exact portEvent_refl s

theorem portSame_noticeLeaves (s : State) (n : Notice) : PortSame s (s.noticeLeaves n) :=
  portSame_of_grant (by simp) (by simp) (by simp)

theorem portEvent_acceptNotice (s : State) : PortEvent s s.acceptNotice := by
  unfold State.acceptNotice
  split
  · exact portEvent_refl s
  · exact .retried (portSame_noticeLeaves ..)

theorem portEvent_noticeExpires (s : State) : PortEvent s s.noticeExpires := by
  unfold State.noticeExpires
  split
  · exact portEvent_refl s
  · split
    · exact .retried ((portSame_noticeLeaves ..).trans (portSame_record ..))
    · exact portEvent_refl s

theorem portEvent_endPass (s : State) : PortEvent s s.endPass := by
  unfold State.endPass
  split
  · exact .retried (portSame_of_grant (by simp) (by simp) (by simp))
  · exact portEvent_refl s

theorem portEvent_takeResetValues (s : State) : PortEvent s s.takeResetValues := by
  unfold State.takeResetValues
  split
  · exact .ended (Nat.le_refl _) rfl rfl fun _ => rfl
  · exact portEvent_refl s

theorem portEvent_pinReset (s : State) : PortEvent s s.pinReset := .ended (Nat.zero_le _) rfl rfl fun _ => rfl

/-- What a command does to the P port, but for the release of RST. -/
theorem portEvent_effect {c : Instr} (s : State) (h : ∀ m k f, c ≠ .rstRelease m k f) : PortEvent s (effect c s) := by
  cases c with
  | rstRelease m k f => exact absurd rfl (h m k f)
  | cycRise => exact .retried (portSame_of_grant (by simp) (by simp) (by simp))
  | cycFall | frzChange =>
    exact portEvent_of_same (by constructor <;> simp [effect])
      (portSame_of_grant (by simp [effect]) (by simp [effect]) (by simp [effect]))
  | intervalTimerExpiry =>
    exact .quiet (portSame_of_grant (by simp [effect]) (by simp [effect]) (by simp [effect]))
      fun _ => viewsStay_of_win fun _ => rfl
  | watchdogExpiry =>
    exact .quiet (portSame_of_grant (by simp [effect]) (by simp [effect]) (by simp [effect]))
      fun _ => viewsStay_of_state fun v => by simp [effect]
  | pinReset => exact portEvent_pinReset s
  | pWriteTake a be d => exact .written ..
  | pReadTake a be => exact .read ..
  | accessIssue q => exact portEvent_issue ..
  | start | stop | reset | clearerr | load | switch | cancel | hold | release | commit | rearm | unknownCommand =>
    exact portEvent_commandRow ..
  | readClear answer => exact portEvent_readClear ..
  | mpGrant answer => exact portEvent_arbitrate ..
  | pAccessComplete r => exact portEvent_pAccessComplete ..
  | fAccessComplete r =>
    exact .quiet (portSame_of_passes (by simp [effect]) (by simp [effect]) (passes_fAccessComplete s r))
      fun _ => viewsStay_of_state fun v => by simp [effect]
  | mergePairComplete r => exact portEvent_mergePairComplete ..
  | demandCopyComplete r => exact portEvent_demandCopyComplete ..
  | copyJobStart =>
    exact .quiet (portSame_of_grant (by simp [effect]) (by simp [effect]) (by simp [effect]))
      fun _ => viewsStay_of_state fun v => by simp [effect]
  | carryPairComplete r => exact portEvent_carryPairComplete ..
  | loopPairComplete r =>
    exact .quiet (portSame_of_passes (by simp [effect]) (by simp [effect]) (passes_loopPairComplete s r))
      fun _ => viewsStay_loopPairComplete s r
  | swapPerform w => exact portEvent_swapPerform ..
  | loadReadComplete r =>
    exact .quiet (portSame_of_passes (by simp [effect]) (by simp [effect]) (passes_loadReadComplete s r))
      fun _ => viewsStay_of_state fun v => by simp [effect]
  | startLoadEnd => exact .quiet (portSame_startLoadEnd s) viewsStay_startLoadEnd
  | fetchReadComplete r =>
    exact .quiet (portSame_of_passes (by simp [effect]) (by simp [effect]) (passes_fetchReadComplete s r))
      fun _ => viewsStay_of_state fun v => by simp [effect]
  | writebackRecord =>
    exact .quiet (portSame_of_grant (by simp [effect]) (by simp [effect]) (by simp [effect]))
      fun _ => viewsStay_of_win fun v => by simp [effect]
  | writebackWordComplete r =>
    exact .quiet (portSame_of_passes (by simp [effect]) (by simp [effect]) (passes_writebackWordComplete s r))
      fun _ => viewsStay_of_state fun v => by simp [effect]
  | noticeOffer accept =>
    exact .quiet (portSame_of_grant (by simp [effect]) (by simp [effect]) (by simp [effect]))
      fun _ => viewsStay_of_win fun v => by simp [effect]
  | noticeAccept => exact portEvent_acceptNotice s
  | noticeTimeout => exact portEvent_noticeExpires s
  | drainEnd =>
    exact .quiet (portSame_of_grant (by simp [effect]) (by simp [effect]) (by simp [effect]))
      fun _ => viewsStay_of_win fun v => by simp [effect]
  | resetValues => exact portEvent_takeResetValues s
  | resetPassEnd => exact portEvent_endPass s
  | readHalfResponse =>
    exact .quiet (portSame_of_passes (by simp [effect]) (by simp [effect]) (passes_readHalf s))
      fun _ => viewsStay_of_win fun v => by simp [effect]

end Sys2Proof.Laws
end

section
/-! Every step keeps the laws of the queues and of the P port (R77, R100, R107, R110, R111, R155; log 39). -/

namespace Sys2Proof.Laws

open Sys2Proof Sys2Proof.Machine Sys2Proof.Safety

/-! ## What an issue makes of the P port -/

/-- An item that clears flags is a read (R95). -/
inductive ClearsByRead : PItem → Prop
  | plain (dir a be d) : ClearsByRead (.plain dir a be d none)
  | read (a be d clears) : ClearsByRead (.plain .read a be d clears)
  | merge (w op be d a) : ClearsByRead (.merge w op be d a)
  | demand (w k src dst) : ClearsByRead (.demand w k src dst)

/-- The P port after an issue: no stall outlives its address, and of its plan only reads clear flags. -/
structure Issued (s : State) : Prop where
  fenced  : s.pp.fenced = none
  current : ∀ c, s.pp.current = some c → ∀ i ∈ c.items, ClearsByRead i

theorem issued_of_pp {s t : State} (h : Issued s) (pp : t.pp = s.pp) : Issued t :=
  ⟨by rw [pp]; exact h.fenced, by rw [pp]; exact h.current⟩

theorem issued_issueAs {s : State} {l : List PItem} (h : s.pp.fenced = none) (w : Option Win) (b : Bool)
    (reads : ∀ i ∈ l, ClearsByRead i) : Issued (s.issueAs w b l) :=
  ⟨h, fun c hc => by obtain rfl := Option.some.inj hc; exact reads⟩

theorem clearsByRead_copyFirst (x : Window) (w : Win) (d : Descriptor) (k : Nat) {i : PItem} (h : ClearsByRead i) :
    ∀ j ∈ x.copyFirst w d k ++ [i], ClearsByRead j := by
  intro j mem
  rw [List.mem_append, List.mem_singleton] at mem
  obtain copy | rfl := mem
  · unfold Window.copyFirst at copy
    split at copy
    · obtain rfl := List.mem_singleton.1 copy
      exact .demand ..
    · exact nomatch copy
  · exact h

theorem clearsByRead_single {i : PItem} (h : ClearsByRead i) : ∀ j ∈ [i], ClearsByRead j := fun j mem => by
  obtain rfl := List.mem_singleton.1 mem
  exact h

section
variable {s : State} (h : Issued s)
include h

theorem issued_pWriteWindow (w : Win) (x : PWrite) : Issued (s.pWriteWindow w x) := by
  have dropped (e : WEvent) : Issued (s.dropEvent w e) := issued_of_pp h (by simp)
  unfold State.pWriteWindow
  split
  · exact h
  · split
    · unfold State.pWriteInput
      dsimp only
      split
      · split
        · exact h
        · exact issued_issueAs h.fenced _ _ (clearsByRead_single (.plain ..))
      · exact dropped _
    · unfold State.pWriteOutput
      dsimp only
      split
      · exact dropped _
      · split
        · split
          · exact h
          · exact issued_issueAs h.fenced _ _ (clearsByRead_copyFirst _ _ _ _ (.plain ..))
        · split
          · exact h
          · exact issued_issueAs h.fenced _ _ (clearsByRead_copyFirst _ _ _ _ (.merge ..))

theorem issued_answerP (a : Answer) : Issued (s.answerP a) := ⟨h.fenced, h.current⟩

theorem issued_pReadWindow (w : Win) (r : PRead) : Issued (s.pReadWindow w r) := by
  unfold State.pReadWindow
  split
  · exact h
  · split
    · split
      · exact issued_answerP h _
      · exact issued_issueAs h.fenced _ _ (clearsByRead_single (.read ..))
    · exact issued_issueAs h.fenced _ _ (clearsByRead_copyFirst _ _ _ _ (.read ..))

theorem issued_issueWrite (x : PWrite) (rest : List PWrite) : Issued (s.issueWrite x rest) := by
  have popped : Issued { s with pp := { s.pp with pwq := rest } } := ⟨h.fenced, h.current⟩
  have plain : Issued (({ s with pp := { s.pp with pwq := rest } } : State).issueAs none false [plainWrite x]) :=
    issued_issueAs popped.fenced _ _ (clearsByRead_single (.plain ..))
  unfold State.issueWrite
  dsimp only
  split
  · exact issued_of_pp popped (by simp)
  · exact issued_of_pp plain (by simp)
  · exact plain
  · exact issued_of_pp popped (by simp)
  · split
    · exact h
    · exact issued_pWriteWindow popped ..
  · exact issued_of_pp popped (by simp)
  · exact plain

theorem issued_issueRead (r : PRead) : Issued (s.issueRead r) := by
  have plain (clears : Option RecName) : Issued (s.issueAs none false [plainRead r.addr r.be clears]) :=
    issued_issueAs h.fenced _ _ (clearsByRead_single (.read ..))
  unfold State.issueRead
  split
  · exact issued_of_pp (issued_answerP h .readError) (by simp)
  · exact h
  · exact plain _
  · exact h
  · split
    · exact h
    · exact issued_pReadWindow h ..
  · exact plain _
  · exact plain _

theorem issued_issueP : Issued s.issueP := by
  unfold State.issueP
  split
  · exact h
  · split
    · exact issued_issueWrite h ..
    · exact issued_issueRead h ..
    · exact h

end

/-! ## The law of the P port -/

theorem inUse_ne_none {x : Window} : x.inUse ≠ none ↔ x.state ≠ .idle ∧ x.desc ≠ none := by
  rw [Option.ne_none_iff_exists']
  constructor
  · rintro ⟨d, use⟩
    obtain ⟨busy, desc⟩ := inUse_eq_some.1 use
    exact ⟨busy, by rw [desc]; nofun⟩
  · rintro ⟨busy, desc⟩
    obtain ⟨d, desc⟩ := Option.ne_none_iff_exists'.1 desc
    exact ⟨d, inUse_eq_some.2 ⟨busy, desc⟩⟩

theorem headAddr_congr {s t : State} (pwq : t.pp.pwq = s.pp.pwq) (readSlot : t.pp.readSlot = s.pp.readSlot) :
    headAddr t = headAddr s := by
  unfold headAddr
  rw [pwq, readSlot]

theorem memSize_congr {s t : State} (memsz : t.lines.memsz = s.lines.memsz) : t.memSize = s.memSize := by
  unfold State.memSize
  rw [memsz]

theorem inCB_congr {s t : State} (cbsel : t.lines.cbsel = s.lines.cbsel) (a : Addr) : t.inCB a = s.inCB a := by
  unfold State.inCB State.cbBase
  rw [cbsel]

section
variable {s t : State} (h : PortLaw s) (same : PortSame s t)
include h same

/-- Where no stall outlives its address but those that stood, the law holds if their FENCEs do. -/
theorem portLaw_of_fences (stands : ∀ w, s.pp.fenced = some w → (t.win w).fence = true ∧ (t.win w).inUse ≠ none) :
    PortLaw t where
  clears c dir a be d r current mem := by
    obtain ⟨c', current', sub⟩ := same.items c current
    exact h.clears c' dir a be d r current' (sub _ mem)
  granted g := by
    rw [ne_eq, same.current]
    obtain before | busy := same.granted g
    · exact h.granted before
    · exact busy
  fenced w fenced := by
    rw [same.fenced] at fenced
    obtain ⟨rst, idle, -, -, a, head, inMemory, outside⟩ := h.fenced w fenced
    obtain ⟨fence, use⟩ := stands w fenced
    refine ⟨same.rst.trans rst, same.current.2 idle, fence, use, a, ?_, ?_, ?_⟩
    · rw [headAddr_congr same.pwq same.readSlot, head]
    · rw [memSize_congr same.memsz]
      exact inMemory
    · rw [inCB_congr same.cbsel, outside]

theorem portLaw_of_views (views : ViewsStay s t) (windows : WindowsLaw t) : PortLaw t := by
  refine portLaw_of_fences h same fun w fenced => ?_
  obtain ⟨-, -, fence, use, -⟩ := h.fenced w fenced
  obtain ⟨kept, busy⟩ := views.stay w (inUse_ne_none.1 use).1
  obtain ⟨d, desc, -⟩ := (windows w).inUse busy
  exact ⟨kept.trans fence, inUse_ne_none.2 ⟨busy, by rw [desc]; nofun⟩⟩

/-- A stall that has outlived its address ends with its FENCE (R100). -/
theorem portLaw_endFenced : PortLaw (endFenced s t) := by
  unfold endFenced
  split
  next ends =>
    refine portLaw_of_fences (s := { s with pp := { s.pp with fenced := none } }) ⟨h.clears, h.granted, nofun⟩
      ⟨same.rst, same.memsz, same.cbsel, same.pwq, same.readSlot, rfl, same.current, same.items, same.granted⟩ nofun
  next stays =>
    refine portLaw_of_fences h same fun w fenced => ?_
    have before := portLaw_fenceStands h fenced
    rw [before, Bool.true_and, Bool.not_eq_true', Bool.not_eq_false] at stays
    simp only [State.fenceStands, same.fenced, fenced, Option.any_some, State.fenceHolds, Bool.and_eq_true] at stays
    exact ⟨stays.1, Option.isSome_iff_ne_none.1 stays.2⟩

end

theorem portSame_endFenced_items {s t : State} (same : PortSame s t) :
    (endFenced s t).pp.pwq = s.pp.pwq ∧ (endFenced s t).pp.readSlot = s.pp.readSlot ∧
      ((endFenced s t).pp.current = none ↔ s.pp.current = none) := by
  simp [same.pwq, same.readSlot, same.current]

theorem issueP_of_fenced {s : State} (h : PortLaw s) {w : Win} (fenced : s.pp.fenced = some w) : s.issueP = s :=
  if_pos (by simp [portLaw_fenceStands h fenced])

theorem issueP_of_busy {s : State} (busy : s.pp.current ≠ none) : s.issueP = s :=
  if_pos (by simp [Option.isSome_iff_ne_none.2 busy])

theorem portLaw_issueP {s : State} (h : PortLaw s) : PortLaw s.issueP := by
  cases fenced : s.pp.fenced with
  | some w => rwa [issueP_of_fenced h fenced]
  | none =>
    by_cases busy : s.pp.current = none
    · have issued := issued_issueP (s := s) ⟨fenced, fun c hc => by rw [busy] at hc; exact nomatch hc⟩
      refine ⟨fun c dir a be d r hc mem => ?_, fun g => ?_, fun w hw => ?_⟩
      · cases issued.current c hc _ mem
        rfl
      · exact absurd busy (h.granted (by simpa using g))
      · rw [issued.fenced] at hw
        exact nomatch hw
    · rwa [issueP_of_busy busy]

theorem headFence_eq_some {s : State} {w : Win} (h : s.headFence = some w) :
    s.pp.current = none ∧ s.headClass = some (.window w) := by
  unfold State.headFence at h
  split at h
  · exact nomatch h
  next free =>
    simp only [Bool.or_eq_true, not_or, Bool.not_eq_true, Option.isSome_eq_false_iff, Option.isNone_iff_eq_none] at free
    split at h
    next v class_ =>
      split at h
      · obtain rfl := Option.some.inj h
        exact ⟨free.1, class_⟩
      · exact nomatch h
    next => exact nomatch h

theorem headAddr_of_headClass {s : State} {w : Win} (h : s.headClass = some (.window w)) :
    ∃ a, headAddr s = some a ∧ a.toNat < s.memSize ∧ s.inCB a = false := by
  cases pwq : s.pp.pwq with
  | cons x rest =>
    rw [headClass_of_write pwq] at h
    exact ⟨x.addr, by simp only [headAddr, pwq], decoded_of_classify_window (Option.some.inj h)⟩
  | nil =>
    cases slot : s.pp.readSlot with
    | some r =>
      rw [headClass_of_read pwq slot] at h
      exact ⟨r.addr, by simp only [headAddr, pwq, slot], decoded_of_classify_window (Option.some.inj h)⟩
    | none =>
      rw [headClass_of_none pwq slot] at h
      exact nomatch h

/-- The retry of an access that stood at a FENCE or at a swap (R100; log 39). -/
theorem portLaw_retryHead {s v : State} (rst : s.lines.rst = false) (lines : v.lines.rst = s.lines.rst ∧
      v.lines.memsz = s.lines.memsz ∧ v.lines.cbsel = s.lines.cbsel)
    (port : v.pp.pwq = s.pp.pwq ∧ v.pp.readSlot = s.pp.readSlot ∧ (v.pp.current = none ↔ s.pp.current = none))
    (law : PortLaw v) : PortLaw (retryHead s.headFence v) := by
  obtain ⟨sameRst, memsz, cbsel⟩ := lines
  obtain ⟨pwq, readSlot, current⟩ := port
  unfold retryHead
  split
  next stands =>
    refine ⟨law.clears, law.granted, fun w fenced => ?_⟩
    rw [show s.headFence = some w from fenced] at stands
    obtain ⟨idle, class_⟩ := headFence_eq_some (show s.headFence = some w from fenced)
    obtain ⟨a, head, inMemory, outside⟩ := headAddr_of_headClass class_
    simp only [Option.any_some, State.fenceHolds, Bool.and_eq_true] at stands
    refine ⟨sameRst.trans rst, current.2 idle, stands.1, Option.isSome_iff_ne_none.1 stands.2, a, ?_, ?_, ?_⟩
    · exact (headAddr_congr pwq readSlot).trans head
    · exact (memSize_congr memsz).symm ▸ inMemory
    · exact (inCB_congr cbsel a).trans outside
  next => exact portLaw_issueP law

theorem portLaw_retryF {s t : State} (law : PortLaw t) : PortLaw (retryF s t) := by
  refine portLaw_congr law (by simp) (by simp) (by simp) (memSize_congr (by simp)) ?_ (fun w => by simp) fun w use => ?_
  · unfold State.cbBase
    rw [show (retryF s t).lines.cbsel = t.lines.cbsel by simp]
  · obtain ⟨busy, desc⟩ := inUse_ne_none.1 use
    refine inUse_ne_none.2 ⟨((viewsStay_retryF s t).stay w busy).2, ?_⟩
    rwa [InPlace.desc (x := t.win w) (by simp) (by simp) (by simp)]

theorem portLaw_retryStalled {s t : State} (h : PortLaw s) (same : PortSame s t) (rst : s.lines.rst = false) :
    PortLaw (retryStalled s t) := by
  have ended := portLaw_endFenced h same
  unfold retryStalled retryP
  refine portLaw_retryF ?_
  split
  · exact portLaw_retryHead rst (by simp [same.rst, same.memsz, same.cbsel]) (portSame_endFenced_items same) ended
  · exact ended

/-! ## Takes -/

theorem portLaw_takeWrite {s : State} (h : PortLaw s) (a : Addr) (be : Lanes) (d : Word) : PortLaw (s.takeWrite a be d) := by
  unfold State.takeWrite
  split
  next room =>
    obtain ⟨-, slot⟩ := room
    refine ⟨h.clears, h.granted, fun w fenced => ?_⟩
    obtain ⟨rst, idle, fence, use, a, head, inMemory, outside⟩ := h.fenced w fenced
    refine ⟨rst, idle, fence, use, a, ?_, inMemory, outside⟩
    cases pwq : s.pp.pwq with
    | nil => simp [headAddr, pwq, slot] at head
    | cons x rest =>
      simp only [headAddr, pwq] at head
      simpa only [headAddr, pwq, List.cons_append] using head
  next => exact h

theorem portLaw_takeRead {s : State} (h : PortLaw s) (a : Addr) (be : Lanes) : PortLaw (s.takeRead a be) := by
  unfold State.takeRead
  split
  next free =>
    obtain ⟨pwq, -, slot⟩ := free
    refine ⟨h.clears, h.granted, fun w fenced => ?_⟩
    obtain ⟨-, -, -, -, a, head, -⟩ := h.fenced w fenced
    simp [headAddr, pwq, slot] at head
  next => exact h

/-! ## Steps -/

theorem portLaw_of_ended {t : State} (current : t.pp.current = none) (free : t.mp.grant = .free)
    (fenced : t.pp.fenced = none) : PortLaw t where
  clears c dir a be d r hc := by rw [current] at hc; exact nomatch hc
  granted g := by rw [free] at g; exact nomatch g
  fenced w hw := by rw [fenced] at hw; exact nomatch hw

theorem portLaw_of_event {s t : State} (event : PortEvent s t) (h : PortLaw s) (laws : Laws s) (rst : s.lines.rst = false)
    (windows : WindowsLaw t) : PortLaw t := by
  cases event with
  | quiet same views => exact portLaw_of_views h same (views laws) windows
  | retried same => exact portLaw_retryStalled h same rst
  | issued => exact portLaw_issueP h
  | written a be d => exact portLaw_takeWrite h a be d
  | read a be => exact portLaw_takeRead h a be
  | ended _ current free fenced => exact portLaw_of_ended current free (fenced h)

theorem pwqLaw_of_event {s t : State} (event : PortEvent s t) (h : PwqLaw s) : PwqLaw t := by
  unfold PwqLaw at h ⊢
  cases event with
  | quiet same views => rwa [same.pwq]
  | @retried t same =>
    have shorter := retryStalled_pwq s t
    rw [same.pwq] at shorter
    exact shorter.trans h
  | issued => exact (issueP_pwq s).trans h
  | written a be d =>
    unfold State.takeWrite
    split
    next room => simpa using room.1
    next => exact h
  | read a be =>
    unfold State.takeRead
    split
    · exact h
    · exact h
  | ended shorter _ _ _ => exact shorter.trans h

theorem portLaw_pending {s : State} (h : PortLaw s) (rest : List Instr) : PortLaw { s with pending := rest } :=
  ⟨h.clears, h.granted, h.fenced⟩

/-- A line level that the law does not speak of. -/
theorem portLaw_underRst {s : State} (h : PortLaw s) (c : Instr) : PortLaw (underRst c s) := by
  cases c <;> exact ⟨h.clears, h.granted, h.fenced⟩

theorem portLaw_levelled {s : State} (h : PortLaw s) (c : Instr) : PortLaw (levelled c s) := by
  cases c <;> exact ⟨h.clears, h.granted, h.fenced⟩

theorem portLaw_finish {s t : State} (h : PortLaw t) : PortLaw (finish s t) :=
  portLaw_congr h (by simp) (by simp) (by simp) (memSize_congr (by simp)) (by unfold State.cbBase; simp) (fun w => by simp)
    fun w use => by simpa using use

/-- The straps are sampled with no access stalled at a FENCE (R161). -/
theorem portLaw_releaseRst {s : State} (h : PortLaw s) (memsz : BitVec 3) (cbsel : BitVec 8) (frz : Bool) :
    PortLaw (s.releaseRst memsz cbsel frz) := by
  unfold State.releaseRst
  split
  next rst =>
    refine ⟨h.clears, h.granted, fun w fenced => ?_⟩
    obtain ⟨released, -⟩ := h.fenced w fenced
    exact nomatch rst.symm.trans released
  next => exact h

theorem portLaw_answers {c : Instr} {s t : State} (answers : Answers c s t) (h : PortLaw s) (laws : Laws s) : PortLaw t := by
  cases answers with
  | held => exact portLaw_underRst h c
  | event rst joins =>
    have released : (levelled c s).lines.rst = false := (levelled_rst c s).trans rst
    have levelledLaws := laws_of_moves (same_levelled c s).moves laws
    have laws' := laws_of_moves (moves_effect (c := c) fun _ => released) levelledLaws
    refine portLaw_finish (portLaw_of_event (portEvent_effect _ ?_) (portLaw_levelled h c) levelledLaws released laws'.windows)
    rintro m k f rfl
    exact nomatch joins
  | direct joins released =>
    have laws' := laws_of_moves (moves_effect (c := c) fun h => by simp [joins] at h) laws
    cases c with
    | pinReset => exact portLaw_of_ended rfl rfl rfl
    | rstRelease m k f => exact portLaw_releaseRst h m k f
    | resetValues => exact portLaw_of_event (portEvent_effect s nofun) h laws (released (.inl rfl)) laws'.windows
    | writebackRecord => exact portLaw_of_event (portEvent_effect s nofun) h laws (released (.inr rfl)) laws'.windows
    | _ => exact nomatch joins

theorem pwqLaw_answers {c : Instr} {s t : State} (answers : Answers c s t) (h : PwqLaw s) : PwqLaw t := by
  have level : PwqLaw (levelled c s) := by cases c <;> exact h
  have effected {u : State} (law : PwqLaw u) (other : ∀ m k f, c ≠ .rstRelease m k f) : PwqLaw (effect c u) :=
    pwqLaw_of_event (portEvent_effect u other) law
  cases answers with
  | held => cases c <;> exact h
  | event rst joins =>
    have law := effected level (by rintro m k f rfl; exact nomatch joins)
    unfold PwqLaw at law ⊢
    simpa using law
  | direct joins released =>
    cases c with
    | rstRelease m k f =>
      simp only [effect, State.releaseRst]
      split
      · exact h
      · exact h
    | pinReset | resetValues | writebackRecord => exact effected h nofun
    | _ => exact nomatch joins

/-! ## The dirty set -/

theorem nodup_allRecords : allRecords.Nodup := by decide

theorem dirtyLaw_finish {s : State} (h : DirtyLaw s) (t : State) : DirtyLaw (finish s t) := by
  unfold DirtyLaw
  rw [finish_dirty, List.nodup_append']
  refine ⟨h, nodup_allRecords.filter _, fun r old joins => ?_⟩
  simp [joinsDirty, old] at joins

theorem dirty_of_writebackNext {s : State} {r : RecName} {rest : List RecName} (h : s.writebackNext = some (r, rest)) :
    s.cba.dirty = r :: rest := by
  unfold State.writebackNext at h
  split at h
  · exact nomatch h
  · cases dirty : s.cba.dirty with
    | nil => simp [dirty] at h
    | cons q l =>
      simp only [dirty, Option.some.injEq, Prod.mk.injEq] at h
      rw [h.1, h.2]

theorem dirtyLaw_beginWriteback {s : State} (h : DirtyLaw s) : DirtyLaw s.beginWriteback := by
  cases next : s.writebackNext with
  | none =>
    simp only [State.beginWriteback, next]
    exact h
  | some p =>
    obtain ⟨r, rest⟩ := p
    have tail : rest.Nodup := by
      unfold DirtyLaw at h
      rw [dirty_of_writebackNext next] at h
      exact (List.nodup_cons.1 h).2
    simp only [State.beginWriteback, next]
    exact tail

theorem dirtyLaw_answers {c : Instr} {s t : State} (answers : Answers c s t) (h : DirtyLaw s) : DirtyLaw t := by
  have level : DirtyLaw (levelled c s) := by cases c <;> exact h
  cases answers with
  | held => cases c <;> exact h
  | event rst joins => exact dirtyLaw_finish level _
  | direct joins released =>
    cases c with
    | pinReset => exact List.nodup_nil
    | rstRelease m k f =>
      simp only [effect, State.releaseRst]
      split
      · exact h
      · exact h
    | resetValues =>
      simp only [effect, State.takeResetValues]
      split
      · exact nodup_allRecords
      · exact h
    | writebackRecord => exact dirtyLaw_beginWriteback h
    | _ => exact nomatch joins

/-- Settles O6. -/
theorem stepKeepsQueueLaws : Obligations.StepKeepsQueueLaws := by
  refine ⟨fun s t pwq copy dirty next => ⟨?_, copyLaw_of_moves (moves_step next) copy, ?_⟩, fun s t laws port next => ?_⟩
  · obtain rfl | ⟨c, rest, answers⟩ := step_answers next
    · exact pwq
    · exact pwqLaw_answers answers pwq
  · obtain rfl | ⟨c, rest, answers⟩ := step_answers next
    · exact dirty
    · exact dirtyLaw_answers answers dirty
  · obtain rfl | ⟨c, rest, answers⟩ := step_answers next
    · exact port
    · have queued : Same s { s with pending := rest } := by constructor <;> simp
      exact portLaw_answers answers (portLaw_pending port rest) (laws_of_moves queued.moves laws)

end Sys2Proof.Laws
end

section
/-! What makes records dirty though nothing that they show changes (R155): the rules of the events, command by command. -/

namespace Sys2Proof.Laws

open Sys2Proof Sys2Proof.Machine Sys2Proof.Safety

/-! ## Retries -/

/-- The address of an access that has stalled lies outside the Control Block (R89, R100). -/
theorem outside_of_headStalls {s : State} (law : PortLaw s) (running : s.cc.state ≠ .resetting) (h : s.headStalls = true) :
    ∃ a, headAddr s = some a ∧ s.inCB a = false := by
  cases fenced : s.pp.fenced with
  | some w =>
    obtain ⟨-, -, -, -, a, head, -, outside⟩ := law.fenced w fenced
    exact ⟨a, head, outside⟩
  | none =>
    have open_ : s.fenceStands = false := by simp [State.fenceStands, fenced]
    unfold State.headStalls at h
    rw [open_, Bool.false_or] at h
    cases pwq : s.pp.pwq with
    | cons x rest =>
      simp only [pwq] at h
      obtain ⟨w, class_⟩ := classify_of_stalls running h
      exact ⟨x.addr, by simp only [headAddr, pwq], (decoded_of_classify_window class_).2⟩
    | nil =>
      cases slot : s.pp.readSlot with
      | none => simp [pwq, slot] at h
      | some r =>
        simp only [pwq, slot] at h
        obtain ⟨w, class_⟩ := classify_of_stalls running h
        exact ⟨r.addr, by simp only [headAddr, pwq, slot], (decoded_of_classify_window class_).2⟩

theorem headClass_ne_command {t : State} {a : Addr} (head : headAddr t = some a) (outside : t.inCB a = false) :
    t.headClass ≠ some .command := by
  obtain ⟨write, class_⟩ := headClass_of_headAddr head
  rw [class_]
  exact fun h => classify_ne_command outside .p write (Option.some.inj h)

theorem issueP_of_resetting {s : State} (h : s.cc.state = .resetting) : s.issueP = s := if_pos (by simp [h])

theorem inUse_of_fields {x y : Window} (slotA : y.slotA = x.slotA) (slotB : y.slotB = x.slotB) (active : y.active = x.active)
    (state : y.state = x.state) : y.inUse = x.inUse := inUse_congr slotA slotB active (by rw [state])

theorem inUse_dropEvent (s : State) (w : Win) (e : WEvent) (v : Win) : ((s.dropEvent w e).win v).inUse = (s.win v).inUse :=
  inUse_of_fields (by simp [-win_dropEvent]) (by simp [-win_dropEvent]) (by simp [-win_dropEvent]) (by simp [-win_dropEvent])

/-- Issue on the P port leaves windows in use as they are, unless it takes a command word. -/
theorem inUse_issueP {s : State} (noCommand : s.headClass ≠ some .command) (w : Win) :
    (s.issueP.win w).inUse = (s.win w).inUse := by
  unfold State.issueP
  split
  · rfl
  · split
    next x rest pwq =>
      rw [headClass_of_write pwq] at noCommand
      unfold State.issueWrite
      dsimp only
      split
      · rw [win_record]; rfl
      next command => exact absurd (congrArg some command) noCommand
      · rfl
      · rw [win_record]; rfl
      · split
        · rfl
        · exact inUse_of_fields (by simp) (by simp) (by simp) (by simp)
      · exact inUse_dropEvent ..
      · rfl
    next => rw [win_congr (s := s) (by simp)]
    next => rfl

section
variable {s t : State} (law : PortLaw s) (same : PortSame s t)
  (resets : s.cc.state = .resetting → t.cc.state = .resetting)
include law same resets

/-- The retry of a P access changes no window and no record, or issues an access that is no command word. -/
theorem retryP_cases : ((∀ w, (retryP s t).win w = t.win w) ∧ (retryP s t).cba.dirty = t.cba.dirty) ∨
    (retryP s t = (endFenced s t).issueP ∧ (endFenced s t).headClass ≠ some .command) := by
  have ended : (∀ w, (endFenced s t).win w = t.win w) ∧ (endFenced s t).cba.dirty = t.cba.dirty :=
    ⟨win_congr (by simp), by simp⟩
  unfold retryP
  split
  next retried =>
    rw [Bool.and_eq_true] at retried
    unfold retryHead
    split
    · exact .inl ended
    · by_cases resetting : t.cc.state = .resetting
      · rw [issueP_of_resetting (by simpa using resetting)]
        exact .inl ended
      · obtain ⟨a, head, outside⟩ := outside_of_headStalls law (fun h => resetting (resets h)) retried.1
        obtain ⟨pwq, readSlot, -⟩ := portSame_endFenced_items same
        refine .inr ⟨rfl, headClass_ne_command ((headAddr_congr pwq readSlot).trans head) ?_⟩
        rw [inCB_congr (s := s) (by simp [same.cbsel]), outside]
  next => exact .inl ended

/-- Retries make dirty GLOBAL and records of windows in use (R100). -/
theorem dirties_retryStalled_use : Dirties (OfUse t) t (retryStalled s t) := by
  have use {u : State} (inUse : ∀ w, (u.win w).inUse = (t.win w).inUse) (r : RecName) (h : OfUse u r) : OfUse t r := by
    unfold OfUse at h ⊢
    simpa [inUse] using h
  have ended (w : Win) : (endFenced s t).win w = t.win w := win_congr (by simp) w
  obtain ⟨windows, dirty⟩ | ⟨issued, noCommand⟩ := retryP_cases law same resets
  · exact ((dirties_retryF s _).mono (use fun w => by rw [windows])).after dirty
  · have uses (w : Win) : ((endFenced s t).issueP.win w).inUse = (t.win w).inUse := by
      rw [inUse_issueP noCommand, ended]
    have first : Dirties (OfUse t) t (endFenced s t).issueP :=
      ((dirties_issueP _).mono fun r hr => hr.elim (use (fun w => by rw [ended]) r) fun h => absurd h.1 noCommand).after
        (by simp)
    unfold retryStalled
    rw [issued]
    exact first.trans ((dirties_retryF s _).mono (use uses))

end

/-! ## Operations on one window -/

/-- An operation makes dirty GLOBAL and the record of `w` at most, and leaves the use of the other windows. -/
structure ActsOn (w : Win) (s t : State) : Prop where
  dirties : Dirties (fun r => r = .global ∨ r = .win w) s t
  others  : ∀ v, v ≠ w → (t.win v).inUse = (s.win v).inUse ∧ (t.win v).switchPending = (s.win v).switchPending

section
variable {s t v : State} {w : Win}

theorem ActsOn.trans (h : ActsOn w s t) (k : ActsOn w t v) : ActsOn w s v where
  dirties := h.dirties.trans k.dirties
  others x hx := ⟨(k.others x hx).1.trans (h.others x hx).1, (k.others x hx).2.trans (h.others x hx).2⟩

theorem actsOn_refl : ActsOn w s s := ⟨dirties_refl s, fun _ _ => ⟨rfl, rfl⟩⟩

theorem actsOn_of_win (dirties : Dirties (fun r => r = .global ∨ r = .win w) s t)
    (h : ∀ v, v ≠ w → t.win v = s.win v) : ActsOn w s t := ⟨dirties, fun v hv => by simp [h v hv]⟩

variable (s w)

theorem actsOn_modWin (f : Window → Window) : ActsOn w s (s.modWin w f) :=
  actsOn_of_win (dirties_of_eq rfl) fun v hv => by simp [hv]

theorem actsOn_touch : ActsOn w s (s.touch (.win w)) := actsOn_of_win (dirties_touch s (.inr rfl)) fun v _ => by simp

theorem actsOn_event (e : WEvent) : ActsOn w s (s.event w e) :=
  actsOn_of_win (dirties_event s (.inr rfl) fun _ => .inl rfl) fun v hv => by simp [hv]

theorem actsOn_endJob : ActsOn w s (s.endJob w) :=
  ⟨dirties_endJob s (.inr rfl), fun v _ => ⟨inUse_endJob s w v, by simp [-win_endJob]⟩⟩

theorem actsOn_enqueueLoop : ActsOn w s (s.enqueueLoop w) :=
  ⟨dirties_enqueueLoop s (.inr rfl), fun v _ => by
    obtain ⟨e, h⟩ := win_enqueueLoop s w v
    rw [h]
    exact ⟨rfl, rfl⟩⟩

theorem actsOn_enqueueNotice {n : Notice} (h : n.win = w) : ActsOn w s (s.enqueueNotice n) := by
  subst h
  exact actsOn_of_win (dirties_of_eq rfl) fun v hv => by simp [hv]

theorem actsOn_performSwap : ActsOn w s (s.performSwap w) := by
  refine actsOn_of_win (dirties_performSwap s (.inr rfl)) fun v hv => ?_
  cases use : (s.win w).inUse with
  | none => simp only [State.performSwap, use]
  | some d => rw [win_performSwap_eq use, if_neg hv]

theorem actsOn_decideSwap (d : Descriptor) (a : PlaceAnswer) : ActsOn w s (s.decideSwap w d a) := by
  unfold State.decideSwap
  dsimp only
  generalize marked : (s.modWin w _).touch (.win w) = t
  have first : ActsOn w s t := marked ▸ (actsOn_modWin ..).trans (actsOn_touch ..)
  have second : ActsOn w s (if a = .place then t.reserve w else t) := by
    split
    · exact first.trans (actsOn_of_win (dirties_of_eq rfl) fun _ _ => rfl)
    · exact first
  generalize (if a = .place then t.reserve w else t) = t at second ⊢
  have third : ActsOn w s (if .job w ∈ s.swapWaits w d.kind then t.makeUrgent w else t) := by
    split
    · exact second.trans (actsOn_of_win (dirties_of_eq rfl) fun _ _ => rfl)
    · exact second
  split
  · exact third.trans (actsOn_performSwap ..)
  · exact third

theorem actsOn_holdBack (e : WEvent) : ActsOn w s (s.holdBack w e) := (actsOn_modWin s w _).trans (actsOn_event _ w e)

theorem actsOn_miss (d : Descriptor) : ActsOn w s (s.miss w d) := by
  have touched : ActsOn w s ((s.modWin w fun x => x.missed d).touch (.win w)) :=
    (actsOn_modWin s w _).trans (actsOn_touch _ w)
  unfold State.miss
  dsimp only
  split
  · exact touched.trans (actsOn_event ..)
  · exact touched

theorem actsOn_underfill (d : Descriptor) : ActsOn w s (s.underfill w d) := by
  have filled : ActsOn w s (((s.endJob w).modWin w fun x => { x with fill := d.expect }).touch (.win w)) :=
    ((actsOn_endJob s w).trans (actsOn_modWin ..)).trans (actsOn_touch ..)
  unfold State.underfill
  dsimp only
  split
  · exact ((filled.trans (actsOn_miss ..)).trans (actsOn_event ..)).trans (actsOn_enqueueLoop ..)
  · exact filled.trans (actsOn_enqueueLoop ..)

theorem actsOn_evalFilled (d : Descriptor) : ActsOn w s (s.evalFilled w d) := by
  have blocked (e : WEvent) : ActsOn w s ((s.modWin w fun x => { x with state := .blocked }).holdBack w e) :=
    (actsOn_modWin ..).trans (actsOn_holdBack ..)
  unfold State.evalFilled
  split
  · exact blocked _
  · split
    · exact blocked _
    · exact (actsOn_decideSwap ..).trans (actsOn_enqueueLoop ..)

theorem actsOn_evaluate (outputOnly : Bool) : ActsOn w s (s.evaluate outputOnly w) := by
  unfold State.evaluate
  split
  · exact actsOn_refl
  · split
    · exact actsOn_refl
    · split
      · exact actsOn_holdBack ..
      · split
        · unfold State.evalInput
          split
          · exact actsOn_underfill ..
          · exact actsOn_evalFilled ..
          · exact actsOn_evalFilled ..
          · exact actsOn_refl
        · unfold State.evalOutput
          split
          · unfold State.underrun
            split
            · exact ((actsOn_miss ..).trans (actsOn_event ..)).trans (actsOn_modWin ..)
            · exact actsOn_refl
          · unfold State.evalCommitted
            split
            · exact actsOn_holdBack ..
            · exact actsOn_decideSwap ..
          · exact actsOn_refl

theorem actsOn_takeSwitch (a : PlaceAnswer) : ActsOn w s (s.takeSwitch w a) := by
  have noticed : ActsOn w s (s.noticeOld w a) := by
    unfold State.noticeOld
    split
    · exact actsOn_enqueueNotice s w rfl
    · exact actsOn_refl
  exact ((noticed.trans (actsOn_endJob ..)).trans (actsOn_modWin ..)).trans (actsOn_event ..)

theorem actsOn_takePulse (boundary outputOnly : Bool) : ActsOn w s (s.takePulse boundary outputOnly w) := by
  unfold State.takePulse
  split
  · split
    · exact actsOn_takeSwitch ..
    · exact (actsOn_event ..).trans (actsOn_evaluate ..)
  · exact actsOn_evaluate ..

end

/-! ## What a pulse finds in use -/

/-- Whether a window in use, or with a switch pending, counts: the test that a rule makes of it. -/
abbrev UseTest := Option Descriptor → Bool → Bool

/-- The records that an event may make dirty: GLOBAL, and those of the windows that pass the test. -/
inductive Reached (u : UseTest) (s : State) : RecName → Prop
  | global : Reached u s .global
  | win (w) (h : u (s.win w).inUse (s.win w).switchPending = true) : Reached u s (.win w)

/-- An operation reaches the records of windows that pass the test, and no window passes it that did not before. -/
structure Reaches (u : UseTest) (s t : State) : Prop where
  dirties : Dirties (Reached u s) s t
  before  : ∀ w, u (t.win w).inUse (t.win w).switchPending = true → u (s.win w).inUse (s.win w).switchPending = true

section
variable {u : UseTest} {s t v : State}

theorem Reaches.reached (h : Reaches u s t) {r : RecName} (k : Reached u t r) : Reached u s r := by
  cases k with
  | global => exact .global
  | win w k => exact .win w (h.before w k)

theorem Reaches.trans (h : Reaches u s t) (k : Reaches u t v) : Reaches u s v where
  dirties := h.dirties.trans (k.dirties.mono fun _ => h.reached)
  before w hw := h.before w (k.before w hw)

theorem reaches_refl (s : State) : Reaches u s s := ⟨dirties_refl s, fun _ h => h⟩

/-- An operation on window `w`, which passes the test. -/
theorem reaches_own {w : Win} (own : u (s.win w).inUse (s.win w).switchPending = true) (acts : ActsOn w s t) :
    Reaches u s t where
  dirties := acts.dirties.mono fun r hr => by
    obtain rfl | rfl := hr
    · exact .global
    · exact .win w own
  before v h := by
    by_cases same : v = w
    · rw [same]; exact own
    · obtain ⟨inUse, switchPending⟩ := acts.others v same
      rwa [inUse, switchPending] at h

/-- An operation that leaves the use of all windows. -/
theorem reaches_of_same (dirties : Dirties (fun r => r = .global) s t)
    (same : ∀ w, (t.win w).inUse = (s.win w).inUse ∧ (t.win w).switchPending = (s.win w).switchPending) :
    Reaches u s t where
  dirties := dirties.mono fun r hr => by subst hr; exact .global
  before w h := by
    obtain ⟨inUse, switchPending⟩ := same w
    rwa [inUse, switchPending] at h

theorem reaches_foldl {f : State → Win → State} (step : ∀ t w, Reaches u t (f t w)) (l : List Win) (s : State) :
    Reaches u s (l.foldl f s) := by
  induction l generalizing s with
  | nil => exact reaches_refl s
  | cons w l ih => exact (step s w).trans (ih (f s w))

end

/-! ## Rising edges -/

/-- The windows that a pulse finds in use, or with a switch pending. -/
def UsedOrSwitching : UseTest := fun use switching => use.isSome || switching

theorem reaches_takePulse (boundary outputOnly : Bool) (t : State) (w : Win) :
    Reaches UsedOrSwitching t (t.takePulse boundary outputOnly w) := by
  cases test : UsedOrSwitching (t.win w).inUse (t.win w).switchPending with
  | true => exact reaches_own test (actsOn_takePulse ..)
  | false =>
    have idle : (t.win w).inUse = none ∧ (t.win w).switchPending = false := by simpa [UsedOrSwitching] using test
    have untouched : t.takePulse boundary outputOnly w = t := by simp [State.takePulse, State.evaluate, idle]
    rw [untouched]
    exact reaches_refl t

theorem reaches_align (t : State) (w : Win) : Reaches UsedOrSwitching t (t.align w) := by
  unfold State.align
  split
  · exact reaches_refl t
  next d use =>
    split
    · exact reaches_own (by simp [UsedOrSwitching, use]) <|
        (((actsOn_endJob ..).trans (actsOn_modWin ..)).trans (actsOn_touch ..)).trans (actsOn_enqueueLoop ..)
    · exact reaches_refl t

section
variable {u : UseTest}

theorem reaches_of_windows {s t : State} (dirty : t.cba.dirty = s.cba.dirty) (windows : t.windows = s.windows) :
    Reaches u s t := reaches_of_same (dirties_of_eq dirty) fun w => by simp [win_congr windows]

theorem reaches_record (s : State) (c : Cause) : Reaches u s (s.record c) :=
  reaches_of_same (dirties_record s c rfl) fun w => by simp

theorem reaches_cc (s : State) (c : CycleController) : Reaches u s { s with cc := c } := reaches_of_windows rfl rfl

theorem reaches_countPulse (s : State) : Reaches u s s.countPulse := (reaches_cc s _).trans (reaches_record _ .cycle)

/-- What a pulse does before it is delivered. -/
theorem reaches_begun (s : State) (c : CState) : Reaches u s ((s.countPulse.enter c).startInterval.startWatchdog) :=
  (reaches_countPulse s).trans (reaches_of_windows (by simp) (by simp))

end

theorem reaches_deliver (s : State) (boundary outputOnly : Bool) :
    Reaches UsedOrSwitching s (s.deliver boundary outputOnly) :=
  reaches_foldl (reaches_takePulse boundary outputOnly) allWindows s

theorem reaches_deliverAlignment (s : State) : Reaches UsedOrSwitching s s.deliverAlignment :=
  reaches_foldl reaches_align allWindows s

theorem reaches_runningPulse (s : State) : Reaches UsedOrSwitching s s.runningPulse :=
  ((reaches_begun s .running).trans (reaches_cc _ _)).trans (reaches_deliver _ _ _)

theorem reaches_pulse (s : State) : Reaches UsedOrSwitching s s.pulse := by
  unfold State.pulse
  split
  · exact (reaches_of_windows (by simp) (by simp)).trans (reaches_deliverAlignment _)
  · exact ((reaches_begun s .running).trans (reaches_cc _ _)).trans (reaches_deliver _ _ _)
  · split
    · exact (reaches_runningPulse s).trans (reaches_cc _ _)
    · exact reaches_runningPulse s
  · split
    · have counted : Reaches UsedOrSwitching s s.countPulse.startInterval :=
        (reaches_countPulse s).trans (reaches_of_windows (by simp) (by simp))
      unfold State.frozenPulse
      dsimp only
      split
      · exact counted.trans (reaches_deliver ..)
      · exact counted
    · exact reaches_runningPulse s
  · exact (reaches_begun s .aligning).trans (reaches_deliverAlignment _)
  all_goals exact reaches_refl s

theorem reaches_risingEdge (s : State) : Reaches UsedOrSwitching s s.risingEdge := by
  have recorded (b : Bool) : Reaches UsedOrSwitching s (if b then s.record .runt else s.pulse) := by
    cases b
    · exact reaches_pulse s
    · exact reaches_record s .runt
  unfold State.risingEdge
  split
  case h_5 =>
    split
    · exact reaches_pulse s
    · exact reaches_refl s
  case h_6 | h_7 | h_8 | h_9 => exact recorded _
  all_goals exact reaches_refl s

/-- A rising edge with its retries makes dirty GLOBAL and records of windows in use, or with a switch pending. -/
theorem dirties_edgeTaken {s : State} (law : PortLaw s) : Dirties (Reached UsedOrSwitching s) s s.edgeTaken := by
  have edge := reaches_risingEdge s
  refine edge.dirties.trans ((dirties_retryStalled_use law (portSame_of_grant (by simp) (by simp) (by simp)) ?_).mono ?_)
  · intro resetting
    simp [State.risingEdge, resetting]
  · rintro r (rfl | ⟨w, rfl, use⟩)
    · exact .global
    · exact edge.reached (.win w (by simp [UsedOrSwitching, Option.isSome_iff_ne_none.2 use]))

end Sys2Proof.Laws
end

section
/-! The records that an event may make dirty though nothing that they show changes (R155), for each command. -/

namespace Sys2Proof.Laws

open Sys2Proof Sys2Proof.Machine Sys2Proof.Safety

section
variable {p : RecName → Prop}

/-! ## Copy jobs and grants -/

theorem dirties_endLoopNosrc (s : State) {w : Win} (h : p (.win w)) : Dirties p s (s.endLoopNosrc w) :=
  (dirties_endJob s h).trans (dirties_event _ h nofun)

theorem dirties_carryNext (s : State) {w : Win} (h : p (.win w)) : Dirties p s (s.carryNext w) := by
  unfold State.carryNext
  split
  · exact dirties_endJob s h
  · exact dirties_of_eq (by simp)

theorem dirties_loopNext (s : State) {w : Win} (src : Win) (k : Nat) (h : p (.win w)) :
    Dirties p s (s.loopNext w src k) := by
  unfold State.loopNext
  split
  · exact dirties_endJob s h
  · split
    · exact dirties_endJob s h
    · split
      · exact dirties_endLoopNosrc s h
      · split
        · exact dirties_endJob s h
        · exact dirties_of_eq (by simp)

/-- The test of the job in progress makes its destination's record dirty, where it ends the job. -/
theorem dirties_jobNext (s : State) (h : ∀ j, s.job = some j → p (.win j.dest)) : Dirties p s s.jobNext := by
  unfold State.jobNext
  split
  · exact dirties_refl s
  next j job =>
    split
    · exact dirties_carryNext s (h j job)
    · exact dirties_loopNext s _ _ (h j job)

theorem dirties_grantC (s : State) (h : ∀ j, s.job = some j → p (.win j.dest)) : Dirties p s s.grantC := by
  unfold State.grantC
  split
  · exact dirties_of_eq rfl
  next j job =>
    have own := h j job
    split
    · unfold State.grantCarry
      split
      · exact dirties_of_eq rfl
      · exact dirties_endJob s own
    · unfold State.grantLoop
      split
      · exact dirties_endJob s own
      · split
        · exact dirties_endJob s own
        · split
          · exact dirties_endLoopNosrc s own
          · split
            · exact dirties_endJob s own
            · split <;> exact dirties_of_eq rfl

/-- The grant of a read-clear read that memory will answer makes its record dirty (R158). -/
theorem dirties_grantP (s : State) (answer : Resp) (law : PortLaw s)
    (h : ∀ r, answer = .ok → s.readClearNext = some r → r ≠ .result → p r) : Dirties p s (s.grantP answer) := by
  unfold State.grantP
  split
  · exact dirties_refl s
  next a current =>
    split
    · exact dirties_refl s
    next x rest items =>
      cases x with
      | demand w k src dst =>
        simp only [State.grantItem]
        split
        · exact dirties_of_eq (by simp)
        · exact dirties_of_eq rfl
      | merge w op be data target => exact dirties_of_eq rfl
      | plain dir addr be data clears =>
        cases clears with
        | none => exact dirties_of_eq rfl
        | some r =>
          cases answer with
          | err => exact dirties_of_eq rfl
          | ok =>
            obtain rfl : dir = .read := law.clears a dir addr be data r current (by simp [items])
            have next : s.readClearNext = some r := by simp only [State.readClearNext, current, items]
            exact (dirties_clearPublished _ (h r rfl next)).after rfl

theorem dirties_arbitrate (s : State) (answer : Resp) (law : PortLaw s)
    (clears : ∀ r, answer = .ok → s.winner = some .p → s.readClearNext = some r → r ≠ .result → p r)
    (jobs : ∀ j, s.winner = some .c → s.job = some j → p (.win j.dest)) : Dirties p s (s.arbitrate answer) := by
  unfold State.arbitrate
  split
  · exact dirties_refl s
  · exact dirties_of_eq (by simp)
  next winner => exact dirties_grantP s answer law fun r ok => clears r ok winner
  · exact dirties_of_eq (by simp)
  next winner => exact dirties_grantC s fun j => jobs j winner

/-! ## Completions -/

theorem dirties_failPair (s : State) (q : ErrSource) (t : Pair) (h : p .global) : Dirties p s (s.failPair q t) :=
  (dirties_latchError _ _ _ _ h).after rfl

theorem dirties_finishPair (s : State) (r : Resp) (q : ErrSource) (t : Pair) (x : Word) (h : r = .err → p .global) :
    Dirties p s (s.finishPair r q t x) := (dirties_latchAnswer r _ _ _ _ h).after (by simp)

theorem dirties_pAccessComplete (s : State) (r : Resp) (h : r = .err → p .global) : Dirties p s (s.pAccessComplete r) := by
  unfold State.pAccessComplete
  split
  · split
    · exact (dirties_latchAnswer r _ _ _ _ h).after (by simp)
    · exact dirties_refl s
  · exact dirties_refl s

theorem dirties_fAccessComplete (s : State) (r : Resp) (h : r = .err → p .global) : Dirties p s (s.fAccessComplete r) := by
  unfold State.fAccessComplete
  split
  · split
    · exact (dirties_latchAnswer r _ _ _ _ h).after (by simp)
    · exact dirties_refl s
  · exact dirties_refl s

theorem dirties_mergePairComplete (s : State) (r : Resp) (h : r = .err → p .global)
    (own : ∀ w, r = .err → mergeDest s.mp.grant = some w → p (.win w)) : Dirties p s (s.mergePairComplete r) := by
  unfold State.mergePairComplete
  split
  next t grant =>
    split
    next w op be data work =>
      have dest : mergeDest s.mp.grant = some w := by simp only [grant, mergeDest, work]
      exact ((dirties_failPair s .mu t (h rfl)).trans
        (dirties_dropEvent _ (e := .mergeFault) (own w rfl dest) fun _ => h rfl)).before (by simp)
    · exact dirties_refl s
  next t x _ =>
    split
    · exact (dirties_finishPair s r .mu t x h).before (by simp)
    · exact dirties_refl s
  · exact dirties_refl s

theorem dirties_writebackWordComplete (s : State) (r : Resp) (h : r = .err → p .global) :
    Dirties p s (s.writebackWordComplete r) := by
  unfold State.writebackWordComplete
  split
  next g _ =>
    split
    · have latched := dirties_latchAnswer r ((State.memAnswered r s g.addr g.be g.data).setGrant .free) .k .write g.addr h
      exact (latched.after (by simp)).before (by simp)
    · exact dirties_refl s
  · exact dirties_refl s

theorem dirties_fillSlot (s : State) {w : Win} (store : Descriptor → Window → Window) (ws : List Word) (h : p (.win w))
    (hg : p .global) : Dirties p s (s.fillSlot w store ws) := by
  unfold State.fillSlot
  split
  · exact dirties_modTouch s _ h
  · exact dirties_event s h fun _ => hg

theorem dirties_kReadDone (s : State) (r : Resp) (g : Single) (h : p .global) : Dirties p s (s.kReadDone r g) := by
  have latched : Dirties p s (State.latchAnswer r (s.setGrant .free) .k .read g.addr) :=
    (dirties_latchAnswer r _ _ _ _ fun _ => h).after rfl
  exact latched.before rfl

theorem dirties_loadReadComplete (s : State) (r : Resp) (h : p .global)
    (own : ∀ l, s.cba.load = some l → p (.win (loadSlot ((l.count + 1) / 8 - 2)).1)) :
    Dirties p s (s.loadReadComplete r) := by
  unfold State.loadReadComplete
  split
  next g _ =>
    split
    · refine (dirties_kReadDone s r g h).trans ?_
      unfold State.loadAnswered
      split
      · exact dirties_refl _
      next l load =>
        have slot := own l (by simpa using load)
        split
        · exact dirties_refl _
        · split
          · exact dirties_of_eq rfl
          · unfold State.loadWord
            split
            · unfold State.loadRecord
              split
              · split <;> exact dirties_of_eq rfl
              · exact (dirties_fillSlot _ _ _ slot h).after rfl
            · exact dirties_of_eq rfl
    · exact dirties_refl s
  · exact dirties_refl s

theorem dirties_fetchReadComplete (s : State) (r : Resp) (h : p .global)
    (own : ∀ f, s.cba.fetch = some f → p (.win f.win)) : Dirties p s (s.fetchReadComplete r) := by
  unfold State.fetchReadComplete
  split
  next g _ =>
    split
    · refine (dirties_kReadDone s r g h).trans ?_
      unfold State.fetchAnswered
      split
      · exact dirties_refl _
      next f fetch =>
        have slot := own f (by simpa using fetch)
        split
        · exact dirties_refl _
        · split
          · exact (dirties_event _ slot fun _ => h).trans (dirties_endFetch _ fun _ => h)
          · unfold State.fetchWord
            split
            · exact (dirties_fillSlot _ _ _ slot h).trans (dirties_endFetch _ fun _ => h)
            · exact dirties_of_eq rfl
    · exact dirties_refl s
  · exact dirties_refl s

theorem dirties_startLoadEnd (s : State) (h : p .global) : Dirties p s s.startLoadEnd := by
  unfold State.startLoadEnd
  split
  · split
    · split
      · refine Dirties.trans (Dirties.after (dirties_foldl (fun t w => ?_) allWindows _) ?_) (dirties_record _ _ h)
        · exact dirties_of_eq rfl
        · rfl
      · exact (dirties_record _ _ h).after rfl
      · exact dirties_refl s
    · exact dirties_refl s
  · exact dirties_refl s

/-! ## Jobs that complete a word -/

/-- The job in progress keeps its destination when it advances. -/
theorem job_of_loopAdvance {s : State} {j : Job} (h : s.loopAdvance.job = some j) :
    ∃ i, s.job = some i ∧ i.dest = j.dest := by
  cases job : s.job with
  | none =>
    simp only [State.loopAdvance, job] at h
    exact nomatch h
  | some i =>
    refine ⟨i, rfl, ?_⟩
    cases kind : i.kind with
    | carry =>
      simp only [State.loopAdvance, job, kind, Option.some.injEq] at h
      rw [h]
    | loop src k =>
      simp only [State.loopAdvance, job, kind] at h
      unfold State.job State.setNext at h
      unfold State.job at job
      split at h
      next i' rest jobs =>
        dsimp only at h
        split at job
        next running =>
          rw [jobs, List.head?_cons] at job
          rw [if_pos running, List.head?_cons] at h
          cases job
          cases h
          rfl
        next => exact nomatch job
      next none_ => simp [none_] at job

theorem dirties_loopDone (s : State) {w : Win} (own : p (.win w)) (h : ∀ j, s.job = some j → p (.win j.dest)) :
    Dirties p s (s.loopDone w) := by
  unfold State.loopDone
  split
  · split
    · refine ((dirties_modTouch s Window.counted own).before (by simp)).trans (dirties_jobNext _ fun j next => ?_)
      obtain ⟨i, job, dest⟩ := job_of_loopAdvance next
      exact dest ▸ h i (by simpa [State.job] using job)
    · exact dirties_jobNext s h
  · exact dirties_refl s

theorem dirties_loopFailed (s : State) {w : Win} (h : p (.win w)) : Dirties p s (s.loopFailed w) := by
  unfold State.loopFailed
  split
  · split
    · exact dirties_faultInput s h
    · exact dirties_endJob s h
  · exact dirties_refl s

theorem dirties_loopPairComplete (s : State) (r : Resp) (h : r = .err → p .global)
    (own : ∀ w, s.mp.grant.copyDest = some w → p (.win w)) (jobs : ∀ j, s.job = some j → p (.win j.dest)) :
    Dirties p s (s.loopPairComplete r) := by
  unfold State.loopPairComplete
  split
  next t grant =>
    split
    next w work =>
      have dest : s.mp.grant.copyDest = some w := by simp only [grant, Grant.copyDest, work, PairWork.copyDest]
      exact ((dirties_failPair s _ t (h rfl)).trans (dirties_loopFailed _ (own w dest))).before rfl
    · exact dirties_refl s
  next t x grant =>
    split
    next w work =>
      have dest : s.mp.grant.copyDest = some w := by simp only [grant, Grant.copyDest, work, PairWork.copyDest]
      have job : (s.finishPair r .ce t x).job = s.job := by simp [State.job]
      exact ((dirties_finishPair s r .ce t x h).trans (dirties_loopDone _ (own w dest) (by rwa [job]))).before rfl
    · exact dirties_refl s
  next t grant =>
    split
    next w work =>
      have dest : s.mp.grant.copyDest = some w := by simp only [grant, Grant.copyDest, work, SingleWork.copyDest]
      refine (((dirties_latchAnswer r _ _ _ _ h).after (by simp)).trans (dirties_loopDone _ (own w dest) ?_)).before rfl
      simpa [State.job] using jobs
    · exact dirties_refl s
  · exact dirties_refl s

end

/-! ## Events with retries -/

section
variable {s t : State} {w : Win}

/-- An event at one window, and its retries. -/
theorem dirties_retried (law : PortLaw s) (acts : ActsOn w s t) (same : PortSame s t) (state : t.cc.state = s.cc.state) :
    Dirties (fun r => r = .win w ∨ OfUse s r) s (retryStalled s t) := by
  refine (acts.dirties.mono ?_).trans ((dirties_retryStalled_use law same (state ▸ id)).mono ?_)
  · rintro r (rfl | rfl)
    · exact .inr (.inl rfl)
    · exact .inl rfl
  · rintro r (rfl | ⟨v, rfl, use⟩)
    · exact .inr (.inl rfl)
    · by_cases own : v = w
      · exact .inl (own ▸ rfl)
      · exact .inr (.inr ⟨v, rfl, (acts.others v own).1 ▸ use⟩)

variable (s w)

theorem actsOn_failPair (q : ErrSource) (g : Pair) : ActsOn w s (s.failPair q g) :=
  actsOn_of_win (dirties_failPair s q g (.inl rfl)) fun v _ => win_congr (by simp) v

theorem actsOn_abandonSwap : ActsOn w s (s.abandonSwap w) :=
  actsOn_of_win (dirties_abandonSwap s (.inr rfl)) fun v hv => by rw [win_abandonSwap_eq, if_neg fun h => hv h.1]

theorem actsOn_faultOutput : ActsOn w s (s.faultOutput w) := by
  unfold State.faultOutput
  split
  · exact (((actsOn_modWin s w _).trans (actsOn_touch ..)).trans (actsOn_endJob ..)).trans (actsOn_abandonSwap ..)
  · exact actsOn_refl

theorem actsOn_carryFailed : ActsOn w s (s.carryFailed w) := by
  unfold State.carryFailed
  split
  · exact (actsOn_faultOutput ..).trans (actsOn_endJob ..)
  · exact actsOn_refl

theorem actsOn_noticeLeaves {n : Notice} (h : n.win = w) : ActsOn w s (s.noticeLeaves n) := by
  subst h
  refine actsOn_of_win (dirties_noticeLeaves s (.inr rfl)) fun v hv => ?_
  rw [State.noticeLeaves, win_touch, win_modWin, if_neg hv]
  rfl

end

/-- GLOBAL, the records of windows in use, and that of the window whose notice is offered. -/
def OfNotice (s : State) (r : RecName) : Prop := OfUse s r ∨ ∃ n, s.nu.offer = some n ∧ r = .win n.win

section
variable {p : RecName → Prop} {s : State} (law : PortLaw s)
include law

theorem dirties_demandCopyComplete (r : Resp) (h : r = .err → p .global)
    (own : ∀ w, mergeDest s.mp.grant = some w → p (.win w))
    (use : ∀ w, r = .err → (s.win w).inUse ≠ none → p (.win w)) : Dirties p s (s.demandCopyComplete r) := by
  unfold State.demandCopyComplete
  split
  next t grant =>
    split
    next w k work =>
      have dest : mergeDest s.mp.grant = some w := by simp only [grant, mergeDest, work]
      have acts : ActsOn w s ((s.failPair .mu t).faultOutput w).popItem :=
        ((actsOn_failPair ..).trans (actsOn_faultOutput ..)).trans
          (actsOn_of_win (dirties_of_eq (by simp)) fun v _ => win_popItem ..)
      refine (dirties_retried law acts
        (((portSame_failPair ..).trans (portSame_faultOutput ..)).trans (portSame_popItem _)) (by simp)).mono ?_
      rintro r (rfl | rfl | ⟨v, rfl, used⟩)
      · exact own w dest
      · exact h rfl
      · exact use v rfl used
    · exact dirties_refl s
  next t x grant =>
    split
    next w k work =>
      have dest : mergeDest s.mp.grant = some w := by simp only [grant, mergeDest, work]
      have cleared (u : State) : Dirties p u (u.clearMark w k) := dirties_modTouch u _ (own w dest)
      exact ((dirties_finishPair s r .mu t x h).trans (cleared _)).before (by simp)
    · exact dirties_refl s
  · exact dirties_refl s

theorem dirties_carryPairComplete (r : Resp) (h : r = .err → p .global)
    (jobs : ∀ j, s.job = some j → p (.win j.dest)) (own : ∀ w, r = .err → s.mp.grant.copyDest = some w → p (.win w))
    (use : ∀ w, r = .err → (s.win w).inUse ≠ none → p (.win w)) : Dirties p s (s.carryPairComplete r) := by
  unfold State.carryPairComplete
  split
  next t grant =>
    split
    next w k work =>
      have dest : s.mp.grant.copyDest = some w := by simp only [grant, Grant.copyDest, work, PairWork.copyDest]
      have acts : ActsOn w s (((s.failPair .ce t).carryFailed w).leaveDrain .pair) :=
        ((actsOn_failPair ..).trans (actsOn_carryFailed ..)).trans (actsOn_of_win (dirties_of_eq rfl) fun _ _ => rfl)
      refine (dirties_retried law acts (((portSame_failPair ..).trans (portSame_carryFailed ..)).trans
        (portSame_of_grant rfl ⟨rfl, rfl, rfl⟩ rfl)) (by simp)).mono ?_
      rintro r (rfl | rfl | ⟨v, rfl, used⟩)
      · exact own w rfl dest
      · exact h rfl
      · exact use v rfl used
    · exact dirties_refl s
  next t x grant =>
    split
    next w k work =>
      have done : Dirties p s ((s.finishPair r .ce t x).carryDone w k) := by
        refine (dirties_finishPair s r .ce t x h).trans ?_
        unfold State.carryDone
        dsimp only
        split
        · exact (dirties_jobNext _ (by simpa [State.job, State.eraseMark] using jobs)).after rfl
        · exact dirties_of_eq rfl
      exact done.before rfl
    · exact dirties_refl s
  · exact dirties_refl s

theorem dirties_swapPerform (w : Win) : Dirties (OfUse s) s (s.swapPerform w) := by
  unfold State.swapPerform
  split
  next ready =>
    obtain ⟨⟨-, use⟩, -⟩ : (_ ∧ (s.win w).inUse.isSome = true) ∧ _ := by simpa [State.swapReady] using ready
    refine (dirties_retried law ((actsOn_performSwap s w).trans (actsOn_enqueueLoop ..))
      (portSame_of_grant (by simp) (by simp) (by simp)) (by simp)).mono ?_
    rintro r (rfl | used)
    · exact .inr ⟨w, rfl, Option.isSome_iff_ne_none.1 use⟩
    · exact used
  next => exact dirties_refl s

/-- A notice that leaves makes its window's record dirty (R124, R125). -/
theorem dirties_noticeEnds {n : Notice} {t : State} (offer : s.nu.offer = some n)
    (leaves : t = s.noticeLeaves n ∨ t = (s.noticeLeaves n).record .noticeTimeout) :
    Dirties (OfNotice s) s (retryStalled s t) := by
  have left := actsOn_noticeLeaves s n.win (n := n) rfl
  have acts : ActsOn n.win s t ∧ PortSame s t ∧ t.cc.state = s.cc.state := by
    obtain rfl | rfl := leaves
    · exact ⟨left, portSame_noticeLeaves .., by simp⟩
    · exact ⟨left.trans (actsOn_of_win (dirties_record _ _ (.inl rfl)) fun v _ => by simp),
        (portSame_noticeLeaves ..).trans (portSame_record ..), by simp⟩
  obtain ⟨acts, same, state⟩ := acts
  refine (dirties_retried law acts same state).mono ?_
  rintro r (rfl | used)
  · exact .inr ⟨n, offer, rfl⟩
  · exact .inl used

theorem dirties_acceptNotice : Dirties (OfNotice s) s s.acceptNotice := by
  unfold State.acceptNotice
  split
  · exact dirties_refl s
  next n offer => exact dirties_noticeEnds law offer (.inl rfl)

theorem dirties_noticeExpires : Dirties (OfNotice s) s s.noticeExpires := by
  unfold State.noticeExpires
  split
  · exact dirties_refl s
  next n offer =>
    split
    · exact dirties_noticeEnds law offer (.inr rfl)
    · exact dirties_refl s

end

/-! ## The other events -/

section
variable {s : State}

/-- The output windows in use. -/
def OutputInUse : UseTest := fun use _ => use.any fun d => d.kind == .output

theorem reaches_lose (s : State) (w : Win) : Reaches OutputInUse s (s.lose w) := by
  unfold State.lose
  split
  · exact reaches_refl s
  next d use =>
    split
    next output =>
      exact reaches_own (by simp [OutputInUse, use, output.1]) ((actsOn_modWin s w _).trans (actsOn_touch ..))
    next => exact reaches_refl s

/-- The loss of the cycle makes dirty GLOBAL and records of output windows in use (R30, R70). -/
theorem dirties_watchdogExpires (s : State) :
    Dirties (fun r => s.cc.watchdog = true ∧ Reached OutputInUse s r) s s.watchdogExpires := by
  unfold State.watchdogExpires
  split
  next expires =>
    exact (((reaches_cc s _).trans (reaches_record _ .lost)).trans (reaches_foldl reaches_lose allWindows _)).dirties.mono
      fun r hr => ⟨expires.1, hr⟩
  next => exact dirties_refl s

/-- An access at issue that is no command word makes dirty GLOBAL and records of windows in use. -/
theorem dirties_issueP_use (none_ : s.commandAtIssue = none) : Dirties (OfUse s) s s.issueP := by
  unfold State.issueP
  split
  · exact dirties_refl s
  next free =>
    split
    next x rest pwq =>
      have notCommand : s.classify .p true x.addr ≠ .command := fun command => by
        simp [State.commandAtIssue, free, pwq, command] at none_
      exact (dirties_issueWrite s x rest).mono fun r hr => hr.elim id fun h => absurd h.1 notCommand
    · exact dirties_issueRead s _
    · exact dirties_refl s

theorem dirties_commandRow (c : Spelling) :
    Dirties (fun r => s.commandAtIssue.isSome = true ∧ NotResult r) s (s.commandRow c) := by
  unfold State.commandRow
  split
  next issue =>
    refine (dirties_issueP s).mono fun r hr => ⟨by rw [issue]; rfl, ?_⟩
    exact hr.elim OfUse.notResult And.right
  next => exact dirties_refl s

theorem dirties_endPass (s : State) : Dirties (fun r => s.cc.phase = .passDone ∧ NotResult r) s s.endPass := by
  unfold State.endPass
  split
  next ends =>
    refine (Dirties.trans ?_ (dirties_retryStalled s _)).mono fun r hr => ⟨ends.2, hr⟩
    exact (dirties_touch _ nofun).after rfl
  next => exact dirties_refl s

theorem dirties_endDrain {p : RecName → Prop} (s : State) (h : p .global) : Dirties p s s.endDrain := by
  unfold State.endDrain
  split
  · exact (dirties_record _ _ h).after rfl
  · exact dirties_refl s

theorem dirties_startJob {p : RecName → Prop} (s : State) (h : ∀ j, s.ce.jobs.head? = some j → p (.win j.dest)) :
    Dirties p s s.startJob := by
  unfold State.startJob
  split
  · exact dirties_refl s
  · exact (dirties_jobNext _ (by simpa [State.job] using h)).after rfl

end

end Sys2Proof.Laws
end

section
/-! The end of an event (R155): which records join the dirty set, and in which order. -/

namespace Sys2Proof.Laws

open Sys2Proof Sys2Proof.Machine Sys2Proof.Safety

/-! ## The rules of the commands together -/

/-- The rule of a command's event may make the record dirty. -/
abbrev MayDirty (c : Instr) (s : State) (r : RecName) : Prop := mayDirty c s r = true

section
variable {c : Instr} {s : State}

theorem mayDirty_of_notResult (flags : flagsRecorded c s = true) (windows : ∀ w, windowRecorded c s w = true) {r : RecName}
    (h : NotResult r) : MayDirty c s r := by
  cases r with
  | global => exact flags
  | result => exact absurd rfl h
  | win w => exact windows w

theorem mayDirty_of_ofUse (flags : flagsRecorded c s = true)
    (windows : ∀ w, (s.win w).inUse ≠ none → windowRecorded c s w = true) {r : RecName} (h : OfUse s r) :
    MayDirty c s r := by
  obtain rfl | ⟨w, rfl, use⟩ := h
  · exact flags
  · exact windows w use

theorem mayDirty_of_reached {u : UseTest} (flags : flagsRecorded c s = true)
    (windows : ∀ w, u (s.win w).inUse (s.win w).switchPending = true → windowRecorded c s w = true) {r : RecName}
    (h : Reached u s r) : MayDirty c s r := by
  cases h with
  | global => exact flags
  | win w own => exact windows w own

/-- A command row makes records dirty by the command word at issue alone. -/
theorem dirties_row {k : Spelling} (row : effect c s = s.commandRow k) (flags : flagsRecorded c s = true)
    (windows : ∀ w, windowRecorded c s w = s.commandAtIssue.isSome) : Dirties (MayDirty c s) s (effect c s) := by
  rw [row]
  refine (dirties_commandRow k).mono fun r ⟨issue, hr⟩ => mayDirty_of_notResult flags (fun w => ?_) hr
  rw [windows w, issue]

theorem dirties_issue (port : IssueAt) : Dirties (MayDirty (.accessIssue port) s) s (s.issue port) := by
  have use (windows : ∀ w, (s.win w).inUse ≠ none → windowRecorded (.accessIssue port) s w = true) (r : RecName) :
      OfUse s r → MayDirty (.accessIssue port) s r := mayDirty_of_ofUse rfl windows
  cases port with
  | p =>
    cases issue : s.commandAtIssue with
    | none =>
      exact (dirties_issueP_use issue).mono (use fun w used => by
        simp [windowRecorded, Option.isSome_iff_ne_none.2 used])
    | some k =>
      refine (dirties_issueP s).mono fun r hr => mayDirty_of_notResult rfl (fun w => by simp [windowRecorded, issue]) ?_
      exact hr.elim OfUse.notResult And.right
  | f a =>
    have reached := (dirties_reachF s { a with addr := wordAddr a.addr }).mono (use fun w used => by
      simp [windowRecorded, Option.isSome_iff_ne_none.2 used])
    simp only [State.issue]
    split
    · exact reached
    · exact dirties_refl s
  | fHeld =>
    have reached (a : Access) := (dirties_reachF s a).mono (use fun w used => by
      simp [windowRecorded, Option.isSome_iff_ne_none.2 used])
    simp only [State.issue]
    split
    · exact reached _
    · exact dirties_refl s

theorem dirties_grants (law : PortLaw s) (answer : Resp) :
    Dirties (MayDirty (.mpGrant answer) s) s (s.arbitrate answer) := by
  refine dirties_arbitrate s answer law (fun r ok winner next notResult => ?_) fun j winner job => ?_
  · cases r with
    | result => exact absurd rfl notResult
    | global =>
      have clears : (answer == .ok && s.winner == some .p && s.readClearNext == some .global) = true := by
        rw [ok, winner, next]; rfl
      exact clears
    | win w => simp [MayDirty, mayDirty, windowRecorded, ok, winner, next]
  · simp [MayDirty, mayDirty, windowRecorded, winner, job]

theorem dirties_readClear (law : PortLaw s) (answer : Resp) :
    Dirties (MayDirty (.readClear answer) s) s (s.readClear answer) := by
  unfold State.readClear
  split
  · exact dirties_grants law answer
  · exact dirties_refl s

theorem dirties_notices {t : State} (flags : flagsRecorded c s = true)
    (windows : ∀ w, windowRecorded c s w = ((s.win w).inUse.isSome || s.nu.offer.any fun n => n.win == w))
    (h : Dirties (OfNotice s) s t) : Dirties (MayDirty c s) s t := by
  refine h.mono ?_
  rintro r (used | ⟨n, offer, rfl⟩)
  · exact mayDirty_of_ofUse flags (fun w use => by rw [windows, Option.isSome_iff_ne_none.2 use]; rfl) used
  · simp [MayDirty, mayDirty, windows, offer]

/-- Of what an event does to the dirty set, what its rules account for (R155). -/
theorem dirties_effect (law : PortLaw s) (joins : joinsRecords c = true) : Dirties (MayDirty c s) s (effect c s) := by
  have err {r : Resp} (h : r = .err) : (r == .err) = true := by simp [h]
  cases c with
  | pinReset | rstRelease | resetValues | writebackRecord => exact absurd joins Bool.false_ne_true
  | start | stop | reset | clearerr | load | switch | cancel | hold | release | commit | rearm | unknownCommand =>
    exact dirties_row rfl rfl fun _ => rfl
  | cycFall | frzChange | intervalTimerExpiry | pWriteTake | pReadTake | noticeOffer | readHalfResponse =>
    exact dirties_of_eq (by simp [effect])
  | cycRise =>
    exact (dirties_edgeTaken law).mono fun r => mayDirty_of_reached rfl fun _ => id
  | watchdogExpiry =>
    exact (dirties_watchdogExpires s).mono fun r ⟨watchdog, hr⟩ => mayDirty_of_reached (c := .watchdogExpiry) watchdog
      (fun w use => by rw [windowRecorded, watchdog, Bool.true_and]; exact use) hr
  | accessIssue port => exact dirties_issue port
  | readClear answer => exact dirties_readClear law answer
  | mpGrant answer => exact dirties_grants law answer
  | pAccessComplete r => exact dirties_pAccessComplete s r err
  | fAccessComplete r => exact dirties_fAccessComplete s r err
  | writebackWordComplete r => exact dirties_writebackWordComplete s r err
  | mergePairComplete r =>
    exact dirties_mergePairComplete s r err fun w failed dest => by simp [MayDirty, mayDirty, windowRecorded, failed, dest]
  | demandCopyComplete r =>
    exact dirties_demandCopyComplete law r err (fun w dest => by simp [MayDirty, mayDirty, windowRecorded, dest])
      fun w failed use => by simp [MayDirty, mayDirty, windowRecorded, failed, Option.isSome_iff_ne_none.2 use]
  | copyJobStart => exact dirties_startJob s fun j job => by simp [MayDirty, mayDirty, windowRecorded, job]
  | carryPairComplete r =>
    exact dirties_carryPairComplete law r err (fun j job => by simp [MayDirty, mayDirty, windowRecorded, job])
      (fun w failed dest => by simp [MayDirty, mayDirty, windowRecorded, failed, dest])
      fun w failed use => by simp [MayDirty, mayDirty, windowRecorded, failed, Option.isSome_iff_ne_none.2 use]
  | loopPairComplete r =>
    exact dirties_loopPairComplete s r err (fun w dest => by simp [MayDirty, mayDirty, windowRecorded, dest])
      fun j job => by simp [MayDirty, mayDirty, windowRecorded, job]
  | swapPerform w =>
    exact (dirties_swapPerform law w).mono fun r => mayDirty_of_ofUse (c := .swapPerform w) rfl
      fun v use => Option.isSome_iff_ne_none.2 use
  | loadReadComplete r =>
    exact dirties_loadReadComplete s r rfl fun l load => by simp [MayDirty, mayDirty, windowRecorded, load, loadSlot]
  | startLoadEnd => exact dirties_startLoadEnd s rfl
  | fetchReadComplete r =>
    exact dirties_fetchReadComplete s r rfl fun f fetch => by simp [MayDirty, mayDirty, windowRecorded, fetch]
  | noticeAccept => exact dirties_notices rfl (fun _ => rfl) (dirties_acceptNotice law)
  | noticeTimeout => exact dirties_notices rfl (fun _ => rfl) (dirties_noticeExpires law)
  | drainEnd => exact dirties_endDrain s rfl
  | resetPassEnd =>
    exact (dirties_endPass s).mono fun r ⟨done, hr⟩ =>
      mayDirty_of_notResult rfl (fun w => by simp [windowRecorded, done]) hr

end

end Sys2Proof.Laws
end

section
/-! The requests of K (R142, R156): which events end one, and what K presents having none (log 28, log 29). -/

namespace Sys2Proof.Laws

open Sys2Proof Sys2Proof.Machine Sys2Proof.Safety

/-! ## Requests over an event -/

/-- STOP withdraws K's ungranted read (R142; log 28). -/
structure Withdrawn (s t : State) : Prop where
  request  : t.cba.request = none
  read     : s.cba.request ≠ some .writeback
  free     : s.mp.grant.holder ≠ some .k
  before   : s.cc.state ≠ .draining
  draining : t.cc.state = .draining

/-- An event that completes nothing of K keeps K's request, or withdraws it. -/
def RequestStays (s t : State) : Prop := t.cba.request = s.cba.request ∨ Withdrawn s t

/-- What the retries of an event find as the event found it. -/
structure RequestSame (s t : State) : Prop where
  request  : t.cba.request = s.cba.request
  holder   : s.mp.grant.holder = some .k → t.mp.grant.holder = some .k
  draining : s.cc.state = .draining → t.cc.state = .draining

section
variable {s t u : State}

theorem RequestStays.after (h : RequestStays t u) (same : RequestSame s t) : RequestStays s u := by
  obtain kept | withdrawn := h
  · exact .inl (kept.trans same.request)
  · exact .inr ⟨withdrawn.request, same.request ▸ withdrawn.read, fun held => withdrawn.free (same.holder held),
      fun draining => withdrawn.before (same.draining draining), withdrawn.draining⟩

theorem RequestStays.before (h : RequestStays s t) (request : u.cba.request = t.cba.request)
    (state : u.cc.state = t.cc.state) : RequestStays s u := by
  obtain kept | withdrawn := h
  · exact .inl (request.trans kept)
  · exact .inr { withdrawn with request := request.trans withdrawn.request, draining := state.trans withdrawn.draining }

theorem requestSame_of_cba (cba : t.cba.request = s.cba.request) (mp : t.mp.grant = s.mp.grant)
    (state : t.cc.state = s.cc.state) : RequestSame s t :=
  ⟨cba, fun h => mp ▸ h, fun h => state ▸ h⟩

theorem withdrawRead_cases (s : State) : s.withdrawRead.cba.request = s.cba.request ∨
    (s.withdrawRead.cba.request = none ∧ s.cba.request ≠ some .writeback ∧ s.mp.grant.holder ≠ some .k) := by
  unfold State.withdrawRead
  split
  · exact .inl rfl
  next notK =>
    split
    · exact .inl rfl
    next read => exact .inr ⟨rfl, read, notK⟩

theorem requestStays_stop (s : State) (running : s.cc.state ≠ .draining) : RequestStays s s.stop := by
  have request : s.stop.cba.request = s.withdrawRead.cba.request := by rw [stop_eq]; simp [stopped]
  have state : s.stop.cc.state = .draining := by rw [stop_eq]; simp [stopped]
  obtain kept | ⟨ended, read, notK⟩ := withdrawRead_cases s
  · exact .inl (request.trans kept)
  · exact .inr ⟨request.trans ended, read, notK, running, state⟩

theorem requestStays_runCommand (s : State) (x : Word) {c : Command} (accepted : c.accepted s.cc.state = true) :
    RequestStays s (s.runCommand x c) := by
  cases c with
  | stop =>
    have running : s.cc.state ≠ .draining := fun draining => by simp [draining, Command.accepted, CState.live] at accepted
    exact (requestStays_stop s running).before (by simp [State.runCommand]) (by simp [State.runCommand])
  | _ => exact .inl (by simp [State.runCommand])

theorem requestStays_takeCommand (s : State) (be : Lanes) (x : Word) : RequestStays s (s.takeCommand be x) := by
  unfold State.takeCommand
  split
  · exact .inl (by simp)
  · split
    next accepted => exact requestStays_runCommand s x accepted
    next => exact .inl (by simp)

theorem requestStays_issueP (s : State) : RequestStays s s.issueP := by
  unfold State.issueP
  split
  · exact .inl rfl
  · split
    · unfold State.issueWrite
      dsimp only
      split
      case h_2 => exact (requestStays_takeCommand _ _ _).after (requestSame_of_cba rfl rfl rfl)
      case h_5 => split <;> exact .inl (by simp)
      all_goals exact .inl (by simp)
    · exact .inl (by simp)
    · exact .inl rfl

theorem requestStays_retryStalled (same : RequestSame s t) : RequestStays s (retryStalled s t) := by
  have ended : RequestSame t (endFenced s t) := requestSame_of_cba (by simp) (by simp) (by simp)
  have retried : RequestStays t (retryP s t) := by
    unfold retryP
    split
    · unfold retryHead
      split
      · exact .inl ended.request
      · exact (requestStays_issueP _).after ended
    · exact .inl ended.request
  exact (retried.before (by simp [retryStalled]) (by simp [retryStalled])).after same

/-! ## Requests that complete -/

theorem requestStays_edgeTaken (s : State) : RequestStays s s.edgeTaken := by
  refine requestStays_retryStalled ⟨by simp, fun h => ?_, fun draining => ?_⟩
  · simpa using h
  · simp [State.risingEdge, draining]

theorem requestStays_demandCopyComplete (s : State) (r : Resp) : RequestStays s (s.demandCopyComplete r) := by
  unfold State.demandCopyComplete
  split
  next t grant =>
    split
    next w k work =>
      refine requestStays_retryStalled ⟨by simp, fun held => ?_, fun draining => by simpa using draining⟩
      simp [grant, Grant.holder, work, PairWork.holder] at held
    · exact .inl rfl
  · split <;> exact .inl (by simp)
  · exact .inl rfl

theorem requestStays_carryPairComplete (s : State) (r : Resp) : RequestStays s (s.carryPairComplete r) := by
  unfold State.carryPairComplete
  split
  next t grant =>
    split
    next w k work =>
      refine requestStays_retryStalled ⟨by simp, fun held => ?_, fun draining => by simpa using draining⟩
      simp [grant, Grant.holder, work, PairWork.holder] at held
    · exact .inl rfl
  · split <;> exact .inl (by simp)
  · exact .inl rfl

theorem requestStays_swapPerform (s : State) (w : Win) : RequestStays s (s.swapPerform w) := by
  unfold State.swapPerform
  split
  · exact requestStays_retryStalled (requestSame_of_cba (by simp) (by simp) (by simp))
  · exact .inl rfl

theorem requestStays_acceptNotice (s : State) : RequestStays s s.acceptNotice := by
  unfold State.acceptNotice
  split
  · exact .inl rfl
  · exact requestStays_retryStalled (requestSame_of_cba (by simp) (by simp) (by simp))

theorem requestStays_noticeExpires (s : State) : RequestStays s s.noticeExpires := by
  unfold State.noticeExpires
  split
  · exact .inl rfl
  · split
    · exact requestStays_retryStalled (requestSame_of_cba (by simp) (by simp) (by simp))
    · exact .inl rfl

theorem requestStays_endPass (s : State) : RequestStays s s.endPass := by
  unfold State.endPass
  split
  next ends =>
    refine requestStays_retryStalled ⟨by simp, fun h => by simpa using h, fun draining => ?_⟩
    exact absurd (ends.1.symm.trans draining) nofun
  next => exact .inl rfl

theorem requestStays_issue (s : State) (port : IssueAt) : RequestStays s (s.issue port) := by
  cases port with
  | p => exact requestStays_issueP s
  | f a => exact .inl (by simp only [State.issue]; split <;> simp)
  | fHeld => exact .inl (by simp only [State.issue]; split <;> simp)

theorem requestStays_commandRow (s : State) (c : Spelling) : RequestStays s (s.commandRow c) := by
  unfold State.commandRow
  split
  · exact requestStays_issueP s
  · exact .inl rfl

/-- What an event does to K's request: it stays or is withdrawn, or its transaction completes. -/
theorem request_effect {c : Instr} (s : State) (joins : joinsRecords c = true) : RequestStays s (effect c s) ∨
    ((effect c s).cba.request = none ∧ completesK c s = true) := by
  cases c with
  | pinReset | rstRelease | resetValues | writebackRecord => exact absurd joins Bool.false_ne_true
  | start | stop | reset | clearerr | load | switch | cancel | hold | release | commit | rearm | unknownCommand =>
    exact .inl (requestStays_commandRow s _)
  | cycRise => exact .inl (requestStays_edgeTaken s)
  | accessIssue port => exact .inl (requestStays_issue s port)
  | demandCopyComplete r => exact .inl (requestStays_demandCopyComplete s r)
  | carryPairComplete r => exact .inl (requestStays_carryPairComplete s r)
  | swapPerform w => exact .inl (requestStays_swapPerform s w)
  | noticeAccept => exact .inl (requestStays_acceptNotice s)
  | noticeTimeout => exact .inl (requestStays_noticeExpires s)
  | resetPassEnd => exact .inl (requestStays_endPass s)
  | loadReadComplete r =>
    simp only [effect, State.loadReadComplete]
    split
    next g grant =>
      split
      next work => exact .inr ⟨by simp [State.kReadDone], by simp [completesK, grant, work]⟩
      next => exact .inl (.inl rfl)
    next => exact .inl (.inl rfl)
  | fetchReadComplete r =>
    simp only [effect, State.fetchReadComplete]
    split
    next g grant =>
      split
      next work => exact .inr ⟨by simp [State.kReadDone], by simp [completesK, grant, work]⟩
      next => exact .inl (.inl rfl)
    next => exact .inl (.inl rfl)
  | writebackWordComplete r =>
    simp only [effect, State.writebackWordComplete]
    split
    next g grant =>
      split
      next name i work => exact .inr ⟨rfl, by simp [completesK, grant, work]⟩
      next => exact .inl (.inl rfl)
    next => exact .inl (.inl rfl)
  | _ => exact .inl (.inl (by simp [effect]))

end

end Sys2Proof.Laws
end

section
/-! The end of an event (R155, R156): records join the dirty set in their order, and K presents what waits. -/

namespace Sys2Proof.Laws

open Sys2Proof Sys2Proof.Machine Sys2Proof.Safety

/-! ## What joins -/

theorem shownDiffers_iff (s t : State) (r : RecName) : shownDiffers s t r = true ↔
    ∃ i, i < r.length ∧ t.recordWord r i ≠ s.recordWord r i := by
  simp only [shownDiffers, List.any_eq_true, List.mem_range, bne_iff_ne, ne_comm]

theorem joinsDirty_iff (s t : State) (r : RecName) : joinsDirty s t r = true ↔
    r ∉ s.cba.dirty ∧ (r ∈ t.cba.dirty ∨ ∃ i, i < r.length ∧ t.recordWord r i ≠ s.recordWord r i) := by
  simp [joinsDirty, shownDiffers_iff]

/-- Records show neither the dirty set nor K's request. -/
theorem recordWord_finish (s t : State) (r : RecName) (i : Nat) : (finish s t).recordWord r i = t.recordWord r i := by
  cases r with
  | global =>
    simp only [State.recordWord]
    unfold State.globalWord
    split <;> simp [State.places]
  | result =>
    simp only [State.recordWord]
    unfold State.resultWord
    split <;> simp
  | win w => simp [State.recordWord]

theorem levelled_recordWord (c : Instr) (s : State) (r : RecName) (i : Nat) :
    (levelled c s).recordWord r i = s.recordWord r i := by
  cases c <;> cases r <;> rfl

theorem underRst_recordWord (c : Instr) (s : State) (r : RecName) (i : Nat) :
    (underRst c s).recordWord r i = s.recordWord r i := by
  cases c with
  | frzChange => cases r <;> rfl
  | _ => exact levelled_recordWord _ s r i

theorem levelled_cba (c : Instr) (s : State) : (levelled c s).cba = s.cba := by cases c <;> rfl

theorem mayDirty_levelled (c : Instr) (s : State) (r : RecName) : mayDirty c (levelled c s) r = mayDirty c s r := by
  cases c <;> cases r <;> rfl

theorem completesK_levelled (c : Instr) (s : State) : completesK c (levelled c s) = completesK c s := by cases c <;> rfl

/-! ## What K presents -/

/-- RESETTING holds K (R156, R160). -/
def HeldK (s : State) : Prop := s.cc.state = .resetting ∧ s.cc.phase ≠ .pass

/-- A read of K waits and comes next (R156). -/
def ReadsNext (s : State) : Prop :=
  ((∃ l, s.cba.load = some l ∧ l.ending = none) ∨ s.cba.fetch ≠ none) ∧
    (s.cba.turn = .read ∨ (s.cba.writeback = none ∧ s.cba.dirty = []))

/-- The request that stands is the one that K, having had none, presents. -/
structure Presented (s : State) : Prop where
  held      : HeldK s → s.cba.request = none
  read      : ¬ HeldK s → ReadsNext s → s.cba.request = some (if s.cba.load = none then .fetch else .load)
  writeback : ¬ HeldK s → ¬ ReadsNext s → s.cba.writeback ≠ none → s.cba.request = some .writeback
  rest      : ¬ HeldK s → ¬ ReadsNext s → s.cba.writeback = none → s.cba.request = none

theorem kHeld_iff (s : State) : s.kHeld = true ↔ HeldK s := by simp [State.kHeld, HeldK]

theorem readsNext_iff (s : State) :
    (s.readWaits && (s.cba.turn == .read || (s.cba.writeback.isNone && s.cba.dirty.isEmpty))) = true ↔ ReadsNext s := by
  simp [ReadsNext, ← readWaits_iff]

theorem presentK_of_request {s : State} (h : s.cba.request ≠ none) : presentK s = s := by
  unfold presentK
  rw [if_pos (by simp [Option.isSome_iff_ne_none.2 h])]

theorem heldK_presentK (s : State) : HeldK (presentK s) ↔ HeldK s := by simp [HeldK]

theorem readsNext_presentK (s : State) : ReadsNext (presentK s) ↔ ReadsNext s := by simp [ReadsNext]

theorem presentK_held {s : State} (held : HeldK s) : presentK s = s := by
  unfold presentK
  rw [(kHeld_iff s).2 held, Bool.or_true, if_pos rfl]

section
variable {s : State} (free : s.cba.request = none)
include free

theorem presentK_running (running : ¬ HeldK s) : (presentK s).cba.request =
    if s.readWaits && (s.cba.turn == .read || (s.cba.writeback.isNone && s.cba.dirty.isEmpty))
    then some (if s.cba.load.isSome then .load else .fetch)
    else if s.cba.writeback.isSome then some .writeback else none := by
  have notHeld : s.kHeld = false := Bool.eq_false_iff.2 (mt (kHeld_iff s).1 running)
  unfold presentK
  rw [if_neg (by simp [free, notHeld])]
  split
  · rfl
  · split
    · rfl
    · exact free

theorem presented_presentK : Presented (presentK s) := by
  have stays : (presentK s).cba.load = s.cba.load ∧ (presentK s).cba.writeback = s.cba.writeback := by simp
  obtain ⟨load, writeback⟩ := stays
  constructor <;> rw [heldK_presentK]
  case held =>
    intro held
    rw [presentK_held held, free]
  all_goals
    intro running
    rw [presentK_running free running, readsNext_presentK]
  case read =>
    intro next
    rw [if_pos ((readsNext_iff s).2 next), load]
    cases s.cba.load <;> rfl
  case writeback =>
    intro notNext progress
    rw [writeback] at progress
    rw [if_neg (mt (readsNext_iff s).1 notNext), if_pos (Option.isSome_iff_ne_none.2 progress)]
  case rest =>
    intro notNext progress
    rw [writeback] at progress
    rw [if_neg (mt (readsNext_iff s).1 notNext), progress]
    rfl

end

/-! ## The end of an event -/

/-- K's request after an event that brings K's request from that of `s` to that of `e`. -/
theorem request_finish {s e : State} (h : e.cba.request = s.cba.request ∨ e.cba.request = none) (a : State) :
    (s.cba.request ≠ none ∧ (finish a e).cba.request = s.cba.request) ∨ Presented (finish a e) := by
  have joined : (joinDirty a e).cba.request = e.cba.request := rfl
  cases request : e.cba.request with
  | none => exact .inr (presented_presentK (joined.trans request))
  | some q =>
    have kept : s.cba.request = some q := (h.resolve_right (by simp [request])).symm.trans request
    have standing : (joinDirty a e).cba.request = some q := joined.trans request
    refine .inl ⟨by simp [kept], ?_⟩
    rw [finish, presentK_of_request (by simp [standing]), standing, kept]

theorem finish_request_of_some {a e : State} {q : KRequest} (h : e.cba.request = some q) :
    (finish a e).cba.request = some q := by
  have standing : (joinDirty a e).cba.request = some q := h
  rw [finish, presentK_of_request (by simp [standing]), standing]

section
variable {c : Instr} {s : State} (joins : joinsRecords c = true)
include joins

/-- The records that join the dirty set in an event (R155). -/
theorem finish_joins : ∃ l, (finish (levelled c s) (effect c (levelled c s))).cba.dirty = s.cba.dirty ++ l ∧
    l.Sublist allRecords ∧ ∀ r ∈ l, r ∉ s.cba.dirty ∧ (PortLaw s →
      (∃ i, i < r.length ∧ (finish (levelled c s) (effect c (levelled c s))).recordWord r i ≠ s.recordWord r i) ∨
        mayDirty c s r = true) := by
  refine ⟨_, by rw [finish_dirty, levelled_cba], List.filter_sublist, fun r mem => ?_⟩
  obtain ⟨fresh, why⟩ := (joinsDirty_iff ..).1 (List.mem_filter.1 mem).2
  rw [levelled_cba] at fresh
  refine ⟨fresh, fun law => ?_⟩
  obtain dirty | ⟨i, short, changed⟩ := why
  · refine .inr ?_
    rw [← mayDirty_levelled]
    refine ((dirties_effect (portLaw_levelled law c) joins).new r dirty).resolve_left ?_
    rwa [levelled_cba]
  · refine .inl ⟨i, short, ?_⟩
    rwa [recordWord_finish, ← levelled_recordWord c s]

omit joins in
theorem finish_changed (r : RecName) (i : Nat) (short : i < r.length)
    (changed : (finish (levelled c s) (effect c (levelled c s))).recordWord r i ≠ s.recordWord r i) :
    r ∈ (finish (levelled c s) (effect c (levelled c s))).cba.dirty := by
  rw [recordWord_finish, ← levelled_recordWord c s] at changed
  rw [finish_dirty, List.mem_append, List.mem_filter, joinsDirty_iff]
  by_cases old : r ∈ (levelled c s).cba.dirty
  · exact .inl old
  · exact .inr ⟨mem_allRecords r, old, .inr ⟨i, short, changed⟩⟩

theorem requestStays_levelled : RequestStays s (effect c (levelled c s)) ∨
    ((effect c (levelled c s)).cba.request = none ∧ completesK c s = true) := by
  rw [← completesK_levelled]
  exact (request_effect (levelled c s) joins).imp_left fun h => h.after (by cases c <;> exact requestSame_of_cba rfl rfl rfl)

end

/-- Settles O15. -/
theorem changedRecordsJoinTheDirtySet : Obligations.ChangedRecordsJoinTheDirtySet := by
  unfold Obligations.ChangedRecordsJoinTheDirtySet
  refine ⟨by decide, fun c s t joins next => ?_⟩
  cases answers_of_exec next with
  | direct direct => exact absurd (joins.symm.trans direct) nofun
  | held rst =>
    refine ⟨⟨[], ?_, List.nil_sublist _, nofun⟩, fun r i _ changed => absurd (underRst_recordWord c s r i) changed,
      fun released => absurd (rst.symm.trans released) nofun⟩
    rw [List.append_nil]
    cases c <;> rfl
  | event rst =>
    refine ⟨finish_joins joins, finish_changed, fun _ => ⟨fun q request => ?_, ?_⟩⟩
    · obtain (kept | withdrawn) | ⟨-, completes⟩ := requestStays_levelled (s := s) joins
      · exact .inl (finish_request_of_some (kept.trans request))
      · refine .inr (.inr ⟨fun word => withdrawn.read (word ▸ request), withdrawn.free, withdrawn.before, ?_⟩)
        simpa using withdrawn.draining
      · exact .inr (.inl completes)
    · have ends : (effect c (levelled c s)).cba.request = s.cba.request ∨ (effect c (levelled c s)).cba.request = none := by
        obtain (kept | withdrawn) | ⟨ended, -⟩ := requestStays_levelled (s := s) joins
        · exact .inl kept
        · exact .inr withdrawn.request
        · exact .inr ended
      exact (request_finish ends (levelled c s)).imp_right fun h => ⟨h.held, h.read, h.writeback, h.rest⟩

end Sys2Proof.Laws
end
